-- ==== Sys2Proof/Word.lean ====
section
/-! DEFINITION. The words of the part: bytes on the Request Port and on the risers, and their plainest
big-endian composition ("multi-byte fields are sent most significant byte first", 00_scope.md section 5). -/

namespace Sys2Proof

/-- One byte of a message on the Request Port or on a riser. -/
abbrev Byte := BitVec 8

/-- A 48-bit node serial as a riser's contention reads it (R159). -/
abbrev SerialWord := BitVec 48

/-- The two bytes of a 16-bit field, most significant first. -/
def beBytes16 (x : BitVec 16) : List Byte :=
  [x.extractLsb' 8 8, x.extractLsb' 0 8]

/-- The four bytes of a 32-bit field, most significant first. -/
def beBytes32 (x : BitVec 32) : List Byte :=
  [x.extractLsb' 24 8, x.extractLsb' 16 8, x.extractLsb' 8 8, x.extractLsb' 0 8]

/-- The six bytes of a 48-bit field, most significant first. -/
def beBytes48 (x : BitVec 48) : List Byte :=
  [x.extractLsb' 40 8, x.extractLsb' 32 8, x.extractLsb' 24 8, x.extractLsb' 16 8, x.extractLsb' 8 8, x.extractLsb' 0 8]

/-- A 16-bit field from its two bytes, most significant first. -/
def beWord16 (b1 b0 : Byte) : BitVec 16 := b1 ++ b0

/-- A 32-bit field from its four bytes, most significant first. -/
def beWord32 (b3 b2 b1 b0 : Byte) : BitVec 32 := b3 ++ b2 ++ b1 ++ b0

/-- A 48-bit field from its six bytes, most significant first. -/
def beWord48 (b5 b4 b3 b2 b1 b0 : Byte) : BitVec 48 := b5 ++ b4 ++ b3 ++ b2 ++ b1 ++ b0

end Sys2Proof
end

