-- ==== Sys2Proof/Syntax.lean ====
section
/-! DEFINITION. The commands of the part, one constructor for each row of spec/opcode_table.json, and the
messages that they carry. A request's fields travel in the message that SEND_REQUEST clocks in and wait in the
request queue (R176); the row of a request (BOOK, AMEND, ...) is the port TAKING the request at the head of that
queue (R177), so that row needs no operand of its own. An event carries what comes from outside the part at that
event: a cue word, two conversions, a node's reply, a contention's winner. -/

namespace Sys2Proof

/-- Four levels R, G, B and W (a colour, a set of wattages, or the levels of a zone). -/
structure Levels where
  r : Nat
  g : Nat
  b : Nat
  w : Nat
deriving DecidableEq, Repr

/-- A code in a message: one the manual gives a meaning, or any other ("an unknown source", R172). -/
inductive Code (α : Type) where
  | known (a : α)
  | unknown
deriving DecidableEq, Repr

/-- The kinds of a step (R73). Pulse, Chase, Sparkle and Sweep are also the effects that a zone may permit. -/
inductive StepKind where
  | static | pulse | chase | sparkle | sweep
deriving DecidableEq, Repr

/-- The direction of a chase (R73). -/
inductive Direction where
  | up | down
deriving DecidableEq, Repr

/-- A step's kind with its parameters (R73); times in ms, speed in roles per second. -/
inductive Effect where
  | static (fade : Nat)
  | pulse (onTime offTime : Nat)
  | chase (period width speed : Nat) (direction : Direction)
  | sparkle (density : Nat)
  | sweep (cycle : Nat)
deriving DecidableEq, Repr

/-- What a program does at its end (R72). -/
inductive EndAction where
  | hold | loop
deriving DecidableEq, Repr

/-- One step as Program Steps carries it (R73, R76). -/
structure StepBody where
  offset : Nat
  low : Nat
  high : Nat
  effect : Code Effect
  colour : Levels
deriving DecidableEq, Repr

/-- A Mark Time's mode (R118). -/
inductive MarkMode where
  | now | nextPulse
deriving DecidableEq, Repr

/-- A riser's rate policy (R137). -/
inductive RatePolicy where
  | keep | lower
deriving DecidableEq, Repr

/-- The six lines that Set Output names (R172). -/
inductive OutputLine where
  | contactor (feeder : Fin 4)
  | showLive
  | curfewActive
deriving DecidableEq, Repr

/-- What drives an output line (R167, R172). -/
inductive OutputSource where
  | schedule | operator
deriving DecidableEq, Repr

/-- A Set Output command: Open or Closed for a contactor, Asserted or Deasserted for an indicator line (R172). -/
inductive OutputCommand where
  | open_ | closed | asserted | deasserted
deriving DecidableEq, Repr

/-- One day of the almanac (R123): a day number and the sunset and sunrise times of day in ms. -/
structure AlmanacDay where
  day : Nat
  sunset : Nat
  sunrise : Nat
deriving DecidableEq, Repr

/-- The change kinds, in the order of R180, which is the order of the notice mask's bits. -/
inductive ChangeKind where
  | started | ended | retired | eclipsed | regained | followLost | stalled | estimated
  | nodeState | holderChanged | nodeFault | localOverride
  | riserState | rateChanged | rollCallDone | stranger | underrun
  | tripped | contactorChanged | scalingChanged
  | timeState | stepped
  | cueState | cuePause
deriving DecidableEq, Repr

/-- The fields of Set Curfew: the form Off, or a window, a ceiling and a barred set (R102). -/
inductive CurfewBody where
  | off
  | window (startMinute endMinute ceiling : Nat) (barred : List StepKind)
deriving DecidableEq, Repr

/-- The fields of Set Ambient: any subset of the settings, and Resettle (R107). -/
structure AmbientBody where
  gmin : Option Nat
  gmax : Option Nat
  aref : Option Nat
  sFast : Option Nat
  sSlow : Option Nat
  settle : Option Nat
  resettle : Bool
deriving DecidableEq, Repr

/-- The fields of Configure Zone: any subset of the set fields, or Remove (R155). The serial may be carried as
absent: `some none`. -/
structure ZoneBody where
  riser : Option Nat
  slot : Option Nat
  face : Option Nat
  feeder : Option Nat
  role : Option Nat
  serial : Option (Option Nat)
  isProtected : Option Bool
  permitted : Option (List StepKind)
  trim : Option Nat
  watts : Option Levels
  fallback : Option Levels
  remove : Bool
deriving DecidableEq, Repr

/-- The fields of Configure Riser: any subset of the settings (R139); rates in frames per second. -/
structure RiserBody where
  enabled : Option Bool
  maxRate : Option Nat
  policy : Option (Code RatePolicy)
  lag : Option Nat
  lost : Option Nat
deriving DecidableEq, Repr

/-- The fields of every request whose byte layout the manual does not give ("everywhere else, messages and records
are told by their fields", 00_scope.md section 5), kinds 3 to 36 of section 11.5. -/
inductive RequestFields where
  | withdraw (number : Nat)
  | lookUp (number : Nat)
  | listUpcoming (start number : Nat)
  | forecast (instant zone : Nat)
  | programOpen (number steps length : Nat) (endAction : Code EndAction) (fallback : Levels)
  | programSteps (number : Nat) (steps : List StepBody)
  | programClose (number : Nat)
  | programRemove (number : Nat)
  | programReport (number : Nat)
  | configureZone (zone : Nat) (body : ZoneBody)
  | clearNode (zone : Nat)
  | zoneReport (zone : Nat)
  | configureRiser (riser : Nat) (body : RiserBody)
  | riserReset (riser : Nat)
  | rollCall (riser : Nat)
  | riserReport (riser : Nat)
  | markTime (day timeOfDay : Nat) (mode : Code MarkMode)
  | setCalendarBase (base : Nat)
  | timeReport
  | loadAlmanac (days : List AlmanacDay)
  | followAgain (number : Nat)
  | cueReport
  | setCurfew (body : CurfewBody)
  | setAmbient (body : AmbientBody)
  | setHoldLook (look : Levels)
  | configureSchedule (armLead handover : Option Nat)
  | chainReport
  | configureFeeder (feeder : Nat) (budget tripMark : Option Nat)
  | setOutput (line : Code OutputLine) (source : Option (Code OutputSource)) (command : Option (Code OutputCommand))
  | recloseFeeder (feeder : Nat)
  | feederReport (feeder : Nat)
  | readChannel (channel : Nat)
  | setNoticeMask (kinds : List ChangeKind)
  | restartSchedule
deriving DecidableEq, Repr

/-- A request's body. Book and Amend carry bytes, in the layout of section 11.6; every other request carries its
fields; `other` stands for a body whose length suits no request (R177). -/
inductive RequestBody where
  | bytes (body : List Byte)
  | fields (f : RequestFields)
  | other
deriving DecidableEq, Repr

/-- One request as a Send Request clocks it in (R176): the four-byte header of section 11.6, its body, and the number
of bytes that the transaction carried after the kind byte. Below 4 the header is incomplete. -/
structure Request where
  length : BitVec 16
  kind : Byte
  tag : Byte
  carried : Nat
  body : RequestBody
deriving DecidableEq, Repr

/-- The commands of the part: one constructor for each row of spec/opcode_table.json, in the table's order. -/
inductive Instr where
  /-- FULL_RESET: power-on or the reset pin (R47). -/
  | fullReset
  /-- SEND_REQUEST: an SPI transaction of kind 1 (R176). -/
  | sendRequest (r : Request)
  /-- FETCH_REPLY: an SPI transaction of kind 2; `whole` says whether the last byte was clocked out (R178). -/
  | fetchReply (whole : Bool)
  /-- FETCH_NOTICE: an SPI transaction of kind 3; `whole` says whether the last byte was clocked out (R181). -/
  | fetchNotice (whole : Bool)
  /-- PORT_STATUS: an SPI transaction of kind 4 (R175). -/
  | portStatus
  /-- UNKNOWN_TRANSACTION_KIND: a transaction whose kind byte lies outside 1..4 (R175). -/
  | unknownTransactionKind (kind : Byte)
  /-- PORT_MALFORMED_REFUSAL: the port takes the head request and refuses it itself (R177). -/
  | portMalformedRefusal
  /-- BOOK (R13). -/
  | book
  /-- AMEND (R16). -/
  | amend
  /-- WITHDRAW (R21). -/
  | withdraw
  /-- LOOK_UP (R22). -/
  | lookUp
  /-- LIST_UPCOMING (R23). -/
  | listUpcoming
  /-- FORECAST (R24). -/
  | forecast
  /-- ENTRY_ARMED: now reaches the start less the arm lead of this booking's Upcoming entry (R35). -/
  | entryArmed (number : Nat)
  /-- OCCURRENCE_START: now reaches the start of the entry at the head of the Upcoming List (R36). -/
  | occurrenceStart
  /-- OCCURRENCE_END: now reaches the end of this booking's active occurrence (R41). -/
  | occurrenceEnd (number : Nat)
  /-- PANEL_HOLD_ASSERTION (R63). -/
  | panelHoldAssertion
  /-- PANEL_HOLD_RELEASE (R65). -/
  | panelHoldRelease
  /-- PROGRAM_OPEN (R75). -/
  | programOpen
  /-- PROGRAM_STEPS (R76). -/
  | programSteps
  /-- PROGRAM_CLOSE (R77). -/
  | programClose
  /-- PROGRAM_REMOVE (R78). -/
  | programRemove
  /-- PROGRAM_REPORT (R79). -/
  | programReport
  /-- RENDER_START (R91). -/
  | renderStart
  /-- RENDER_TIMER_EXPIRY_LOST (R91). -/
  | renderTimerExpiryLost
  /-- RENDER_COMPLETION (R93). -/
  | renderCompletion
  /-- CURFEW_OPENING (R103). -/
  | curfewOpening
  /-- CURFEW_CLOSING (R103). -/
  | curfewClosing
  /-- SET_CURFEW (R102). -/
  | setCurfew
  /-- SET_AMBIENT (R107). -/
  | setAmbient
  /-- SET_HOLD_LOOK (R108). -/
  | setHoldLook
  /-- CONFIGURE_SCHEDULE (R109). -/
  | configureSchedule
  /-- CHAIN_REPORT (R109). -/
  | chainReport
  /-- CIVIL_TICK (R111). -/
  | civilTick
  /-- MIDNIGHT (R123). -/
  | midnight
  /-- PULSE_EDGE: an edge on the pulse input, `elapsed` µs of own count after the present instant (R112). -/
  | pulseEdge (elapsed : Nat)
  /-- HOLDOVER_TIMEOUT (R113). -/
  | holdoverTimeout
  /-- EDGE_COUNTER_SATURATION (R112). -/
  | edgeCounterSaturation
  /-- PENDING_MARK_EXPIRY (R119). -/
  | pendingMarkExpiry
  /-- MARK_TIME (R118). -/
  | markTime
  /-- SET_CALENDAR_BASE (R121). -/
  | setCalendarBase
  /-- TIME_REPORT (R122). -/
  | timeReport
  /-- LOAD_ALMANAC (R124). -/
  | loadAlmanac
  /-- CUE_WORD: a whole cue word arrives; `checked` says whether its check value matches (R127). -/
  | cueWord (checked : Bool) (time : Nat) (running : Bool)
  /-- SILENCE_TIMEOUT (R128). -/
  | silenceTimeout
  /-- FOLLOW_AGAIN (R134). -/
  | followAgain
  /-- CUE_REPORT (R136). -/
  | cueReport
  /-- CONFIGURE_RISER (R139). -/
  | configureRiser
  /-- RISER_RESET (R140). -/
  | riserReset
  /-- ROLL_CALL (R158). -/
  | rollCall
  /-- RISER_REPORT (R153). -/
  | riserReport
  /-- FRAME_SEND (R141). -/
  | frameSend (riser : Fin 4)
  /-- TALLY_REPLY: the bytes that arrive in the tally window (R146). -/
  | tallyReply (riser : Fin 4) (reply : List Byte)
  /-- NOTICE_WINDOW: the contention's winner: none, 0 for a join request, 1..24 for an address (R147). -/
  | noticeWindow (riser : Fin 4) (contender : Option Nat)
  /-- DIRECTED_WINDOW: `winner` is the lowest serial of a round's contention, read only there (R149, R159). -/
  | directedWindow (riser : Fin 4) (winner : Option SerialWord)
  /-- DIRECTED_ATTEMPT_FAILED (R149). -/
  | directedAttemptFailed (riser : Fin 4)
  /-- NOTICE_READ: the bytes of a Notice Read's reply (R150). -/
  | noticeRead (riser : Fin 4) (reply : List Byte)
  /-- SET_FALLBACK: the bytes of a Set Fallback's reply (R150). -/
  | setFallback (riser : Fin 4) (reply : List Byte)
  /-- OFFER: the bytes of an Offer Request's reply (R159). -/
  | offer (riser : Fin 4) (reply : List Byte)
  /-- LINE_FAULT (R151). -/
  | lineFault (riser : Fin 4)
  /-- RETRY_TIMER_EXPIRY (R151). -/
  | retryTimerExpiry (riser : Fin 4)
  /-- CONFIGURE_ZONE (R155). -/
  | configureZone
  /-- CLEAR_NODE (R163). -/
  | clearNode
  /-- ZONE_REPORT (R164). -/
  | zoneReport
  /-- CALIBRATION_END (R165). -/
  | calibrationEnd
  /-- SENSOR_SCAN: one channel with its two conversions (R165). -/
  | sensorScan (channel : Fin 8) (first second : BitVec 12)
  /-- READ_CHANNEL (R166). -/
  | readChannel
  /-- IDLE_TIMER_EXPIRY (R171). -/
  | idleTimerExpiry (feeder : Fin 4)
  /-- RECLOSE_FEEDER (R169). -/
  | recloseFeeder
  /-- SET_OUTPUT (R172). -/
  | setOutput
  /-- CONFIGURE_FEEDER (R173). -/
  | configureFeeder
  /-- FEEDER_REPORT (R173). -/
  | feederReport
  /-- SET_NOTICE_MASK (R182). -/
  | setNoticeMask
  /-- RESTART_SCHEDULE (R184). -/
  | restartSchedule
  /-- OFFER_MISSING_OR_NOT_GOOD (R159). -/
  | offerMissingOrNotGood (riser : Fin 4)
deriving DecidableEq, Repr

end Sys2Proof
end

