-- ==== Sys2Proof/Decode.lean ====
section
/-! DEFINITION. What is read from bits. No row of spec/opcode_table.json has bits of its own, so no word spells a command. The
one byte layout that the manual gives a request is the booking body of section 11.6; its reading and its writing stand here. -/

namespace Sys2Proof

/-- The command that a word spells by the opcode table's bits: the table gives no row any bits, so none (assumption log 41). -/
def decodeTableWord (_nbits _w : Nat) : Option Instr := none

/-- The booking body of section 11.6, its fields as they stand in the bytes, before any range is checked. Zone z is bit z of
`zones`. -/
structure BookingBody where
  number : BitVec 16
  tier : Byte
  kind : Byte
  first : BitVec 16
  last : BitVec 16
  weekdays : Byte
  skipCount : Byte
  skip1 : BitVec 16
  skip2 : BitVec 16
  skip3 : BitVec 16
  skip4 : BitVec 16
  startKind : Byte
  startValue : BitVec 32
  endKind : Byte
  endValue : BitVec 32
  program : Byte
  zones : BitVec 96
  ceiling : BitVec 16
  exempt : Byte
  followFlag : Byte
  follow : BitVec 32
  handoverFlag : Byte
  handover : BitVec 16
deriving DecidableEq, Repr

/-- One byte, and the bytes behind it. -/
def read8 : List Byte → Option (Byte × List Byte)
  | x :: l => some (x, l)
  | [] => none

/-- A two-byte field, and the bytes behind it. -/
def read16 : List Byte → Option (BitVec 16 × List Byte)
  | b1 :: b0 :: l => some (beWord16 b1 b0, l)
  | _ => none

/-- A four-byte field, and the bytes behind it. -/
def read32 : List Byte → Option (BitVec 32 × List Byte)
  | b3 :: b2 :: b1 :: b0 :: l => some (beWord32 b3 b2 b1 b0, l)
  | _ => none

/-- The twelve bytes of a zone set, and the bytes behind it: zone z is bit z mod 8 of byte floor(z / 8). -/
def readZones : List Byte → Option (BitVec 96 × List Byte)
  | c0 :: c1 :: c2 :: c3 :: c4 :: c5 :: c6 :: c7 :: c8 :: c9 :: c10 :: c11 :: l =>
    some (c11 ++ c10 ++ c9 ++ c8 ++ c7 ++ c6 ++ c5 ++ c4 ++ c3 ++ c2 ++ c1 ++ c0, l)
  | _ => none

/-- The twelve bytes of a zone set. -/
def zoneBytes (x : BitVec 96) : List Byte :=
  [x.extractLsb' 0 8, x.extractLsb' 8 8, x.extractLsb' 16 8, x.extractLsb' 24 8, x.extractLsb' 32 8, x.extractLsb' 40 8,
   x.extractLsb' 48 8, x.extractLsb' 56 8, x.extractLsb' 64 8, x.extractLsb' 72 8, x.extractLsb' 80 8, x.extractLsb' 88 8]

/-- The booking body that 52 bytes spell (section 11.6); none for any other length. -/
def decodeBookingBody (l0 : List Byte) : Option BookingBody := do
  let (number, l1) ← read16 l0
  let (tier, l2) ← read8 l1
  let (kind, l3) ← read8 l2
  let (first, l4) ← read16 l3
  let (last, l5) ← read16 l4
  let (weekdays, l6) ← read8 l5
  let (skipCount, l7) ← read8 l6
  let (skip1, l8) ← read16 l7
  let (skip2, l9) ← read16 l8
  let (skip3, l10) ← read16 l9
  let (skip4, l11) ← read16 l10
  let (startKind, l12) ← read8 l11
  let (startValue, l13) ← read32 l12
  let (endKind, l14) ← read8 l13
  let (endValue, l15) ← read32 l14
  let (program, l16) ← read8 l15
  let (zones, l17) ← readZones l16
  let (ceiling, l18) ← read16 l17
  let (exempt, l19) ← read8 l18
  let (followFlag, l20) ← read8 l19
  let (follow, l21) ← read32 l20
  let (handoverFlag, l22) ← read8 l21
  let (handover, l23) ← read16 l22
  if l23 = [] then
    some ⟨number, tier, kind, first, last, weekdays, skipCount, skip1, skip2, skip3, skip4, startKind, startValue, endKind,
      endValue, program, zones, ceiling, exempt, followFlag, follow, handoverFlag, handover⟩
  else none

/-- The 52 bytes of a booking body (section 11.6). -/
def encodeBookingBody (x : BookingBody) : List Byte :=
  beBytes16 x.number ++ ([x.tier] ++ ([x.kind] ++ (beBytes16 x.first ++ (beBytes16 x.last ++ ([x.weekdays] ++ ([x.skipCount] ++
  (beBytes16 x.skip1 ++ (beBytes16 x.skip2 ++ (beBytes16 x.skip3 ++ (beBytes16 x.skip4 ++ ([x.startKind] ++
  (beBytes32 x.startValue ++ ([x.endKind] ++ (beBytes32 x.endValue ++ ([x.program] ++ (zoneBytes x.zones ++
  (beBytes16 x.ceiling ++ ([x.exempt] ++ ([x.followFlag] ++ (beBytes32 x.follow ++ ([x.handoverFlag] ++
  (beBytes16 x.handover ++ []))))))))))))))))))))))

end Sys2Proof
end

