-- ==== Sys2Proof/Machine/Records.lean ====
section
/-! DEFINITION. The records that the blocks of the part keep, each from the table of fields that its rule gives. -/

namespace Sys2Proof.Machine

/-- An instant of civil time in ms (R26). Windows are computed before they are known to lie in range, so it is signed. -/
abbrev Instant := Int

/-! ## Bookings (chapter 1) -/

/-- A booking's tier (R2). -/
inductive Tier where
  | base | showing | civic | urgent | solemn
deriving DecidableEq, Repr

/-- The rank of a tier, Base 0 to Solemn 4 (R2). -/
def Tier.rank : Tier → Nat
  | .base => 0 | .showing => 1 | .civic => 2 | .urgent => 3 | .solemn => 4

/-- A pattern's kind (R2). -/
inductive PatternKind where
  | once | daily | weekly
deriving DecidableEq, Repr

/-- A pattern in the normal form of R3. -/
structure Pattern where
  kind : PatternKind
  first : Nat
  last : Nat
  weekdays : List Nat
deriving DecidableEq, Repr

/-- What fixes a start or an end within a day (R2): a time of day in ms, or an offset in minutes. -/
inductive Anchor where
  | clock (time : Nat)
  | sunset (offset : Int)
  | sunrise (offset : Int)
deriving DecidableEq, Repr

/-- A booking's End field (R2): a duration in s, or an end anchor. -/
inductive EndField where
  | duration (seconds : Nat)
  | anchored (a : Anchor)
deriving DecidableEq, Repr

/-- The host fields of a booking (R2), in the normal form of R3; the zone set and the skip days are kept in rising order. -/
structure BookingFields where
  tier : Tier
  pattern : Pattern
  skip : List Nat
  start : Anchor
  finish : EndField
  program : Nat
  zones : List Nat
  ceiling : Nat
  exempt : Bool
  follow : Option Nat
  handover : Option Nat
deriving DecidableEq, Repr

/-- The booking states (R6). -/
inductive BookingState where
  | held | scheduled | running | stalled | retiring
deriving DecidableEq, Repr

/-- How a booking's most recent occurrence was disposed of (R5), in the order that numbers the outcomes. -/
inductive LastOutcome where
  | noOutcome | completed | cutShort | evicted | skipped | missed | restarted
deriving DecidableEq, Repr

/-- Which instants of a window rest on an estimated almanac time (R28). -/
structure EstimateMarks where
  start : Bool
  finish : Bool
deriving DecidableEq, Repr

/-- Whether a window is estimated: its start or its end rests on an estimated time (R28). -/
def EstimateMarks.any (m : EstimateMarks) : Bool := m.start || m.finish

/-- One occupied slot of the Booking Table (R1, R2, R4). The next occurrence and the active occurrence of R4 are the
booking's entries in the Upcoming List and the Active Table, so they are read there. `uid` and `marks` are the model's own:
`uid` tells a booking from a later one booked under the same number (R94), and `marks` are those of the window last placed for
the booking, its end's replaced with an amended end (R15, R25; assumption log 8). -/
structure Booking where
  number : Nat
  fields : BookingFields
  state : BookingState
  boundary : Option Instant
  lastOutcome : LastOutcome
  runCount : Nat
  uid : Nat
  marks : EstimateMarks
deriving DecidableEq, Repr

/-! ## Occurrences (chapter 2) -/

/-- One entry of the Upcoming List (R34). -/
structure UpcomingEntry where
  number : Nat
  tier : Tier
  day : Nat
  start : Instant
  finish : Instant
  estimated : Bool
  armed : Bool
deriving DecidableEq, Repr

/-- An occurrence's follow status (R131). -/
inductive FollowStatus where
  | unfollowed | awaiting | following | free
deriving DecidableEq, Repr

/-- One record of the Active Table (R37). `id` is the model's own: two holders are the same when they are the same
record (R55). -/
structure Occurrence where
  number : Nat
  tier : Tier
  day : Nat
  start : Instant
  finish : Instant
  position : Int
  follow : FollowStatus
  held : Nat
  id : Nat
deriving DecidableEq, Repr

/-! ## Zone holding (chapter 3) -/

/-- The holder that a Holding Table entry names, with its copies of tier and start (R50). -/
structure Holder where
  id : Nat
  number : Nat
  tier : Tier
  start : Instant
deriving DecidableEq, Repr

/-- One entry of the Holding Table (R50). -/
structure HoldingEntry where
  holder : Option Holder
  claimants : Nat
deriving DecidableEq, Repr

/-! ## Programs (chapter 4) -/

/-- A stored step (R73). -/
structure Step where
  offset : Nat
  low : Nat
  high : Nat
  effect : Effect
  colour : Levels
deriving DecidableEq, Repr

/-- The fields of a Loading or Ready program (R72); the steps appended are the length of `steps`. -/
structure ProgramData where
  length : Nat
  endAction : EndAction
  fallback : Levels
  declared : Nat
  steps : List Step
deriving DecidableEq, Repr

/-- A program slot (R71): in an Empty slot the other fields are absent (R72). -/
inductive ProgramSlot where
  | empty
  | loading (p : ProgramData)
  | ready (p : ProgramData)
deriving DecidableEq, Repr

/-- The effect token of a look (section 4.4). -/
inductive Token where
  | plain
  | sparkle (density : Nat)
  | sweep (cycle : Nat)
deriving DecidableEq, Repr

/-! ## The Level Chain (chapter 5) -/

/-- A node's channel layout (R97). -/
inductive Layout where
  | rgbw | rgb | mono
deriving DecidableEq, Repr

/-- A handover record (R99): from-levels in the layout they were taken in, the length, and the start on the part's own
millisecond count. -/
structure Handover where
  from_ : Levels
  layout : Layout
  length : Nat
  start : Nat
deriving DecidableEq, Repr

/-- What the latest render holds for a zone (R93): nothing, the "no levels" marker, or levels in the node's layout with
the effect token. -/
inductive ZoneOut where
  | absent
  | noLevels
  | levels (l : Levels) (t : Token)
deriving DecidableEq, Repr

/-- The holder of a zone as a render took it (R91): its booking, that booking's `uid`, and its position. -/
structure TakenHolder where
  number : Nat
  uid : Nat
  position : Int
deriving DecidableEq, Repr

/-- What a render in flight has made of a zone it has reached (R92): the class, and for a Lit zone the levels after stage
7, the facts stage 8 and the completion need, and whether its handover is at its end by a change of layout (R99). -/
inductive ZoneResult where
  | noLevels
  | tripped
  | lit (levels : Levels) (layout : Layout) (token : Token) (feeder : Nat) (watts : Levels) (source : Option TakenHolder)
      (ended : Bool)
deriving DecidableEq, Repr

/-- A render in flight (R91): what it took at its instant, the next zone it is to reach, and what it has made so far.
`rewritten` are the zones on which a handover has started since, so that their record is no longer the one it took (R99,
R101). -/
structure Flight where
  instant : Nat
  holders : List (Option TakenHolder)
  panelHold : Bool
  handovers : List (Option Handover)
  rewritten : List Nat
  nextZone : Nat
  results : List (Option ZoneResult)
deriving DecidableEq, Repr

/-- A face's gain, settle count and accumulation (R105). -/
structure Face where
  gain : Nat
  settle : Nat
  sum : Nat
  count : Nat
deriving DecidableEq, Repr

/-- The ambient settings (R107). -/
structure Ambient where
  gmin : Nat
  gmax : Nat
  aref : Nat
  sFast : Nat
  sSlow : Nat
  settle : Nat
deriving DecidableEq, Repr

/-- The curfew settings other than Off (R102). -/
structure Curfew where
  startMinute : Nat
  endMinute : Nat
  ceiling : Nat
  barred : List StepKind
deriving DecidableEq, Repr

/-- The Level Chain's own records (chapter 5). `lastExpiry` is the render timer: the own µs of its last expiry. -/
structure LevelChain where
  faces : List Face
  ambient : Ambient
  curfew : Option Curfew
  windowOpen : Bool
  holdLook : Levels
  defaultHandover : Nat
  latest : List ZoneOut
  flight : Option Flight
  lastExpiry : Nat
deriving DecidableEq, Repr

/-! ## Time Base (chapter 6) -/

/-- The Time Base's state (R110). -/
inductive TimeState where
  | unset | free | locked | holdover
deriving DecidableEq, Repr

/-- A pending mark (R110): day, time of day, and the own instant (µs) at which it was taken. -/
structure PendingMark where
  day : Nat
  timeOfDay : Nat
  taken : Nat
deriving DecidableEq, Repr

/-- The Time Base record (R110) less the almanac. `lastEdge` is the edge counter: the own µs at which it last started from
0, none while it holds no edge yet. `tickFrom` and `ticks` count the regular ticks (R111), `withhold` is a slew's withheld
tick (R115), `lastInterval` is what a released interval count shows (R112), and `midnightDue` says that a tick carried now
to a whole day whose midnight is still to be taken (R111). -/
structure TimeBase where
  state : TimeState
  now : Option Instant
  rate : Nat
  lastEdge : Option Nat
  run : List Nat
  interval : Nat
  lastInterval : Nat
  frozen : Bool
  bad : Nat
  phase : Option Int
  slew : Int
  lastStep : Option (Int × Instant)
  pending : Option PendingMark
  base : Nat
  tickFrom : Nat
  ticks : Nat
  withhold : Bool
  midnightDue : Bool
deriving DecidableEq, Repr

/-! ## Cue Clock Receiver (chapter 7) -/

/-- The receiver's state (R126). -/
inductive CueState where
  | silent | acquiring | locked
deriving DecidableEq, Repr

/-- The receiver record (R126). `silentFrom` is the silence timer: the own µs at which it last started, none while stopped. -/
structure CueReceiver where
  state : CueState
  last : Option Nat
  running : Bool
  run : Nat
  silentFrom : Option Nat
  ticks : Nat
  jumps : Nat
  rejected : Nat
deriving DecidableEq, Repr

/-! ## Risers and zone nodes (chapters 8 and 9) -/

/-- The four frame rates (R137), in frames per second. -/
inductive Rate where
  | r20 | r25 | r40 | r50
deriving DecidableEq, Repr

/-- A riser's state (R138). -/
inductive RiserState where
  | off | starting | running | faulted
deriving DecidableEq, Repr

/-- A node's class (R159). -/
inductive NodeClass where
  | facade | beacon
deriving DecidableEq, Repr

/-- A node's offer (R159), its local effects and rates as sets in rising order. -/
structure Offer where
  layout : Layout
  effects : List StepKind
  rates : List Rate
  class_ : NodeClass
  serial : Nat
deriving DecidableEq, Repr

/-- Where the round at the head of the directed queue stands (R159, R160). -/
inductive RoundStage where
  | contention
  | offering (winner : Nat)
  | deciding (winner : Nat) (offer : Option Offer)
deriving DecidableEq, Repr

/-- The kinds of a directed exchange, with their bodies (R148). -/
inductive ExchangeKind where
  | noticeRead
  | setFallback (colour : Levels)
  | resetNode
  | round
deriving DecidableEq, Repr

/-- One entry of a directed queue (R148); slot 0 for a round. -/
structure Exchange where
  kind : ExchangeKind
  slot : Nat
  attempts : Nat
deriving DecidableEq, Repr

/-- One slot of a level frame (R142). -/
inductive SlotEntry where
  | noLevels
  | levels (l : Levels) (t : Token)
deriving DecidableEq, Repr

/-- A level frame (R142); the target is 0 for none. -/
structure Frame where
  sequence : Nat
  rate : Rate
  target : Nat
  slots : List SlotEntry
deriving DecidableEq, Repr

/-- A directed message as the part sends it (section 8.8). -/
inductive Directed where
  | resetNode (slot : Nat)
  | noticeRead (slot : Nat)
  | setFallback (slot : Nat) (colour : Levels)
  | rollCall
  | offerRequest
  | assign (serial slot : Nat)
  | standBy (serial : Nat)
deriving DecidableEq, Repr

/-- How far a frame period has gone (section 8.2): none in flight; the tally window is open; a tally has arrived; the notice
window has ended; the directed window waits for a reply; the directed window has ended. -/
inductive Phase where
  | idle | tally | tallied | noticed | exchanging | done
deriving DecidableEq, Repr

/-- The roll-call state with its round count (R158). -/
inductive RollCallState where
  | idle
  | running
deriving DecidableEq, Repr

/-- A riser record (R137). `retryFrom` is the retry timer: the own µs at which it started. `phase`, `lastSend`, `round` and
`sent` are the frame period, the round and the directed message last sent that the rules of chapters 8 and 9 speak of. -/
structure Riser where
  state : RiserState
  enabled : Bool
  maxRate : Rate
  rate : Rate
  pending : Option Rate
  policy : RatePolicy
  lag : Nat
  lost : Nat
  sequence : Nat
  queue : List Exchange
  rollCall : RollCallState
  rounds : Nat
  cursor : Nat
  lastFrame : Option Frame
  newRender : Bool
  stranger : Option Nat
  underruns : Nat
  retryFrom : Option Nat
  phase : Phase
  lastSend : Nat
  round : RoundStage
  sent : Option Directed
deriving DecidableEq, Repr

/-- A zone's node state (R157). -/
inductive NodeState where
  | vacant | absent | ready | lagging | lost | refused
deriving DecidableEq, Repr

/-- Why a joint profile is refused (R162). -/
inductive RefusedFor where
  | class_ | rate
deriving DecidableEq, Repr

/-- A joint profile (R162); `refused` is none when it is Accepted. -/
structure Profile where
  layout : Layout
  offered : List StepKind
  local_ : List StepKind
  rates : List Rate
  class_ : NodeClass
  refused : Option RefusedFor
deriving DecidableEq, Repr

/-- The status set of a tally (R146). -/
structure TallyStatus where
  driverFault : Bool
  overheat : Bool
  localOverride : Bool
deriving DecidableEq, Repr

/-- A configured zone's record (R154). -/
structure Zone where
  riser : Nat
  slot : Nat
  face : Nat
  feeder : Nat
  role : Nat
  serial : Option Nat
  isProtected : Bool
  permitted : List StepKind
  trim : Nat
  watts : Levels
  fallback : Levels
  node : NodeState
  profile : Option Profile
  age : Nat
  tally : TallyStatus
  fault : Option Nat
  last : Levels
  handover : Option Handover
deriving DecidableEq, Repr

/-! ## Sensors, feeders and outputs (chapter 10) -/

/-- A sensor channel (R165). `nextScan` is the own µs at which its next scan is due. -/
structure Channel where
  latest : Option Nat
  age : Nat
  nextScan : Nat
deriving DecidableEq, Repr

/-- The Sensor Scan (R165). -/
structure SensorScan where
  calibrating : Bool
  channels : List Channel
deriving DecidableEq, Repr

/-- A feeder record (R167). `closed` is the contactor, `commandClosed` the operator command, and `idleFrom` the idle timer:
the own µs at which it started, none while stopped. The arm claims are kept in rising order. -/
structure Feeder where
  budget : Nat
  tripMark : Nat
  source : OutputSource
  commandClosed : Bool
  closed : Bool
  tripped : Bool
  overCount : Nat
  armClaims : List Nat
  idleFrom : Option Nat
  load : Nat
  scale : Nat
deriving DecidableEq, Repr

/-- An indicator line (R172): its source, its operator command and its output. -/
structure Indicator where
  source : OutputSource
  command : Bool
  output : Bool
deriving DecidableEq, Repr

/-! ## The Notice List and the replies (chapter 11) -/

/-- The record that a notice concerns (R180). -/
inductive RecordId where
  | booking (number : Nat)
  | zone (zone : Nat)
  | riser (riser : Nat)
  | feeder (feeder : Nat)
  | timeBase
  | cueClock
deriving DecidableEq, Repr

/-- The status codes, in the order of R179, which numbers them from 0. -/
inductive Status where
  | ok | malformed | noSuchRecord | duplicate | tableFull | poolFull | noProgram | inUse | isProtected | outOfRange | busy
  | notLocked | wrongState
deriving DecidableEq, Repr

/-- The warnings of a reply (R15, R179). -/
structure Warnings where
  shadowed : Bool
  noOccurrence : Bool
  estimated : Bool
  stalled : Bool
deriving DecidableEq, Repr

/-- An active occurrence as Look Up returns it: not its zones held (R22, R60). -/
structure ActiveView where
  day : Nat
  start : Instant
  finish : Instant
  position : Int
  follow : FollowStatus
deriving DecidableEq, Repr

/-- A booking as Look Up returns it (R22). -/
structure BookingView where
  number : Nat
  fields : BookingFields
  state : BookingState
  next : Option UpcomingEntry
  active : Option ActiveView
  boundary : Option Instant
  lastOutcome : LastOutcome
  runCount : Nat
deriving DecidableEq, Repr

/-- A contender of a Forecast (R25). -/
structure Contender where
  number : Nat
  tier : Tier
  day : Nat
  start : Instant
  finish : Instant
  estimated : Bool
deriving DecidableEq, Repr

/-- Program Report's body (R79); the fields are absent for an Empty slot. -/
structure ProgramView where
  number : Nat
  state : Nat
  references : Nat
  fields : Option (Nat × EndAction × Levels × Nat × Nat)
  freeCount : Nat
deriving DecidableEq, Repr

/-- A zone's handover as Zone Report shows it (R99): its length and its elapsed time. -/
structure HandoverView where
  length : Nat
  elapsed : Nat
deriving DecidableEq, Repr

/-- A zone's holder as Zone Report shows it (R68). -/
structure HolderView where
  number : Nat
  tier : Tier
  start : Instant
deriving DecidableEq, Repr

/-- Zone Report's body (R68, R164). `record` is the zone's record less its handover record, of which `handover` shows what R68
names. -/
structure ZoneView where
  zone : Nat
  record : Option Zone
  holder : Option HolderView
  claimants : Nat
  handover : Option HandoverView
  panelHold : Bool
deriving DecidableEq, Repr

/-- The kind of an exchange without its body (R153). -/
inductive ExchangeName where
  | noticeRead | setFallback | resetNode | round
deriving DecidableEq, Repr

/-- One entry of a directed queue as Riser Report shows it (R153). -/
structure ExchangeView where
  kind : ExchangeName
  slot : Nat
  attempts : Nat
deriving DecidableEq, Repr

/-- Riser Report's body (R153). -/
structure RiserView where
  riser : Nat
  state : RiserState
  enabled : Bool
  maxRate : Rate
  rate : Rate
  pending : Option Rate
  policy : RatePolicy
  lag : Nat
  lost : Nat
  sequence : Nat
  queue : List ExchangeView
  rollCall : RollCallState
  rounds : Nat
  cursor : Nat
  lastFrame : Option (Nat × Rate × Nat × Nat)
  stranger : Option Nat
  underruns : Nat
  retry : Option Nat
deriving DecidableEq, Repr

/-- Time Report's body (R122). -/
structure TimeView where
  state : TimeState
  now : Option Instant
  rate : Nat
  interval : Nat
  frozen : Bool
  bad : Nat
  run : List Nat
  phase : Option Int
  slew : Int
  lastStep : Option (Int × Instant)
  pending : Option PendingMark
  base : Nat
  almanacCount : Nat
  lowest : Option Nat
  highest : Option Nat
deriving DecidableEq, Repr

/-- Cue Report's body (R136). -/
structure CueView where
  state : CueState
  last : Option Nat
  running : Bool
  estimate : Option Nat
  run : Nat
  silence : Option Nat
  jumps : Nat
  rejected : Nat
  awaiting : Nat
  following : Nat
  free : Nat
deriving DecidableEq, Repr

/-- Chain Report's body (R109). -/
structure ChainView where
  faces : List (Nat × Nat × Nat)
  ambient : Ambient
  curfew : Option Curfew
  windowOpen : Bool
  holdLook : Levels
  defaultHandover : Nat
deriving DecidableEq, Repr

/-- A feeder's record as the host sees it (R167, R173): `idle` is the idle timer in own ms, none while it is stopped. -/
structure FeederRecord where
  budget : Nat
  tripMark : Nat
  source : OutputSource
  commandClosed : Bool
  closed : Bool
  tripped : Bool
  overCount : Nat
  armClaims : List Nat
  idle : Option Nat
  load : Nat
  scale : Nat
deriving DecidableEq, Repr

/-- Feeder Report's body (R173). -/
structure FeederView where
  feeder : Nat
  record : FeederRecord
  claims : Nat
  holdingZones : Nat
  latest : Option Nat
  age : Nat
  showLive : Indicator
  curfewActive : Indicator
deriving DecidableEq, Repr

/-- The output of a line as Set Output's reply gives it (R172). -/
structure OutputView where
  line : OutputLine
  source : OutputSource
  command : OutputCommand
  output : OutputCommand
deriving DecidableEq, Repr

/-- The body of a reply, told by its fields (chapter 11 lays out only the header). -/
inductive ReplyBody where
  | empty
  /-- Book, Amend (R14, R17): state, last outcome, next occurrence. -/
  | placed (state : BookingState) (lastOutcome : LastOutcome) (next : Option UpcomingEntry)
  /-- Withdraw (R21). -/
  | withdrawn (lastOutcome : LastOutcome) (runCount : Nat)
  /-- Look Up (R22). -/
  | booking (v : BookingView)
  /-- List Upcoming (R23). -/
  | upcoming (entries : List UpcomingEntry) (more : Bool)
  /-- Forecast (R25). -/
  | forecast (holder : Option Contender) (others : List Contender) (beyond : Nat)
  /-- Program Open and Program Remove (R75, R78). -/
  | freeCount (n : Nat)
  /-- Program Steps (R76): appended and declared when the slot has them, and the first step at fault. -/
  | appended (counts : Option (Nat × Nat)) (faultAt : Option Nat)
  /-- Program Close (R77). -/
  | closed (counts : Option (Nat × Nat)) (freeCount : Nat)
  /-- Program Remove refused with InUse (R78). -/
  | references (n freeCount : Nat)
  /-- Program Report (R79). -/
  | program (v : ProgramView)
  /-- Configure Zone accepted (R156): the record, and whether a Set Fallback joined the queue. -/
  | zoneConfigured (record : Option Zone) (fallbackQueued : Bool)
  /-- Configure Zone refused by check 3 (R155). -/
  | nodeState (n : NodeState)
  /-- Zone Report (R164). -/
  | zone (v : ZoneView)
  /-- Configure Riser (R139): state, maximum, current and pending rates, lag and lost marks. -/
  | riserSettings (state : RiserState) (maxRate rate : Rate) (pending : Option Rate) (lag lost : Nat)
  /-- Riser Report (R153). -/
  | riser (v : RiserView)
  /-- Mark Time (R118, R119): state, now, last step and the pending mark. -/
  | marked (state : TimeState) (now : Option Instant) (lastStep : Option (Int × Instant)) (pending : Option PendingMark)
  /-- Set Calendar Base (R121). -/
  | calendarBase (base : Nat)
  /-- Time Report (R122). -/
  | time (v : TimeView)
  /-- Load Almanac accepted (R124): stored, passed over, held, lowest and highest day, placed again, Stalled of those. -/
  | almanac (stored passed held : Nat) (lowest highest : Option Nat) (placed stalled : Nat)
  /-- Load Almanac refused with TableFull (R124): the number held. -/
  | almanacHeld (n : Nat)
  /-- Follow Again accepted (R134). -/
  | followed (status : FollowStatus) (position : Int) (estimate : Nat)
  /-- Follow Again refused (R134): the follow status, when there is an occurrence, and the receiver's state. -/
  | followRefused (status : Option FollowStatus) (cue : CueState)
  /-- Cue Report (R136). -/
  | cue (v : CueView)
  /-- Set Curfew (R102): whether the window is open. -/
  | curfewWindow (isOpen : Bool)
  /-- Set Ambient (R107): the four gains. -/
  | gains (g : List Nat)
  /-- Configure Schedule (R109). -/
  | schedule (armLead handover : Nat)
  /-- Chain Report (R109). -/
  | chain (v : ChainView)
  /-- Configure Feeder (R173). -/
  | feederRecord (f : FeederRecord)
  /-- Set Output (R172). -/
  | output (v : OutputView)
  /-- Reclose Feeder (R169): the contactor. -/
  | contactor (isClosed : Bool)
  /-- Feeder Report (R173). -/
  | feeder (v : FeederView)
  /-- Read Channel (R166). -/
  | channel (latest : Option Nat) (age : Nat) (calibrating : Bool)
  /-- Set Notice Mask (R182). -/
  | mask (kinds : List ChangeKind)
  /-- Restart Schedule (R184): the bookings in Held, Scheduled, Running, Stalled, Retiring. -/
  | restarted (held scheduled running stalled retiring : Nat)
deriving DecidableEq, Repr

/-- A reply (section 11.6): the request kind echoed, the tag, the status, the warnings and the body. -/
structure Reply where
  kind : Byte
  tag : Byte
  status : Status
  warnings : Warnings
  body : ReplyBody
deriving DecidableEq, Repr

/-- An entry of the Notice List (R180). `closed` holds a closed booking entry's summary (R181). -/
structure NoticeEntry where
  record : RecordId
  changes : List ChangeKind
  outcome : Option LastOutcome
  closed : Option BookingView
deriving DecidableEq, Repr

/-- What a transaction clocks out after its status byte (R175 to R181). -/
inductive SpiPayload where
  /-- a Send Request clocks out nothing after the status byte -/
  | silent
  /-- zeros, for a kind byte outside 1..4 -/
  | zeros
  /-- Fetch Reply; none for an empty queue, a length of 0 and then zeros -/
  | reply (r : Option Reply)
  /-- Fetch Notice: the entry and its summary; none for an empty list -/
  | notice (n : Option (NoticeEntry × ReplyBody))
  /-- Port Status: the notice count, the mask and the not-taken count -/
  | status (notices : Nat) (mask : List ChangeKind) (notTaken : Nat)
deriving DecidableEq, Repr

/-- What the last transaction clocked out: the status byte and what followed it. -/
structure SpiOut where
  status : Byte
  payload : SpiPayload
deriving DecidableEq, Repr

end Sys2Proof.Machine
end

