-- ==== Sys2Proof/Config.lean ====
section
/-! DEFINITION. What the manual fixes once for every part: the capacities, the spans and the marks of its rules, and the
two free values: the lengths of a reply body and of a request's fields, whose byte layouts the manual does not give. -/

namespace Sys2Proof.Config

/-- The slots of the Booking Table (R1). -/
def bookingSlots : Nat := 256
/-- The places of the Active Table (R37). -/
def activePlaces : Nat := 32
/-- The zone numbers 0..95 (R50, R154). -/
def zoneCount : Nat := 96
/-- The program slots (R71). -/
def programSlots : Nat := 64
/-- The steps of the pool (R71). -/
def poolSteps : Nat := 4096
/-- The places of the request queue and of the reply queue (R176, R177). -/
def queuePlaces : Nat := 4
/-- The longest request the port holds whole (R176). -/
def requestBytes : Nat := 256
/-- The days of the almanac (R123). -/
def almanacDays : Nat := 400
/-- The slots of a riser (R137). -/
def riserSlots : Nat := 24

/-- The ms of a day (R26). -/
def dayMs : Int := 86400000
/-- The latest start of a pattern day past its midnight (R27). -/
def latestStartMs : Int := 129599999
/-- The latest end of a pattern day past its midnight (R29). -/
def latestEndMs : Int := 194399999
/-- The longest window (R29). -/
def windowMs : Int := 64800000
/-- The last instant of day 65,535 (R29, R111). -/
def lastInstant : Int := 5662310399999
/-- Forecast's reach of 400 days (R25). -/
def forecastMs : Int := 34560000000
/-- The highest position (R37). -/
def positionMax : Int := 2147483647

/-- The render timer, in µs of own count (R91). -/
def renderUs : Nat := 5000
/-- Where the edge counter stays (R112). -/
def edgeMax : Nat := 1999999
/-- The edge counter at which Locked becomes Holdover (R113, and the worked edges of section 6.6; assumption log 18). -/
def holdoverUs : Nat := 1500000
/-- A pending mark's expiry, in ms (R119). -/
def pendingMs : Nat := 1500
/-- The shortest and the longest valid interval (R112). -/
def intervalMin : Nat := 999800
def intervalMax : Nat := 1000200
/-- The phase error beyond which civil time steps (R116). -/
def slewMax : Int := 250
/-- The silence timer's end and the longest in-step advance, in ms (R128). -/
def silenceMs : Nat := 250
/-- The retry timer, in ms (R151). -/
def retryMs : Nat := 1000
/-- The calibration of the Sensor Scan, in µs (R165). -/
def calibrationUs : Nat := 2000000
/-- The scan period, in µs (R165). -/
def scanUs : Nat := 250000
/-- The largest difference of two conversions of a taken sample (R165). -/
def conversionSpread : Nat := 16
/-- The ambient saturation mark (R105). -/
def saturationMark : Nat := 4000
/-- The idle timer, in ms (R171). -/
def idleMs : Nat := 600000
/-- The entries of a directed queue below which an exchange other than the roll call's may join (R148). -/
def queueOpen : Nat := 6

/-- FREE VALUE. The bytes of a reply body in the layout that the manual does not give (assumption log 5). -/
opaque bodyLength : Machine.ReplyBody → Nat

/-- FREE VALUE. The bytes that a request's fields take after its header, in the layout that the manual does not give; a request
holds no more than 256 bytes in all (R176; assumption log 4). -/
opaque fieldsBytes : RequestFields → Fin 253

/-- FREE VALUE. Whether a node holds a riser's line when the first frame send of an entry into Starting would begin, by the riser and
the own µs of that moment (R140, R151; assumption log 49). -/
opaque lineHeld : Nat → Nat → Bool

end Sys2Proof.Config
end

