-- ==== Sys2Proof/Machine/State.lean ====
section
/-! DEFINITION. The state of the part: the records of its thirteen blocks, the Request Port, and the queue of the commands
that wait. Plain data. -/

namespace Sys2Proof.Machine

/-- Why the part stops with a fault. The manual gives every command an effect in every state, so there is no reason and no
constructor: no command of this model ever faults. -/
inductive Fault where
deriving DecidableEq, Repr

/-- Why the model refuses a command. -/
inductive Refusal where
  /-- Raised by exec's arm of a command that has no meaning yet; safe, since the model stops. No arm raises it. -/
  | notModelled (mnemonic : String)
deriving DecidableEq, Repr

/-- The records of the blocks behind the Request Port.
`ownUs` is the part's own count in µs, from the full reset (section 6.1). `nextId` numbers bookings and occurrences, and
`lastFreed` is the booking most recently given up at once under a masked Retired (R10, R14); both are the model's own.
`deferral` is present while a Restart Schedule is being taken and holds the feeders recorded (R174). -/
structure Blocks where
  ownUs : Nat
  nextId : Nat
  time : TimeBase
  almanac : List AlmanacDay
  cue : CueReceiver
  programs : List ProgramSlot
  bookings : List Booking
  upcoming : List UpcomingEntry
  active : List Occurrence
  armLead : Nat
  lastFreed : Option Booking
  holding : List HoldingEntry
  panelHold : Bool
  zones : List (Option Zone)
  risers : List Riser
  chain : LevelChain
  scan : SensorScan
  feeders : List Feeder
  showLive : Indicator
  curfewActive : Indicator
  deferral : Option (List Nat)
  notices : List NoticeEntry
  mask : List ChangeKind
deriving DecidableEq, Repr

/-- The Request Port (R175 to R178): the request queue and the reply queue, oldest first, the not-taken flag and count, and
what the last transaction clocked out. -/
structure Port where
  requests : List Request
  replies : List Reply
  notTaken : Bool
  notTakenCount : Nat
  out : SpiOut
deriving DecidableEq, Repr

/-- The part, and the commands that wait for it, first in, first out. -/
structure State where
  pending : List Instr
  port : Port
  blocks : Blocks
deriving DecidableEq, Repr

/-- A colour or a set of levels of 0 (dark, R94). -/
def dark : Levels := ⟨0, 0, 0, 0⟩

/-- Every change kind, in the order of R180. -/
def allKinds : List ChangeKind :=
  [.started, .ended, .retired, .eclipsed, .regained, .followLost, .stalled, .estimated,
   .nodeState, .holderChanged, .nodeFault, .localOverride,
   .riserState, .rateChanged, .rollCallDone, .stranger, .underrun,
   .tripped, .contactorChanged, .scalingChanged, .timeState, .stepped, .cueState, .cuePause]

/-- The Time Base after a full reset (R110) (assumption log 13). -/
def resetTime : TimeBase :=
  { state := .unset, now := none, rate := 1000000, lastEdge := none, run := [], interval := 0, lastInterval := 0,
    frozen := false, bad := 0, phase := none, slew := 0, lastStep := none, pending := none, base := 0,
    tickFrom := 0, ticks := 0, withhold := false, midnightDue := false }

/-- The Cue Clock Receiver after a full reset (R126). -/
def resetCue : CueReceiver :=
  { state := .silent, last := none, running := true, run := 0, silentFrom := none, ticks := 0, jumps := 0, rejected := 0 }

/-- A riser record after a full reset (R137) (assumption log 13). -/
def resetRiser : Riser :=
  { state := .off, enabled := false, maxRate := .r50, rate := .r50, pending := none, policy := .keep, lag := 100,
    lost := 250, sequence := 0, queue := [], rollCall := .idle, rounds := 0, cursor := 0, lastFrame := none,
    newRender := false, stranger := none, underruns := 0, retryFrom := none, phase := .idle, lastSend := 0,
    round := .contention, sent := none }

/-- A feeder record after a full reset (R167). -/
def resetFeeder : Feeder :=
  { budget := 0, tripMark := 4095, source := .schedule, commandClosed := false, closed := false, tripped := false,
    overCount := 0, armClaims := [], idleFrom := none, load := 0, scale := 1024 }

/-- An indicator line after a full reset (R172). -/
def resetIndicator : Indicator := { source := .schedule, command := false, output := false }

/-- The Level Chain after a full reset (R109). -/
def resetChain : LevelChain :=
  { faces := List.replicate 4 { gain := 1024, settle := 30, sum := 0, count := 0 },
    ambient := { gmin := 512, gmax := 2048, aref := 800, sFast := 64, sSlow := 8, settle := 30 },
    curfew := none, windowOpen := false, holdLook := dark, defaultHandover := 1000,
    latest := List.replicate Config.zoneCount .absent, flight := none, lastExpiry := 0 }

/-- A Holding Table entry after a full reset (R50). -/
def resetHolding : HoldingEntry := { holder := none, claimants := 0 }

/-- The Sensor Scan after a full reset (R165). -/
def resetScan : SensorScan :=
  { calibrating := true, channels := List.replicate 8 { latest := none, age := 0, nextScan := 0 } }

/-- The blocks after a full reset (R1, R47, R50, R62, R71, R109, R110, R126, R137, R154, R165, R167, R172, R180, R182). -/
def resetBlocks : Blocks :=
  { ownUs := 0, nextId := 0, time := resetTime, almanac := [], cue := resetCue,
    programs := List.replicate Config.programSlots .empty, bookings := [], upcoming := [], active := [],
    armLead := 30, lastFreed := none, holding := List.replicate Config.zoneCount resetHolding, panelHold := false,
    zones := List.replicate Config.zoneCount none, risers := List.replicate 4 resetRiser, chain := resetChain,
    scan := resetScan, feeders := List.replicate 4 resetFeeder, showLive := resetIndicator,
    curfewActive := resetIndicator, deferral := none, notices := [],
    mask := allKinds.filter (fun k => k != .holderChanged && k != .underrun) }

/-- The Request Port after a full reset (R175 to R178) (assumption log 14). -/
def resetPort : Port :=
  { requests := [], replies := [], notTaken := false, notTakenCount := 0, out := { status := 0, payload := .silent } }

/-- The part right after a full reset, with no command waiting (R47). -/
def State.reset : State := { pending := [], port := resetPort, blocks := resetBlocks }

end Sys2Proof.Machine
end

