-- ==== Sys2Proof/Machine/Ops.lean ====
section
/-! DEFINITION. The named operations over the records of the blocks: reading and replacing one record, the own count, and
submitting a change to the Notice List. -/

namespace Sys2Proof.Machine

/-! ## Reading and replacing one record -/

/-- The record of a zone, none when it is not configured (R154). -/
def Blocks.zone? (b : Blocks) (z : Nat) : Option Zone := (b.zones[z]?).join

/-- Replace the record of a zone, or remove it from the configured set. -/
def Blocks.setZone (b : Blocks) (z : Nat) (c : Option Zone) : Blocks := { b with zones := b.zones.set z c }

/-- Change the record of a configured zone. -/
def Blocks.updateZone (b : Blocks) (z : Nat) (g : Zone → Zone) : Blocks := b.setZone z ((b.zone? z).map g)

/-- The record of a riser (R137). -/
def Blocks.riser (b : Blocks) (r : Nat) : Riser := b.risers.getD r resetRiser

/-- Change the record of a riser. -/
def Blocks.updateRiser (b : Blocks) (r : Nat) (g : Riser → Riser) : Blocks :=
  { b with risers := b.risers.set r (g (b.riser r)) }

/-- The record of a feeder (R167). -/
def Blocks.feeder (b : Blocks) (f : Nat) : Feeder := b.feeders.getD f resetFeeder

/-- Change the record of a feeder. -/
def Blocks.updateFeeder (b : Blocks) (f : Nat) (g : Feeder → Feeder) : Blocks :=
  { b with feeders := b.feeders.set f (g (b.feeder f)) }

/-- The Holding Table's entry of a zone (R50). -/
def Blocks.holdingOf (b : Blocks) (z : Nat) : HoldingEntry := b.holding.getD z resetHolding

/-- The holder of a zone (R50). -/
def Blocks.holder? (b : Blocks) (z : Nat) : Option Holder := (b.holdingOf z).holder

/-- The booking in the occupied slot that holds a number (R1). -/
def Blocks.booking? (b : Blocks) (n : Nat) : Option Booking := b.bookings.find? (fun k => k.number == n)

/-- Change the booking that holds a number. -/
def Blocks.updateBooking (b : Blocks) (n : Nat) (g : Booking → Booking) : Blocks :=
  { b with bookings := b.bookings.map (fun k => if k.number = n then g k else k) }

/-- A booking's entry in the Upcoming List, its next occurrence (R4, R34). -/
def Blocks.upcoming? (b : Blocks) (n : Nat) : Option UpcomingEntry := b.upcoming.find? (fun e => e.number == n)

/-- A booking's record in the Active Table, its active occurrence (R4, R37). -/
def Blocks.active? (b : Blocks) (n : Nat) : Option Occurrence := b.active.find? (fun o => o.number == n)

/-- Change a booking's record in the Active Table. -/
def Blocks.updateActive (b : Blocks) (n : Nat) (g : Occurrence → Occurrence) : Blocks :=
  { b with active := b.active.map (fun o => if o.number = n then g o else o) }

/-- The zone set of a booking, empty for a number that no slot holds. -/
def Blocks.zonesOf (b : Blocks) (n : Nat) : List Nat := ((b.booking? n).map (fun k => k.fields.zones)).getD []

/-- The program slot of a number (R71). -/
def Blocks.program (b : Blocks) (p : Nat) : ProgramSlot := b.programs.getD p .empty

/-- What the latest render holds for a zone (R93). -/
def Blocks.latestOf (b : Blocks) (z : Nat) : ZoneOut := b.chain.latest.getD z .absent

/-- Whether a number names a booking at all (R1). -/
def bookingNumber (n : Nat) : Bool := decide (1 ≤ n) && decide (n ≤ 65534)

/-- Insert into a list in rising order, once. -/
def insertAsc (x : Nat) : List Nat → List Nat
  | [] => [x]
  | y :: ys => if x < y then x :: y :: ys else if x = y then y :: ys else y :: insertAsc x ys

/-- A list of numbers as a set in rising order. -/
def ascending (l : List Nat) : List Nat := l.foldr insertAsc []

/-! ## The own count -/

/-- The part's own millisecond count (section 6.1). -/
def Blocks.ownMs (b : Blocks) : Nat := b.ownUs / 1000

/-- The own count brought to an instant, unless it is there already (assumption log 2). -/
def Blocks.advanceTo (b : Blocks) (us : Nat) : Blocks := { b with ownUs := max b.ownUs us }

/-- The own ms for which a timer started at `start` (own µs) has run, no further than `limit`. -/
def Blocks.elapsedMs (b : Blocks) (start limit : Nat) : Nat := min limit ((b.ownUs - start) / 1000)

/-- The day that contains an instant (R26). -/
def dayOf (i : Instant) : Int := i / Config.dayMs

/-- The time of day of an instant (R26). -/
def timeOfDay (i : Instant) : Int := i % Config.dayMs

/-! ## The Notice List (R180) -/

/-- The position of a kind in R180, which numbers the bits of the notice mask. -/
def kindIndex (k : ChangeKind) : Nat := allKinds.idxOf k

/-- A kind joins a change set; one already there stays there once. -/
def insertKind (k : ChangeKind) (l : List ChangeKind) : List ChangeKind :=
  if k ∈ l then l else allKinds.filter (fun x => x == k || decide (x ∈ l))

/-- Whether an entry is the open entry of a record: a closed entry takes no further changes (R181). -/
def NoticeEntry.opens (e : NoticeEntry) (r : RecordId) : Bool := decide (e.record = r) && e.closed.isNone

/-- An unmasked change joins its record's entry, or makes a new entry at the tail. For Ended the entry keeps the outcome of
the latest. -/
def addChange (r : RecordId) (k : ChangeKind) (o : Option LastOutcome) : List NoticeEntry → List NoticeEntry
  | [] => [{ record := r, changes := [k], outcome := o, closed := none }]
  | e :: es =>
    if e.opens r then { e with changes := insertKind k e.changes, outcome := o <|> e.outcome } :: es
    else e :: addChange r k o es

/-- Submit a change: one of a masked kind is discarded. -/
def Blocks.submit (b : Blocks) (r : RecordId) (k : ChangeKind) (o : Option LastOutcome) : Blocks :=
  if k ∈ b.mask then { b with notices := addChange r k o b.notices } else b

/-- Report a change of a kind other than Ended. -/
def Blocks.report (b : Blocks) (r : RecordId) (k : ChangeKind) : Blocks := b.submit r k none

/-- Report an Ended change with its outcome (R5). -/
def Blocks.reportEnded (b : Blocks) (n : Nat) (o : LastOutcome) : Blocks := b.submit (.booking n) .ended (some o)

/-- Apply an operation for each item of a list in turn. -/
def forEach {α : Type} (l : List α) (g : α → Blocks → Blocks) (b : Blocks) : Blocks := l.foldl (fun b x => g x b) b

/-- Every zone number. -/
def allZones : List Nat := List.range Config.zoneCount

/-- Whether a zone is configured and not protected: the zones that are given handovers (R57, R63). -/
def Blocks.showable (b : Blocks) (z : Nat) : Bool :=
  match b.zone? z with
  | some c => !c.isProtected
  | none => false

/-- Whether a node state is Ready or Lagging: polled, and sent levels (R157). -/
def NodeState.live : NodeState → Bool
  | .ready | .lagging => true
  | _ => false

/-- Whether a booking's holder is exempt: its booking carries Exempt yes (R94). -/
def Blocks.bookingExempt (b : Blocks) (n : Nat) : Bool :=
  match b.booking? n with
  | some k => k.fields.exempt
  | none => false

/-- Whether the current source of a zone is exempt (R94, R103): the hold look and dark never are. -/
def Blocks.sourceExempt (b : Blocks) (z : Nat) : Bool :=
  if b.panelHold then false
  else match b.holder? z with
    | some h => b.bookingExempt h.number
    | none => false

/-! ## Request service (R177) -/

/-- What a block answers to a request: the status, the warnings and the body of the reply. -/
structure Answer where
  status : Status
  warnings : Warnings
  body : ReplyBody
deriving DecidableEq, Repr

/-- No warnings (R179). -/
def noWarnings : Warnings := { shadowed := false, noOccurrence := false, estimated := false, stalled := false }

/-- A reply of Ok with a body and no warnings. -/
def okWith (body : ReplyBody) : Answer := { status := .ok, warnings := noWarnings, body := body }

/-- A refusal without a body. -/
def refuse (s : Status) : Answer := { status := s, warnings := noWarnings, body := .empty }

/-- A refusal with a body. -/
def refuseWith (s : Status) (body : ReplyBody) : Answer := { status := s, warnings := noWarnings, body := body }

/-- The request kind of a body's fields (section 11.5, numbered from 1). -/
def fieldsKind : RequestFields → Nat
  | .withdraw .. => 3 | .lookUp .. => 4 | .listUpcoming .. => 5 | .forecast .. => 6
  | .programOpen .. => 7 | .programSteps .. => 8 | .programClose .. => 9 | .programRemove .. => 10 | .programReport .. => 11
  | .configureZone .. => 12 | .clearNode .. => 13 | .zoneReport .. => 14
  | .configureRiser .. => 15 | .riserReset .. => 16 | .rollCall .. => 17 | .riserReport .. => 18
  | .markTime .. => 19 | .setCalendarBase .. => 20 | .timeReport => 21 | .loadAlmanac .. => 22
  | .followAgain .. => 23 | .cueReport => 24
  | .setCurfew .. => 25 | .setAmbient .. => 26 | .setHoldLook .. => 27 | .configureSchedule .. => 28 | .chainReport => 29
  | .configureFeeder .. => 30 | .setOutput .. => 31 | .recloseFeeder .. => 32 | .feederReport .. => 33
  | .readChannel .. => 34 | .setNoticeMask .. => 35 | .restartSchedule => 36

/-- The bytes that a request's fields take after its header: none for a request that carries no fields, else the free value of a
layout that the manual does not give (section 11.5; assumption log 4). -/
def fieldsLength : RequestFields → Nat
  | .timeReport | .cueReport | .chainReport | .restartSchedule => 0
  | f => (Config.fieldsBytes f).val

/-- Whether a body suits a request kind, and the length its kind: Book carries the 52 bytes of the booking body, Amend the same
after its two-byte mask (section 11.6), every other request its own fields. -/
def bodySuits (kind carried : Nat) : RequestBody → Bool
  | .bytes body => (decide (kind = 1) && decide (body.length = 52) && decide (carried = 56)) ||
      (decide (kind = 2) && decide (body.length = 54) && decide (carried = 58))
  | .fields f => decide (fieldsKind f = kind) && decide (carried = 4 + fieldsLength f)
  | .other => false

/-- Whether the port's own checks of R177 pass: the length field, the kind, the size and the fit of the length to the kind. -/
def requestAcceptable (r : Request) : Bool :=
  decide (r.length.toNat = r.carried) && decide (1 ≤ r.kind.toNat) && decide (r.kind.toNat ≤ 36) &&
    decide (r.carried ≤ Config.requestBytes) && bodySuits r.kind.toNat r.carried r.body

/-- Whether the port may take a request: fewer than 4 replies wait (R177). -/
def Port.mayTake (p : Port) : Bool := decide (p.replies.length < Config.queuePlaces)

/-- The port with its head request answered: the request has left the queue and its reply has joined the tail (R177). -/
def Port.answer (p : Port) (r : Request) (kind : Byte) (a : Answer) : Port :=
  { p with
    requests := p.requests.tail
    replies := p.replies ++ [{ kind := kind, tag := r.tag, status := a.status, warnings := a.warnings, body := a.body }] }

/-- The port takes the request at the head of its queue, if it may take one and that request is of the given kind and passes
the port's own checks, and has the block serve it. Otherwise the event cannot happen in this state and nothing changes
(assumption log 1). -/
def serve (kind : Nat) (block : RequestBody → Blocks → Blocks × Answer) (s : State) : State :=
  match s.port.requests with
  | [] => s
  | r :: _ =>
    if s.port.mayTake && requestAcceptable r && decide (r.kind.toNat = kind) then
      { s with
        blocks := (block r.body s.blocks).1
        port := s.port.answer r r.kind (block r.body s.blocks).2 }
    else s

/-- A block's service of a request that carries fields. Bytes where fields belong do not pass `requestAcceptable`. -/
def onFields (block : RequestFields → Blocks → Blocks × Answer) : RequestBody → Blocks → Blocks × Answer
  | .fields f, b => block f b
  | _, b => (b, refuse .malformed)

/-- A block's service of a request that carries the bytes of section 11.6. -/
def onBytes (block : List Byte → Blocks → Blocks × Answer) : RequestBody → Blocks → Blocks × Answer
  | .bytes body, b => block body b
  | _, b => (b, refuse .malformed)

/-- A change of the blocks alone, by an event. -/
def State.mapBlocks (s : State) (g : Blocks → Blocks) : State := { s with blocks := g s.blocks }

end Sys2Proof.Machine
end

