-- ==== Sys2Proof/Machine/Feeders.lean ====
section
/-! DEFINITION. Feeder Control: claims, contactors under Schedule, and the indicator lines (R167 to R174). The requests that
name a feeder or a line stand in Machine/Outputs.lean. -/

namespace Sys2Proof.Machine

/-- The feeders' numbers. -/
def allFeeders : List Nat := [0, 1, 2, 3]

/-- Whether a zone is configured on a feeder, has a holder, and has a node that is Ready or Lagging: a claim of the second
kind of R170. -/
def Blocks.zoneClaims (b : Blocks) (f z : Nat) : Bool :=
  match b.zone? z with
  | some c => decide (c.feeder = f) && c.node.live && (b.holder? z).isSome
  | none => false

/-- Whether a feeder is claimed (R170). -/
def Blocks.claimed (b : Blocks) (f : Nat) : Bool :=
  !(b.feeder f).armClaims.isEmpty || allZones.any (b.zoneClaims f)

/-- The contactor takes a state; a change reports ContactorChanged (R167). -/
def setContactor (f : Nat) (closed : Bool) (b : Blocks) : Blocks :=
  if (b.feeder f).closed = closed then b
  else (b.updateFeeder f (fun x => { x with closed := closed })).report (.feeder f) .contactorChanged

/-- The re-evaluation of a feeder (R171). -/
def evaluateFeeder (f : Nat) (b : Blocks) : Blocks :=
  if (b.feeder f).source = .operator || (b.feeder f).tripped then b
  else if b.claimed f then setContactor f true (b.updateFeeder f (fun x => { x with idleFrom := none }))
  else if (b.feeder f).closed then
    b.updateFeeder f (fun x => { x with idleFrom := some (x.idleFrom.getD b.ownUs) })
  else b

/-- A feeder is handed to Feeder Control: it is re-evaluated, or recorded while a Restart Schedule is being taken (R174). -/
def reevaluateFeeder (f : Nat) (b : Blocks) : Blocks :=
  match b.deferral with
  | some l => { b with deferral := some (insertAsc f l) }
  | none => evaluateFeeder f b

/-- Feeder Control is told of a zone: its feeder is re-evaluated (R156, R157). -/
def tellZoneFeeder (z : Nat) (b : Blocks) : Blocks :=
  match b.zone? z with
  | some c => reevaluateFeeder c.feeder b
  | none => b

/-- The feeders of a set of zones, as the Zone Directory records them now (R35). -/
def Blocks.feedersOf (b : Blocks) (zones : List Nat) : List Nat :=
  allFeeders.filter (fun f => zones.any (fun z => match b.zone? z with | some c => decide (c.feeder = f) | none => false))

/-- A booking number joins the arm claims of a feeder (R170). -/
def claimFeeder (n f : Nat) (b : Blocks) : Blocks :=
  reevaluateFeeder f (b.updateFeeder f (fun x => { x with armClaims := insertAsc n x.armClaims }))

/-- A booking number leaves the arm claims of a feeder that holds it (R170). -/
def releaseFeeder (n f : Nat) (b : Blocks) : Blocks :=
  if n ∈ (b.feeder f).armClaims then
    reevaluateFeeder f (b.updateFeeder f (fun x => { x with armClaims := x.armClaims.filter (fun m => m != n) }))
  else b

/-- The engine ends an entry's claim: its number leaves every feeder that holds it (R35, R170). -/
def releaseClaims (n : Nat) (b : Blocks) : Blocks := forEach allFeeders (releaseFeeder n) b

/-- Whether Show Live is asserted under Schedule: some occurrence of tier above Base holds a zone (R70, R172). -/
def Blocks.showLiveScheduled (b : Blocks) : Bool :=
  b.active.any (fun o => decide (0 < o.tier.rank) && b.holding.any (fun h => (h.holder.map (fun k => k.id)) == some o.id))

/-- The output of an indicator line whose condition stands at `level` (R172). -/
def Indicator.driven (i : Indicator) (level : Bool) : Bool :=
  match i.source with
  | .schedule => level
  | .operator => i.command

/-- Show Live is re-evaluated, unless a Restart Schedule is being taken (R172, R174). -/
def reevaluateShowLive (b : Blocks) : Blocks :=
  match b.deferral with
  | some _ => b
  | none => { b with showLive := { b.showLive with output := b.showLive.driven b.showLiveScheduled } }

/-- Curfew Active follows the curfew window under Schedule (R103, R172). -/
def driveCurfewActive (b : Blocks) : Blocks :=
  { b with curfewActive := { b.curfewActive with output := b.curfewActive.driven b.chain.windowOpen } }

end Sys2Proof.Machine
end

