-- ==== Sys2Proof/Machine/Chain.lean ====
section
/-! DEFINITION. The Level Chain's records outside the render: handovers, the curfew window, the ambient gain loop
(R99, R101 to R107). -/

namespace Sys2Proof.Machine

/-! ## Levels -/

/-- Apply an operation to each of the four levels. -/
def Levels.map (g : Nat → Nat) (l : Levels) : Levels := ⟨g l.r, g l.g, g l.b, g l.w⟩

/-- Each level lowered to a ceiling (R98, R101, R103). -/
def capLevels (k : Nat) (l : Levels) : Levels := Levels.map (fun x => min x k) l

/-- The curfew ceiling K; with no curfew settings no window is open and nothing is lowered (R102). -/
def Blocks.curfewCeiling (b : Blocks) : Nat := (b.chain.curfew.map (fun c => c.ceiling)).getD 1000

/-- The layout of a zone's node; a node with no joint profile is taken as RGBW (R101). -/
def Zone.layout (c : Zone) : Layout := (c.profile.map (fun p => p.layout)).getD .rgbw

/-- The places of four levels that a layout uses; the others are 0 (R93, R142). -/
def keepLayout : Layout → Levels → Levels
  | .rgbw, l => l
  | .rgb, l => ⟨l.r, l.g, l.b, 0⟩
  | .mono, l => ⟨l.r, 0, 0, 0⟩

/-- The latest render's content of a zone lowered to a ceiling. -/
def ZoneOut.cap (k : Nat) : ZoneOut → ZoneOut
  | .levels l t => .levels (capLevels k l) t
  | x => x

/-- Change what the latest render holds for a zone. -/
def Blocks.updateLatest (b : Blocks) (z : Nat) (g : ZoneOut → ZoneOut) : Blocks :=
  { b with chain := { b.chain with latest := b.chain.latest.set z (g (b.latestOf z)) } }

/-! ## Handovers (R99, R101) -/

/-- Whether the start of a handover on a zone lowers its from-levels: the window is open and the new source is not exempt
(R101). -/
def Blocks.lowersAt (b : Blocks) (z : Nat) : Bool := b.chain.windowOpen && !b.sourceExempt z

/-- A render in flight no longer has a zone's handover record as it took it: a handover has started on the zone since
(R99). -/
def noteRewritten (z : Nat) (b : Blocks) : Blocks :=
  { b with chain := { b.chain with
      flight := b.chain.flight.map (fun fl => { fl with rewritten := z :: fl.rewritten }) } }

/-- A handover of a length starts on a zone, if it is configured and not protected (R101). Its from-levels are those of the zone's
layout now. -/
def startHandover (z h : Nat) (b : Blocks) : Blocks :=
  match b.zone? z with
  | none => b
  | some c =>
    if c.isProtected then b
    else
      let last := if b.lowersAt z then capLevels b.curfewCeiling c.last else c.last
      let b1 := noteRewritten z
        (b.setZone z (some { c with last := last, handover := some ⟨keepLayout c.layout last, c.layout, h, b.ownMs⟩ }))
      if b.lowersAt z then b1.updateLatest z (ZoneOut.cap b.curfewCeiling) else b1

/-- The length of the handover to a zone's holder or to none (R57): the holder's booking's Handover field, else the schedule
default. -/
def Blocks.handoverLength (b : Blocks) (z : Nat) : Nat :=
  match b.holder? z with
  | none => b.chain.defaultHandover
  | some h =>
    match b.booking? h.number with
    | some k => k.fields.handover.getD b.chain.defaultHandover
    | none => b.chain.defaultHandover

/-- Every configured non-protected zone that passes gets a handover of the schedule default (R63, R65, R103, R108). -/
def defaultHandovers (p : Nat → Bool) (b : Blocks) : Blocks :=
  forEach (allZones.filter p) (fun z b => startHandover z b.chain.defaultHandover b) b

/-- Every handover record is discarded (R66, R101). -/
def discardHandovers (b : Blocks) : Blocks :=
  { b with zones := b.zones.map (Option.map (fun c => { c with handover := none })) }

/-! ## Curfew (R102 to R104) -/

/-- Whether a time of day lies in a window of minutes (R102). -/
def inWindow (a e : Nat) (t : Int) : Bool :=
  if a < e then decide ((a : Int) * 60000 ≤ t) && decide (t < (e : Int) * 60000)
  else if e < a then decide ((a : Int) * 60000 ≤ t) || decide (t < (e : Int) * 60000)
  else false

/-- Whether the settings and now put the window open (R102). -/
def Blocks.windowDue (b : Blocks) : Bool :=
  match b.time.now, b.chain.curfew with
  | some now, some c => inWindow c.startMinute c.endMinute (timeOfDay now)
  | _, _ => false

/-- The levels of a zone lowered to a ceiling in the latest render, the last dispatched levels and the handover record's
from-levels (R103, R104). -/
def lowerZone (k z : Nat) (b : Blocks) : Blocks :=
  match b.zone? z with
  | none => b
  | some c =>
    (b.setZone z (some { c with
      last := capLevels k c.last
      handover := c.handover.map (fun h => { h with from_ := capLevels k h.from_ }) })).updateLatest z (ZoneOut.cap k)

/-- Every configured non-protected zone whose current source is not exempt is lowered to K (R103). -/
def lowerNonExempt (b : Blocks) : Blocks :=
  forEach (allZones.filter (fun z => b.showable z && !b.sourceExempt z)) (lowerZone b.curfewCeiling) b

/-- An opening of the window (R103). -/
def openWindow (b : Blocks) : Blocks :=
  driveCurfewActive (lowerNonExempt { b with chain := { b.chain with windowOpen := true } })

/-- A closing of the window (R103). -/
def closeWindow (b : Blocks) : Blocks :=
  driveCurfewActive
    (defaultHandovers (fun z => b.showable z && !b.sourceExempt z) { b with chain := { b.chain with windowOpen := false } })

/-- The Level Chain takes an opening or a closing if the window has passed from one to the other (R103). -/
def followWindow (b : Blocks) : Blocks :=
  if b.windowDue && !b.chain.windowOpen then openWindow b
  else if !b.windowDue && b.chain.windowOpen then closeWindow b
  else b

/-! ## The ambient gain loop (R105 to R107) -/

/-- The faces' numbers. -/
def allFaces : List Nat := [0, 1, 2, 3]

/-- The record of a face. -/
def Blocks.face (b : Blocks) (f : Nat) : Face := b.chain.faces.getD f ⟨1024, 30, 0, 0⟩

/-- A value raised to a minimum and lowered to a maximum. -/
def clampGain (lo hi : Nat) (g : Int) : Nat := (min (max g lo) hi).toNat

/-- The update that a face's 16th sample completes (R105). -/
def ambientUpdate (a : Ambient) (average : Nat) (x : Face) : Face :=
  if Config.saturationMark ≤ average then { x with sum := 0, count := 0 }
  else
    let speed : Nat := if 0 < x.settle then a.sFast else a.sSlow
    let delta : Int := Int.tdiv (((average : Int) - a.aref) * speed) 256
    { gain := clampGain a.gmin a.gmax ((x.gain : Int) + delta), settle := x.settle - 1, sum := 0, count := 0 }

/-- A face takes an ambient sample (R105). -/
def ambientSample (f code : Nat) (b : Blocks) : Blocks :=
  let x := b.face f
  let y := if x.count + 1 = 16 then ambientUpdate b.chain.ambient ((x.sum + code) / 16) x
    else { x with sum := x.sum + code, count := x.count + 1 }
  { b with chain := { b.chain with faces := b.chain.faces.set f y } }

/-- All four settle counts take the settle value (R106). -/
def reloadSettle (b : Blocks) : Blocks :=
  { b with chain := { b.chain with faces := b.chain.faces.map (fun x => { x with settle := b.chain.ambient.settle }) } }

end Sys2Proof.Machine
end

