-- ==== Sys2Proof/Machine/Holding.lean ====
section
/-! DEFINITION. The Zone Resolver: claimants, winners, re-resolution (R50 to R58, R68, R69) and the two edges of Panel Hold
(R62 to R65). -/

namespace Sys2Proof.Machine

/-- The claimants of a zone: the occurrences of the Active Table whose booking's zone set contains it (R51). -/
def Blocks.claimants (b : Blocks) (z : Nat) : List Occurrence :=
  b.active.filter (fun o => decide (z ∈ b.zonesOf o.number))

/-- Whether a claimant outranks another: higher tier, then later start, then lower booking number (R51). -/
def outranks (x y : Occurrence) : Bool :=
  decide (y.tier.rank < x.tier.rank) ||
    (decide (x.tier.rank = y.tier.rank) &&
      (decide (y.start < x.start) || (decide (x.start = y.start) && decide (x.number < y.number))))

/-- The claimant that outranks the others. -/
def winner : List Occurrence → Option Occurrence
  | [] => none
  | x :: xs =>
    match winner xs with
    | none => some x
    | some y => if outranks y x then some y else some x

/-- The Holding Table's entry of a zone as re-resolution writes it (R50, R53). -/
def Blocks.resolvedEntry (b : Blocks) (z : Nat) : HoldingEntry :=
  { holder := (winner (b.claimants z)).map (fun o => ⟨o.id, o.number, o.tier, o.start⟩)
    claimants := (b.claimants z).length }

/-- Whether two Holding Table entries name the same Active Table record, or both none (R55) (assumption log 28). -/
def sameHolder (x y : HoldingEntry) : Bool := x.holder.map (fun h => h.id) == y.holder.map (fun h => h.id)

/-- The Holding Table with the entries of a set of zones written afresh. -/
def Blocks.resolvedTable (b : Blocks) (zones : List Nat) : List HoldingEntry :=
  allZones.map (fun z => if z ∈ zones then b.resolvedEntry z else b.holdingOf z)

/-- The changed zones of a re-resolution: those whose winner differs from the recorded holder (R53). -/
def Blocks.changedZones (b : Blocks) (zones : List Nat) : List Nat :=
  allZones.filter (fun z => decide (z ∈ zones) && !sameHolder (b.holdingOf z) (b.resolvedEntry z))

/-- The number of zones whose entry names an occurrence as holder (R69). -/
def Blocks.countHeld (b : Blocks) (id : Nat) : Nat :=
  (b.holding.filter (fun h => h.holder.map (fun k => k.id) == some id)).length

/-- The report of an occurrence's zones held after a re-resolution (R43, R69): a newcomer that holds none is Eclipsed; an
occurrence whose count falls to 0 is Eclipsed, and one whose count rises from 0 is Regained. -/
def reportHeld (newcomer : Option Nat) (o : Occurrence) (b : Blocks) : Blocks :=
  let c := b.countHeld o.id
  if newcomer = some o.id then (if c = 0 then b.report (.booking o.number) .eclipsed else b)
  else if c = 0 && o.held != 0 then b.report (.booking o.number) .eclipsed
  else if c != 0 && o.held = 0 then b.report (.booking o.number) .regained
  else b

/-- Zones held written afresh, with its reports (R53 step 5) (assumption log 20). -/
def recountHeld (newcomer : Option Nat) (b : Blocks) : Blocks :=
  forEach b.active (reportHeld newcomer)
    { b with active := b.active.map (fun o => { o with held := b.countHeld o.id }) }

/-- Whether re-resolutions start handovers: not while Panel Hold is asserted (R64), nor within a Restart Schedule (R66). -/
def Blocks.fades (b : Blocks) : Bool := !b.panelHold && b.deferral.isNone

/-- The re-resolution of a set of zones (R53): entries, handovers, HolderChanged, zones held, Feeder Control, Show Live.
`newcomer` is the record that is entering, if any. -/
def resolve (zones : List Nat) (newcomer : Option Nat) (b : Blocks) : Blocks :=
  let changed := b.changedZones zones
  let b1 := { b with holding := b.resolvedTable zones }
  let b2 := if b1.fades then forEach changed (fun z x => startHandover z (x.handoverLength z) x) b1 else b1
  let b3 := forEach changed (fun z x => x.report (.zone z) .holderChanged) b2
  let b4 := recountHeld newcomer b3
  let b5 := forEach (b4.feedersOf changed) reevaluateFeeder b4
  reevaluateShowLive b5

/-! ## Panel Hold (R62 to R65) -/

/-- An assertion of Panel Hold is taken (R63) (assumption log 21). -/
def assertPanelHold (b : Blocks) : Blocks :=
  if b.panelHold then b
  else
    let b1 := { b with panelHold := true }
    defaultHandovers b1.showable b1

/-- A release of Panel Hold is taken (R65). -/
def releasePanelHold (b : Blocks) : Blocks :=
  if b.panelHold then
    let b1 := { b with panelHold := false }
    defaultHandovers b1.showable b1
  else b

/-- PANEL_HOLD_ASSERTION (R63). The input has been asserted for 20 ms; an assertion is taken only while the state is
Released (R62). -/
def execPanelHoldAssertion (s : State) : Host.Outcome State Fault Refusal := .next (s.mapBlocks assertPanelHold)

/-- PANEL_HOLD_RELEASE (R65). The input has been deasserted for 20 ms; a release is taken only while the state is Asserted
(R62). -/
def execPanelHoldRelease (s : State) : Host.Outcome State Fault Refusal := .next (s.mapBlocks releasePanelHold)

end Sys2Proof.Machine
end

