-- ==== Sys2Proof/Machine/Views.lean ====
section
/-! DEFINITION. What the report requests read, and so the summaries of the notices (R22, R79, R109, R122, R136, R153, R164,
R166, R173, R181). -/

namespace Sys2Proof.Machine

/-- An active occurrence as Look Up gives it: zones held is not carried (R22, R60). -/
def activeView (o : Occurrence) : ActiveView :=
  { day := o.day, start := o.start, finish := o.finish, position := o.position, follow := o.follow }

/-- Look Up's body for a booking (R22). -/
def Blocks.bookingView (b : Blocks) (k : Booking) : BookingView :=
  { number := k.number, fields := k.fields, state := k.state, next := b.upcoming? k.number,
    active := (b.active? k.number).map activeView, boundary := k.boundary, lastOutcome := k.lastOutcome, runCount := k.runCount }

/-- A program's reference count: the occupied slots whose booking names it (R11). -/
def Blocks.references (b : Blocks) (p : Nat) : Nat := (b.bookings.filter (fun k => k.fields.program == p)).length

/-- The steps a program slot holds from the pool (R71). -/
def ProgramSlot.holds : ProgramSlot → Nat
  | .empty => 0
  | .loading p => p.declared
  | .ready p => p.declared

/-- The free count of the pool (R71). -/
def Blocks.freeCount (b : Blocks) : Nat := Config.poolSteps - (b.programs.map ProgramSlot.holds).sum

/-- The fields of a Loading or Ready slot that Program Report returns (R79). -/
def programFields (p : ProgramData) : Nat × EndAction × Levels × Nat × Nat :=
  (p.length, p.endAction, p.fallback, p.declared, p.steps.length)

/-- Program Report's body (R79): the state 0 Empty, 1 Loading, 2 Ready. -/
def Blocks.programView (b : Blocks) (p : Nat) : ProgramView :=
  match b.program p with
  | .empty => ⟨p, 0, b.references p, none, b.freeCount⟩
  | .loading d => ⟨p, 1, b.references p, some (programFields d), b.freeCount⟩
  | .ready d => ⟨p, 2, b.references p, some (programFields d), b.freeCount⟩

/-- A zone's handover as Zone Report shows it: the elapsed time given as the length once it has reached it (R99). -/
def Blocks.handoverView (b : Blocks) (h : Handover) : HandoverView := ⟨h.length, min h.length (b.ownMs - h.start)⟩

/-- Zone Report's body (R68, R164). -/
def Blocks.zoneView (b : Blocks) (z : Nat) : ZoneView :=
  { zone := z, record := (b.zone? z).map (fun c => { c with handover := none }),
    holder := (b.holder? z).map (fun h => ⟨h.number, h.tier, h.start⟩), claimants := (b.holdingOf z).claimants,
    handover := ((b.zone? z).bind (fun c => c.handover)).map b.handoverView, panelHold := b.panelHold }

/-- Whether a slot of a frame carries levels. -/
def SlotEntry.carries : SlotEntry → Bool
  | .levels _ _ => true
  | .noLevels => false

/-- What Riser Report tells of the last frame sent: sequence number, rate, tally target and the slots that carried levels
(R153). -/
def frameSummary (f : Frame) : Nat × Rate × Nat × Nat := (f.sequence, f.rate, f.target, (f.slots.filter SlotEntry.carries).length)

/-- The kind of an exchange without its body. -/
def ExchangeKind.name : ExchangeKind → ExchangeName
  | .noticeRead => .noticeRead
  | .setFallback _ => .setFallback
  | .resetNode => .resetNode
  | .round => .round

/-- One entry of a directed queue as Riser Report shows it (R153). -/
def exchangeView (e : Exchange) : ExchangeView := ⟨e.kind.name, e.slot, e.attempts⟩

/-- Riser Report's body (R153). -/
def Blocks.riserView (b : Blocks) (r : Nat) : RiserView :=
  let x := b.riser r
  { riser := r, state := x.state, enabled := x.enabled, maxRate := x.maxRate, rate := x.rate, pending := x.pending,
    policy := x.policy, lag := x.lag, lost := x.lost, sequence := x.sequence, queue := x.queue.map exchangeView, rollCall := x.rollCall,
    rounds := x.rounds, cursor := x.cursor, lastFrame := x.lastFrame.map frameSummary, stranger := x.stranger,
    underruns := x.underruns, retry := x.retryFrom.map (fun t => b.elapsedMs t Config.retryMs) }

/-- Time Report's body (R122). -/
def Blocks.timeView (b : Blocks) : TimeView :=
  let t := b.time
  { state := t.state, now := t.now, rate := t.rate, interval := t.interval, frozen := t.frozen, bad := t.bad, run := t.run,
    phase := t.phase, slew := t.slew, lastStep := t.lastStep, pending := t.pending, base := t.base,
    almanacCount := b.almanac.length, lowest := b.almanac.head?.map (fun e => e.day),
    highest := b.almanac.getLast?.map (fun e => e.day) }

/-- The number of occurrences in a follow status (R136). -/
def Blocks.countFollow (b : Blocks) (f : FollowStatus) : Nat := (b.active.filter (fun o => decide (o.follow = f))).length

/-- Cue Report's body (R136). -/
def Blocks.cueView (b : Blocks) : CueView :=
  let c := b.cue
  { state := c.state, last := c.last, running := c.running,
    estimate := c.last.map (fun t => if c.running then t + c.ticks else t), run := c.run,
    silence := c.silentFrom.map (fun t => b.elapsedMs t Config.silenceMs), jumps := c.jumps, rejected := c.rejected,
    awaiting := b.countFollow .awaiting, following := b.countFollow .following, free := b.countFollow .free }

/-- Chain Report's body (R109). -/
def Blocks.chainView (b : Blocks) : ChainView :=
  let c := b.chain
  { faces := c.faces.map (fun f => (f.gain, f.settle, f.count)), ambient := c.ambient, curfew := c.curfew,
    windowOpen := c.windowOpen, holdLook := c.holdLook, defaultHandover := c.defaultHandover }

/-- The record of a sensor channel (R165). -/
def Blocks.channel (b : Blocks) (c : Nat) : Channel := b.scan.channels.getD c ⟨none, 0, 0⟩

/-- A feeder's record as the host sees it: the idle timer shows the own ms it has run (R167). -/
def Blocks.feederRecord (b : Blocks) (x : Feeder) : FeederRecord :=
  { budget := x.budget, tripMark := x.tripMark, source := x.source, commandClosed := x.commandClosed, closed := x.closed,
    tripped := x.tripped, overCount := x.overCount, armClaims := x.armClaims,
    idle := x.idleFrom.map (fun t => b.elapsedMs t Config.idleMs), load := x.load, scale := x.scale }

/-- Feeder Report's body (R173). -/
def Blocks.feederView (b : Blocks) (f : Nat) : FeederView :=
  let x := b.feeder f
  { feeder := f, record := b.feederRecord x, claims := x.armClaims.length,
    holdingZones := (allZones.filter (b.zoneClaims f)).length,
    latest := (b.channel (4 + f)).latest, age := (b.channel (4 + f)).age, showLive := b.showLive,
    curfewActive := b.curfewActive }

/-- The summary of a notice entry: its record's report at this moment, or a closed entry's own (R181). -/
def Blocks.summary (b : Blocks) (e : NoticeEntry) : ReplyBody :=
  match e.closed with
  | some v => .booking v
  | none =>
    match e.record with
    | .booking n => match b.booking? n with
      | some k => .booking (b.bookingView k)
      | none => .empty
    | .zone z => .zone (b.zoneView z)
    | .riser r => .riser (b.riserView r)
    | .feeder f => .feeder (b.feederView f)
    | .timeBase => .time b.timeView
    | .cueClock => .cue b.cueView

end Sys2Proof.Machine
end

