-- ==== Sys2Proof/Machine/Windows.lean ====
section
/-! DEFINITION. Anchors, the almanac lookup, the window of a pattern day and the search for the next occurrence
(R26 to R30). -/

namespace Sys2Proof.Machine

/-- The almanac lookup of a day (R28): its own entry's time, or the time of the highest entry of the 7 days before, which is
then estimated. -/
def almanacTime (alm : List AlmanacDay) (pick : AlmanacDay → Nat) (x : Nat) : Option (Nat × Bool) :=
  match alm.find? (fun e => e.day == x) with
  | some e => some (pick e, false)
  | none => ((alm.filter (fun e => decide (e.day < x) && decide (x ≤ e.day + 7))).getLast?).map (fun e => (pick e, true))

/-- The instant that an anchor gives on a day, with its estimated mark (R27); none when the almanac has no usable time. -/
def anchorInstant (alm : List AlmanacDay) (d : Nat) : Anchor → Option (Instant × Bool)
  | .clock t => some ((d : Int) * Config.dayMs + t, false)
  | .sunset m => (almanacTime alm (fun e => e.sunset) d).map (fun p => ((d : Int) * Config.dayMs + p.1 + m * 60000, p.2))
  | .sunrise m => (almanacTime alm (fun e => e.sunrise) d).map (fun p => ((d : Int) * Config.dayMs + p.1 + m * 60000, p.2))

/-- What the End field gives for a pattern day (R29). -/
inductive EndAnswer where
  | noTime
  | noValidEnd
  | ends (finish : Instant) (estimated : Bool)
deriving DecidableEq, Repr

/-- The clamp of a window to 18 hours (R29). -/
def clampEnd (start finish : Instant) : Instant :=
  if start + Config.windowMs < finish then start + Config.windowMs else finish

/-- The end instant of pattern day d (R29): a duration, or the end anchor on day d, or on day d + 1 when that is not after the
start. The estimated mark is that of the anchor's time, also where the clamp replaces the end it gives (R28; assumption
log 45). -/
def endInstant (alm : List AlmanacDay) (d : Nat) (start : Instant) : EndField → EndAnswer
  | .duration s => .ends (clampEnd start (start + (s : Int) * 1000)) false
  | .anchored a =>
    match anchorInstant alm d a with
    | none => .noTime
    | some (e, est) =>
      if start < e then .ends (clampEnd start e) est
      else
        match anchorInstant alm (d + 1) a with
        | none => .noTime
        | some (e', est') => if start < e' then .ends (clampEnd start e') est' else .noValidEnd

/-- The window of a pattern day. -/
structure Window where
  day : Nat
  start : Instant
  finish : Instant
  marks : EstimateMarks
deriving DecidableEq, Repr

/-- Whether a window is estimated (R28). -/
def Window.estimated (w : Window) : Bool := w.marks.any

/-- What the start and end rules give for a pattern day: no usable almanac time, a window that R29 treats as absent, a start
without a valid end, or a window. -/
inductive WindowAnswer where
  | noTime
  | absent
  | noValidEnd (start : Instant)
  | window (w : Window)
deriving DecidableEq, Repr

/-- The window of pattern day d by R27 to R29, taken no further than the start when the start lies before a boundary
(R30 step 3 passes such a day over before its end is computed). -/
def windowOf (alm : List AlmanacDay) (fields : BookingFields) (boundary : Option Instant) (d : Nat) : WindowAnswer :=
  match anchorInstant alm d fields.start with
  | none => .noTime
  | some (st, est) =>
    if st < 0 then .absent
    else if (match boundary with | some x => decide (st < x) | none => false) then .absent
    else
      match endInstant alm d st fields.finish with
      | .noTime => .noTime
      | .noValidEnd => .noValidEnd st
      | .ends e est' => if Config.lastInstant < e then .absent else .window ⟨d, st, e, ⟨est, est'⟩⟩

/-- The weekday of a day under a calendar base (R26). -/
def weekday (base d : Nat) : Nat := (base + d) % 7

/-- Whether a day is a pattern day that runs: not a skip day and, for Weekly, on a weekday of the set (R24, R30 step 1). -/
def runsOn (base : Nat) (fields : BookingFields) (d : Nat) : Bool :=
  !decide (d ∈ fields.skip) && (decide (fields.pattern.kind ≠ .weekly) || decide (weekday base d ∈ fields.pattern.weekdays))

/-- Whether a day is passed over without computing its window (R30 step 2). -/
def dayPast (now : Instant) (boundary : Option Instant) (d : Nat) : Bool :=
  decide ((d : Int) * Config.dayMs + Config.latestEndMs ≤ now) ||
    (match boundary with
     | some x => decide ((d : Int) * Config.dayMs + Config.latestStartMs < x)
     | none => false)

/-- What a search finds (R30). -/
inductive Found where
  | noneLeft
  | stalled
  | window (w : Window)
deriving DecidableEq, Repr

/-- The answer of a search: what it finds, the boundary it leaves, and whether it disposed of a day as Skipped. -/
structure SearchAnswer where
  found : Found
  boundary : Option Instant
  skipped : Bool
deriving DecidableEq, Repr

/-- The search for the next occurrence over `count` days from day d on (R30). -/
def searchDays (alm : List AlmanacDay) (base : Nat) (now : Instant) (fields : BookingFields) :
    (count d : Nat) → Option Instant → Bool → SearchAnswer
  | 0, _, boundary, skipped => ⟨.noneLeft, boundary, skipped⟩
  | count + 1, d, boundary, skipped =>
    if !runsOn base fields d || dayPast now boundary d then searchDays alm base now fields count (d + 1) boundary skipped
    else
      match windowOf alm fields boundary d with
      | .noTime => ⟨.stalled, boundary, skipped⟩
      | .absent => searchDays alm base now fields count (d + 1) boundary skipped
      | .noValidEnd st => searchDays alm base now fields count (d + 1) (some (st + 1)) true
      | .window w =>
        if w.finish ≤ now then searchDays alm base now fields count (d + 1) boundary skipped
        else ⟨.window w, boundary, skipped⟩

/-- The search over a booking's pattern days, from the first to the last (R30). -/
def search (alm : List AlmanacDay) (base : Nat) (now : Instant) (fields : BookingFields) (boundary : Option Instant) :
    SearchAnswer :=
  searchDays alm base now fields (fields.pattern.last + 1 - fields.pattern.first) fields.pattern.first boundary false

end Sys2Proof.Machine
end

