-- ==== Sys2Proof/Machine/Occurrences.lean ====
section
/-! DEFINITION. The Occurrence Engine: placement, the Upcoming List, arming, the Active Table, starts, ends, batch placements
and time steps (R5, R7, R10, R31 to R49), with the slot's freeing (R10, R11, R181). -/

namespace Sys2Proof.Machine

/-! ## Slots, outcomes and boundaries -/

/-- The open entry of a booking becomes closed, with its summary taken now and the booking shown as Retiring (R181). -/
def closeEntry (n : Nat) (v : BookingView) (l : List NoticeEntry) : List NoticeEntry :=
  l.map (fun e => if e.opens (.booking n) then { e with closed := some { v with state := .retiring } } else e)

/-- The slot of a booking is freed (R10); an entry that it still has in the Notice List is closed (R181). The program's
reference count is a count of the occupied slots, so it falls with the slot (R11). -/
def freeSlot (n : Nat) (b : Blocks) : Blocks :=
  match b.booking? n with
  | none => b
  | some k =>
    { b with
      notices := closeEntry n (b.bookingView k) b.notices
      bookings := b.bookings.filter (fun x => x.number != n) }

/-- A booking whose placement answers None left becomes Retiring and reports Retired; with Retired masked its slot is freed at
once (R10). -/
def retire (n : Nat) (b : Blocks) : Blocks :=
  let b1 := b.updateBooking n (fun k => { k with state := .retiring })
  if .retired ∈ b.mask then b1.report (.booking n) .retired
  else freeSlot n { b1 with lastFreed := b1.booking? n }

/-- Whether an outcome counts a run (R5). -/
def LastOutcome.counted : LastOutcome → Bool
  | .completed | .cutShort | .evicted => true
  | _ => false

/-- A booking's last outcome is written and its run count raised, saturating (R5). -/
def recordOutcome (n : Nat) (o : LastOutcome) (b : Blocks) : Blocks :=
  b.updateBooking n (fun k =>
    { k with lastOutcome := o, runCount := if o.counted then min 65535 (k.runCount + 1) else k.runCount })

/-- A booking's boundary is written (R31). -/
def setBoundary (n : Nat) (x : Option Instant) (b : Blocks) : Blocks :=
  b.updateBooking n (fun k => { k with boundary := x })

/-- A booking is Scheduled for a window that rests on the estimated times marked (R6, R28). -/
def schedule (n : Nat) (marks : EstimateMarks) (b : Blocks) : Blocks :=
  b.updateBooking n (fun k => { k with state := .scheduled, marks := marks })

/-- A booking's state is written (R6). -/
def setBookingState (n : Nat) (st : BookingState) (b : Blocks) : Blocks :=
  b.updateBooking n (fun k => { k with state := st })

/-- An occurrence is disposed of with an outcome: the outcome is written, Ended reported and the boundary written
(R5, R31). -/
def dispose (n : Nat) (o : LastOutcome) (boundary : Option Instant) (b : Blocks) : Blocks :=
  setBoundary n boundary ((recordOutcome n o b).reportEnded n o)

/-! ## The Upcoming List (R34, R35) -/

/-- The order of the Upcoming List: by start, then by tier from highest, then by booking number from lowest (R34). -/
def upcomingBefore (x y : UpcomingEntry) : Bool :=
  decide (x.start < y.start) ||
    (decide (x.start = y.start) &&
      (decide (y.tier.rank < x.tier.rank) || (decide (x.tier.rank = y.tier.rank) && decide (x.number < y.number))))

/-- An entry joins the Upcoming List at its place (R32, R34). -/
def insertUpcoming (e : UpcomingEntry) : List UpcomingEntry → List UpcomingEntry
  | [] => [e]
  | x :: xs => if upcomingBefore e x then e :: x :: xs else x :: insertUpcoming e xs

/-- Whether an entry lies within its arm lead of a now: reached by now, and not yet due (R35). -/
def Blocks.withinLead (b : Blocks) (now : Instant) (e : UpcomingEntry) : Bool :=
  decide (e.start - (b.armLead : Int) * 1000 ≤ now) && decide (now < e.start)

/-- An entry is armed: its flag is set, and its number joins the arm claims of the feeders of its booking's zones (R35). -/
def armEntry (n : Nat) (b : Blocks) : Blocks :=
  let b1 := { b with upcoming := b.upcoming.map (fun e => if e.number = n then { e with armed := true } else e) }
  forEach (b1.feedersOf (b1.zonesOf n)) (claimFeeder n) b1

/-- Every entry that lies within its lead and is not armed is armed, in the order of the list (R35; assumption log 20). -/
def armDue (b : Blocks) : Blocks :=
  match b.time.now with
  | none => b
  | some now =>
    forEach ((b.upcoming.filter (fun e => b.withinLead now e && !e.armed)).map (fun e => e.number)) armEntry b

/-- An entry leaves the Upcoming List; if it was armed its claim ends (R34, R35). -/
def removeEntry (n : Nat) (b : Blocks) : Blocks :=
  match b.upcoming? n with
  | none => b
  | some e =>
    let b1 := { b with upcoming := b.upcoming.filter (fun x => x.number != n) }
    if e.armed then releaseClaims n b1 else b1

/-! ## Placement (R7, R30, R32) -/

/-- The search's answer is recorded: a day disposed of as Skipped writes the outcome, reports Ended and raises the boundary
(R30 step 4). -/
def recordSkips (n : Nat) (a : SearchAnswer) (b : Blocks) : Blocks :=
  if a.skipped then dispose n .skipped a.boundary b else b

/-- An entry for a found window joins the Upcoming List: the booking is Scheduled, an estimated window is reported, and then an
entry within its lead is armed as it is placed (R32, R35; assumption log 20). -/
def insertWindow (n : Nat) (tier : Tier) (now : Instant) (w : Window) (b : Blocks) : Blocks :=
  let e : UpcomingEntry := ⟨n, tier, w.day, w.start, w.finish, w.estimated, false⟩
  let b1 := schedule n w.marks { b with upcoming := insertUpcoming e b.upcoming }
  let b2 := if w.estimated then b1.report (.booking n) .estimated else b1
  if b2.withinLead now e then armEntry n b2 else b2

/-- A booking is placed without starting anything (R7, R30, R33). `quiet` keeps back the Stalled report of a booking that was
Stalled already (R9, R125) (assumption log 19). -/
def placeOnly (quiet : Bool) (n : Nat) (b : Blocks) : Blocks :=
  match b.booking? n with
  | none => b
  | some k =>
    match b.time.now with
    | none => setBookingState n .held b
    | some now =>
      let a := search b.almanac b.time.base now k.fields k.boundary
      let b1 := recordSkips n a b
      match a.found with
      | .noneLeft => retire n b1
      | .stalled =>
        let b2 := setBookingState n .stalled b1
        if quiet && decide (k.state = .stalled) then b2 else b2.report (.booking n) .stalled
      | .window w => insertWindow n k.fields.tier now w b1

/-- Whether a booking's entry is due: its start is at or before now (R32). -/
def Blocks.isDue (b : Blocks) (n : Nat) : Bool :=
  match b.upcoming? n, b.time.now with
  | some e, some now => decide (e.start ≤ now)
  | _, _ => false

/-! ## The Active Table (R36 to R42) -/

/-- The receiver's cue estimate (R132). -/
def CueReceiver.estimate (c : CueReceiver) : Option Nat :=
  c.last.map (fun t => if c.running then t + c.ticks else t)

/-- A position set from the cue: the cue estimate less the offset (R132). -/
def CueReceiver.positionFor (c : CueReceiver) (offset : Nat) : Int := ((c.estimate.getD 0 : Nat) : Int) - offset

/-- The follow status and position of an occurrence at entry (R38, R131). -/
def entryFollow (cue : CueReceiver) (follow : Option Nat) (position : Int) : FollowStatus × Int :=
  match follow with
  | none => (.unfollowed, position)
  | some off => if cue.state = .locked then (.following, cue.positionFor off) else (.awaiting, position)

/-- An occurrence enters the Active Table (R38). `extra` is an evicted victim's zone set, resolved in the same re-resolution
(R56). -/
def enter (e : UpcomingEntry) (extra : List Nat) (b : Blocks) : Blocks :=
  let pos := min Config.positionMax ((b.time.now.getD e.start) - e.start)
  let follow := ((b.booking? e.number).map (fun k => k.fields.follow)).join
  let fp := entryFollow b.cue follow pos
  let id := b.nextId
  let o : Occurrence := ⟨e.number, e.tier, e.day, e.start, e.finish, fp.2, fp.1, 0, id⟩
  let b1 := setBookingState e.number .running { b with active := b.active ++ [o], nextId := id + 1 }
  let b2 := b1.report (.booking e.number) .started
  let b3 := resolve (b2.zonesOf e.number ++ extra) (some id) b2
  if e.tier = .base then reloadSettle b3 else b3

/-- Whether an occupant goes before another as the victim: lower tier, then earlier start, then higher booking number
(R39). -/
def weaker (x y : Occurrence) : Bool :=
  decide (x.tier.rank < y.tier.rank) ||
    (decide (x.tier.rank = y.tier.rank) &&
      (decide (x.start < y.start) || (decide (x.start = y.start) && decide (y.number < x.number))))

/-- The victim among the occupants (R39). -/
def victim : List Occurrence → Option Occurrence
  | [] => none
  | x :: xs =>
    match victim xs with
    | none => some x
    | some y => if weaker y x then some y else some x

/-- An occurrence's record leaves the Active Table (R42 stage 1). -/
def dropRecord (o : Occurrence) (b : Blocks) : Blocks := { b with active := b.active.filter (fun x => x.id != o.id) }

/-- Stages 1 to 5 of an occurrence that leaves the Active Table (R42): the record, the re-resolution, the outcome, the Ended
report and the boundary. -/
def leave (o : Occurrence) (out : LastOutcome) (boundary : Option Instant) (b : Blocks) : Blocks :=
  dispose o.number out boundary (resolve (b.zonesOf o.number) none (dropRecord o b))

/-- A newcomer that may not enter a full table is Skipped and placed again past its window (R40). -/
def skipStart (e : UpcomingEntry) (b : Blocks) : Blocks :=
  placeOnly false e.number (dispose e.number .skipped (some e.finish) b)

/-- The victim leaves with outcome Evicted, its zones not yet re-resolved, and its booking is placed again (R39, R42, R56). -/
def evictVictim (v : Occurrence) (b : Blocks) : Blocks :=
  placeOnly false v.number (dispose v.number .evicted b.time.now (dropRecord v b))

/-- The start of an entry is taken (R36), the re-placement of an evicted victim left unstarted. -/
def startOnce (n : Nat) (b : Blocks) : Blocks :=
  match b.upcoming? n with
  | none => b
  | some e =>
    let b1 := removeEntry n b
    if b1.active.length < Config.activePlaces then enter e [] b1
    else
      match victim b1.active with
      | none => enter e [] b1
      | some v =>
        if v.tier.rank < e.tier.rank then enter e (b1.zonesOf v.number) (evictVictim v b1)
        else skipStart e b1

/-- The occupant that the start of an entry would evict, if any (R39). -/
def Blocks.victimOf (b : Blocks) (n : Nat) : Option Nat :=
  match b.upcoming? n, victim b.active with
  | some e, some v =>
    if Config.activePlaces ≤ b.active.length && decide (v.tier.rank < e.tier.rank) then some v.number else none
  | _, _ => none

/-- The start of an entry is taken on its own, outside a batch or a step (R36). A window of the evicted booking that is due at
once is taken as a start once the newcomer is in (R39) (assumption log 38). -/
def takeStart (n : Nat) (b : Blocks) : Blocks :=
  let b1 := startOnce n b
  match b.victimOf n with
  | some m => if b1.isDue m then startOnce m b1 else b1
  | none => b1

/-- A booking is placed, and a due entry's start is taken at once (R32). -/
def place (n : Nat) (b : Blocks) : Blocks :=
  let b1 := placeOnly false n b
  if b1.isDue n then takeStart n b1 else b1

/-- An occurrence reaches its end: it leaves Completed and its booking is placed again (R41, R42). -/
def complete (o : Occurrence) (b : Blocks) : Blocks := place o.number (leave o .completed (some o.finish) b)

/-! ## Batch placements and steps (R33, R45, R46) -/

/-- An Upcoming entry whose whole window a forward step has passed (R45). -/
def missEntry (e : UpcomingEntry) (b : Blocks) : Blocks :=
  placeOnly false e.number (dispose e.number .missed (some e.finish) (removeEntry e.number b))

/-- The due entries are taken from the head of the list, one after another; in a forward step an entry whose end has passed
is Missed (R33, R45). A re-placement made meanwhile, an evicted booking's too, waits in the list for its turn. `fuel` bounds
the number of entries taken. -/
def drain (step : Bool) : Nat → Blocks → Blocks
  | 0, b => b
  | fuel + 1, b =>
    match b.upcoming, b.time.now with
    | e :: _, some now =>
      if e.start ≤ now then
        drain step fuel (if step && decide (e.finish ≤ now) then missEntry e b else startOnce e.number b)
      else b
    | _, _ => b

/-- A bound on the entries that one event can take: each booking is missed, started, evicted and skipped at most once. -/
def Blocks.drainFuel (b : Blocks) : Nat := 4 * (b.bookings.length + 1)

/-- The batch placement of a list of bookings (R33). -/
def placeBatch (quiet : Bool) (ns : List Nat) (b : Blocks) : Blocks :=
  let b1 := forEach ns (placeOnly quiet) b
  drain false b1.drainFuel b1

/-- Whether an active occurrence goes before another in the order in which a forward step ends them: by end instant, then by
tier from highest, then by booking number from lowest (R45). -/
def endsBefore (x y : Occurrence) : Bool :=
  decide (x.finish < y.finish) ||
    (decide (x.finish = y.finish) &&
      (decide (y.tier.rank < x.tier.rank) || (decide (x.tier.rank = y.tier.rank) && decide (x.number < y.number))))

/-- Insert an occurrence in the order of R45. -/
def insertEnding (x : Occurrence) : List Occurrence → List Occurrence
  | [] => [x]
  | y :: ys => if endsBefore x y then x :: y :: ys else y :: insertEnding x ys

/-- The active occurrences that a forward step ends, in its order (R45). -/
def Blocks.ending (b : Blocks) (now : Instant) : List Occurrence :=
  (b.active.filter (fun o => decide (o.finish ≤ now))).foldr insertEnding []

/-- An occurrence that a forward step ends: Completed, its booking placed again without a start (R45). -/
def completeInStep (o : Occurrence) (b : Blocks) : Blocks :=
  match b.active? o.number with
  | none => b
  | some p => if p.id = o.id then placeOnly false o.number (leave p .completed (some p.finish) b) else b

/-- A forward step at the Occurrence Engine, now being the new now (R45). -/
def forwardStep (b : Blocks) : Blocks :=
  match b.time.now with
  | none => b
  | some now =>
    let b1 := forEach (b.ending now) completeInStep b
    armDue (drain true b1.drainFuel b1)

/-! ## The engine's events -/

/-- Now reaches an entry's start less the arm lead (R35). -/
def reachLead (n : Nat) (b : Blocks) : Blocks :=
  match b.upcoming? n, b.time.now with
  | some e, some now => if b.withinLead now e && !e.armed then armEntry n b else b
  | _, _ => b

/-- Now reaches the start of the entry at the head of the list (R36). -/
def reachStart (b : Blocks) : Blocks :=
  match b.upcoming with
  | e :: _ => if b.isDue e.number then takeStart e.number b else b
  | [] => b

/-- Now reaches the end instant of a booking's active occurrence (R41). -/
def reachEnd (n : Nat) (b : Blocks) : Blocks :=
  match b.active? n, b.time.now with
  | some o, some now => if o.finish ≤ now then complete o b else b
  | _, _ => b

/-- ENTRY_ARMED (R35). -/
def execEntryArmed (n : Nat) (s : State) : Host.Outcome State Fault Refusal := .next (s.mapBlocks (reachLead n))

/-- OCCURRENCE_START (R36). -/
def execOccurrenceStart (s : State) : Host.Outcome State Fault Refusal := .next (s.mapBlocks reachStart)

/-- OCCURRENCE_END (R41). -/
def execOccurrenceEnd (n : Nat) (s : State) : Host.Outcome State Fault Refusal := .next (s.mapBlocks (reachEnd n))

end Sys2Proof.Machine
end

