-- ==== Sys2Proof/Machine/Cue.lean ====
section
/-! DEFINITION. The Cue Clock Receiver (chapter 7): cue words, lock, jumps, pauses, silence, and Follow Again. -/

namespace Sys2Proof.Machine

/-- Change the receiver record. -/
def Blocks.updateCue (b : Blocks) (g : CueReceiver → CueReceiver) : Blocks := { b with cue := g b.cue }

/-- The receiver's state takes a value; a change reports CueState (R128). -/
def setCueState (st : CueState) (b : Blocks) : Blocks :=
  if b.cue.state = st then b else (b.updateCue (fun c => { c with state := st })).report .cueClock .cueState

/-- Whether an advance is in step (R128). An absent advance is not. -/
def inStep : Option Int → Bool
  | some a => decide (0 ≤ a) && decide (a ≤ (Config.silenceMs : Int))
  | none => false

/-- The cue offset of an occurrence's booking (R126). -/
def Blocks.offsetOf (b : Blocks) (n : Nat) : Nat :=
  (((b.booking? n).map (fun k => k.fields.follow)).join).getD 0

/-- Every Awaiting occurrence becomes Following at a lock gained, its position from the cue estimate (R131, R132). -/
def followAwaiting (b : Blocks) : Blocks :=
  { b with active := b.active.map (fun o =>
      if o.follow = .awaiting then { o with follow := .following, position := b.cue.positionFor (b.offsetOf o.number) } else o) }

/-- Every Following occurrence takes its position from a word's cue time (R132). -/
def setFollowing (time : Nat) (b : Blocks) : Blocks :=
  { b with active := b.active.map (fun o =>
      if o.follow = .following then { o with position := (time : Int) - b.offsetOf o.number } else o) }

/-- The receiver's state after a valid word, by its state before and the word's advance (R128, R129). -/
def moveOnWord (advance : Option Int) (b : Blocks) : Blocks :=
  match b.cue.state with
  | .silent => setCueState .acquiring (b.updateCue (fun c => { c with run := 1 }))
  | .acquiring =>
    if inStep advance then
      if b.cue.run = 1 then b.updateCue (fun c => { c with run := 2 })
      else followAwaiting (setCueState .locked (b.updateCue (fun c => { c with run := 3 })))
    else b.updateCue (fun c => { c with run := 1 })
  | .locked => if inStep advance then b else b.updateCue (fun c => { c with jumps := min 65535 (c.jumps + 1) })

/-- A valid word (R127). -/
def takeWord (time : Nat) (running : Bool) (b : Blocks) : Blocks :=
  let advance : Option Int := b.cue.last.map (fun t => (time : Int) - t)
  let b1 := b.updateCue (fun c => { c with last := some time, ticks := 0, silentFrom := some b.ownUs, running := running })
  let b2 := if b.cue.running = running then b1 else b1.report .cueClock .cuePause
  let b3 := moveOnWord advance b2
  if b3.cue.state = .locked then setFollowing time b3 else b3

/-- A cue word arrives (R127): one that is not valid raises the rejected words count and has no other effect. -/
def cueWord (checked : Bool) (time : Nat) (running : Bool) (b : Blocks) : Blocks :=
  if checked && decide ((time : Int) < Config.dayMs) then takeWord time running b
  else b.updateCue (fun c => { c with rejected := min 65535 (c.rejected + 1) })

/-- Lock is lost: every Following occurrence is set Free, and each reports FollowLost, in the order of the Active
Table (R133; assumption log 20). -/
def loseLock (b : Blocks) : Blocks :=
  let lost := (b.active.filter (fun o => decide (o.follow = .following))).map (fun o => o.number)
  forEach lost (fun n x => x.report (.booking n) .followLost)
    { b with active := b.active.map (fun o => if o.follow = .following then { o with follow := .free } else o) }

/-- The silence timer reaches 250 ms (R128): Silent, run 0, the timer stopped, and lock lost if it was Locked. -/
def silenceTimeout (b : Blocks) : Blocks :=
  match b.cue.silentFrom with
  | none => b
  | some t =>
    if b.cue.state = .silent then b
    else
      let b1 := b.advanceTo (t + Config.silenceMs * 1000)
      let b2 := setCueState .silent (b1.updateCue (fun c => { c with run := 0, silentFrom := none }))
      if b.cue.state = .locked then loseLock b2 else b2

/-- Follow Again (R134). -/
def followAgain (n : Nat) (b : Blocks) : Blocks × Answer :=
  let refused := fun st => (b, refuseWith st (.followRefused ((b.active? n).map (fun o => o.follow)) b.cue.state))
  if !bookingNumber n then refused .outOfRange
  else
    match b.booking? n, b.active? n with
    | none, _ => refused .noSuchRecord
    | some _, none => refused .wrongState
    | some k, some _ =>
      match k.fields.follow with
      | none => refused .wrongState
      | some off =>
        if k.state ≠ .running then refused .wrongState
        else if b.cue.state ≠ .locked then refused .notLocked
        else
          let pos := b.cue.positionFor off
          (b.updateActive n (fun o => { o with follow := .following, position := pos }),
            okWith (.followed .following pos (b.cue.estimate.getD 0)))

/-- CUE_WORD (R127). -/
def execCueWord (checked : Bool) (time : Nat) (running : Bool) (s : State) : Host.Outcome State Fault Refusal :=
  .next (s.mapBlocks (cueWord checked time running))

/-- SILENCE_TIMEOUT (R128). -/
def execSilenceTimeout (s : State) : Host.Outcome State Fault Refusal := .next (s.mapBlocks silenceTimeout)

/-- FOLLOW_AGAIN (R134). -/
def execFollowAgain (s : State) : Host.Outcome State Fault Refusal :=
  .next (serve 23 (onFields (fun f b => match f with
    | .followAgain n => followAgain n b
    | _ => (b, refuse .malformed))) s)

/-- CUE_REPORT (R136). -/
def execCueReport (s : State) : Host.Outcome State Fault Refusal :=
  .next (serve 24 (onFields (fun f b => match f with
    | .cueReport => (b, okWith (.cue b.cueView))
    | _ => (b, refuse .malformed))) s)

end Sys2Proof.Machine
end

