-- ==== Sys2Proof/Machine/Operands.lean ====
section
/-! DEFINITION. The operands of Book and Amend: the fields of a booking body in their ranges and in the normal form of R3, and
the laying of carried fields over a booking's current ones (R2, R3, R16, section 11.6). -/

namespace Sys2Proof.Machine

/-- The tier of a code 0..4 (R2). -/
def tierOf (x : Byte) : Option Tier :=
  match x.toNat with
  | 0 => some .base
  | 1 => some .showing
  | 2 => some .civic
  | 3 => some .urgent
  | 4 => some .solemn
  | _ => none

/-- The weekdays of a byte: bit 0 Monday to bit 6 Sunday; bit 7 is outside the range of a weekday set (assumption log 9). -/
def weekdaysOf (x : Byte) : Option (List Nat) :=
  if x.getLsbD 7 then none else some ((List.range 7).filter (fun i => x.getLsbD i))

/-- A pattern in the normal form of R3. -/
def patternOf (x : BookingBody) : Option Pattern :=
  match x.kind.toNat with
  | 0 => some ⟨.once, x.first.toNat, x.first.toNat, []⟩
  | 1 => if x.last.toNat < x.first.toNat then none else some ⟨.daily, x.first.toNat, x.last.toNat, []⟩
  | 2 =>
    match weekdaysOf x.weekdays with
    | some (w :: ws) => if x.last.toNat < x.first.toNat then none else some ⟨.weekly, x.first.toNat, x.last.toNat, w :: ws⟩
    | _ => none
  | _ => none

/-- The skip days that a body's count takes in, as a set in rising order (R3). -/
def skipOf (x : BookingBody) : List Nat :=
  ascending (([x.skip1, x.skip2, x.skip3, x.skip4].take x.skipCount.toNat).map (fun d => d.toNat))

/-- An anchor of a kind 0 Clock, 1 Sunset or 2 Sunrise (R2). -/
def anchorOf (kind : Nat) (value : BitVec 32) : Option Anchor :=
  let offsetFits := decide (-720 ≤ value.toInt) && decide (value.toInt ≤ 720)
  match kind with
  | 0 => if (value.toNat : Int) < Config.dayMs then some (.clock value.toNat) else none
  | 1 => if offsetFits then some (.sunset value.toInt) else none
  | 2 => if offsetFits then some (.sunrise value.toInt) else none
  | _ => none

/-- An End field of a kind 0 duration, 1 Clock, 2 Sunset or 3 Sunrise (R2). -/
def endOf (kind : Nat) (value : BitVec 32) : Option EndField :=
  match kind with
  | 0 => if 1 ≤ value.toNat ∧ value.toNat ≤ 64800 then some (.duration value.toNat) else none
  | k + 1 => (anchorOf k value).map .anchored

/-- A program number 0..63 (R2). -/
def programOf (x : Byte) : Option Nat := if x.toNat < Config.programSlots then some x.toNat else none

/-- A non-empty zone set, in rising order (R2). -/
def zonesIn (x : BitVec 96) : Option (List Nat) :=
  match allZones.filter (fun z => x.getLsbD z) with
  | [] => none
  | l => some l

/-- A ceiling 0..1,000 (R2). -/
def ceilingOf (x : BitVec 16) : Option Nat := if x.toNat ≤ 1000 then some x.toNat else none

/-- A yes or no, 0 or 1 (section 11.6) (assumption log 51). -/
def flagOf (x : Byte) : Option Bool :=
  match x.toNat with
  | 0 => some false
  | 1 => some true
  | _ => none

/-- An optional value: read when its flag says present, and then no more than a limit (section 11.6). -/
def optionalOf (flag : Byte) (value limit : Nat) : Option (Option Nat) :=
  match flagOf flag with
  | some false => some none
  | some true => if value ≤ limit then some (some value) else none
  | none => none

/-- A field that a carried mask's bit lets be read, or the current one (section 11.6). -/
def carried {α : Type} (mask : BitVec 16) (bit : Nat) (value : Option α) (current : α) : Option α :=
  if mask.getLsbD bit then value else some current

/-- Exempt yes is allowed only on Civic and Urgent (R2). -/
def exemptSuits (f : BookingFields) : Bool := !f.exempt || decide (f.tier = .civic) || decide (f.tier = .urgent)

/-- The fields of a body laid over a booking's current fields, by the mask of section 11.6; none when a carried field lies
outside its range, or the whole breaks R2 or R3 (R13 check 2, R16 check 5) (assumption log 25). -/
def layFields (mask : BitVec 16) (x : BookingBody) (f : BookingFields) : Option BookingFields := do
  let tier ← carried mask 0 (tierOf x.tier) f.tier
  let pattern ← carried mask 1 (patternOf x) f.pattern
  let skip ← carried mask 2 (some (skipOf x)) f.skip
  let start ← carried mask 3 (anchorOf x.startKind.toNat x.startValue) f.start
  let finish ← carried mask 4 (endOf x.endKind.toNat x.endValue) f.finish
  let program ← carried mask 5 (programOf x.program) f.program
  let zones ← carried mask 6 (zonesIn x.zones) f.zones
  let ceiling ← carried mask 7 (ceilingOf x.ceiling) f.ceiling
  let exempt ← carried mask 8 (flagOf x.exempt) f.exempt
  let follow ← carried mask 9 (optionalOf x.followFlag x.follow.toNat 86399999) f.follow
  let handover ← carried mask 10 (optionalOf x.handoverFlag x.handover.toNat 5000) f.handover
  let g : BookingFields := ⟨tier, pattern, skip, start, finish, program, zones, ceiling, exempt, follow, handover⟩
  if exemptSuits g then some g else none

/-- The mask of a Book, which carries every field. -/
def wholeMask : BitVec 16 := 0x7FF#16

/-- The fields that a Book's whole mask leaves nothing of. -/
def noFields : BookingFields :=
  { tier := .base, pattern := ⟨.once, 0, 0, []⟩, skip := [], start := .clock 0, finish := .duration 1, program := 0, zones := [],
    ceiling := 0, exempt := false, follow := none, handover := none }

/-- The fields of a Book's body (R2, R3). -/
def bookFields (x : BookingBody) : Option BookingFields := layFields wholeMask x noFields

/-- An Amend's body: its carried mask, and the booking body behind it (section 11.6). -/
def decodeAmend (l : List Byte) : Option (BitVec 16 × BookingBody) := do
  let (mask, rest) ← read16 l
  let x ← decodeBookingBody rest
  some (mask, x)

end Sys2Proof.Machine
end

