-- ==== Sys2Proof/Machine/Programs.lean ====
section
/-! DEFINITION. The Program Store: loading (R71 to R80) and the look of a zone (R81 to R90). -/

namespace Sys2Proof.Machine

/-! ## Loading -/

/-- Whether each of four levels lies in 0..limit. -/
def levelsWithin (limit : Nat) (l : Levels) : Bool :=
  decide (l.r ≤ limit) && decide (l.g ≤ limit) && decide (l.b ≤ limit) && decide (l.w ≤ limit)

/-- Whether a step's parameters lie in their ranges (R73). -/
def effectInRange : Effect → Bool
  | .static fade => decide (fade ≤ 60000)
  | .pulse on off => decide (20 ≤ on) && decide (on ≤ 10000) && decide (off ≤ 10000)
  | .chase period width speed _ =>
    decide (2 ≤ period) && decide (period ≤ 256) && decide (1 ≤ width) && decide (width < period) && decide (1 ≤ speed) &&
      decide (speed ≤ 100)
  | .sparkle density => decide (1 ≤ density) && decide (density ≤ 100)
  | .sweep cycle => decide (500 ≤ cycle) && decide (cycle ≤ 60000)

/-- A step as it is stored, when every field of it lies in its range (R73) and its offset neither exceeds the length nor lies
below the offset before it (R76). -/
def stepOf (length previous : Nat) (x : StepBody) : Option Step :=
  match x.effect with
  | .unknown => none
  | .known e =>
    if effectInRange e && levelsWithin 1000 x.colour && decide (x.low ≤ x.high) && decide (x.high ≤ 255) &&
        decide (x.offset ≤ length) && decide (previous ≤ x.offset) then
      some ⟨x.offset, x.low, x.high, e, x.colour⟩
    else none

/-- The steps of a request as they are stored, or the position in the list of the first at fault (R76). -/
def stepsOf (length : Nat) : (previous position : Nat) → List StepBody → Nat ⊕ List Step
  | _, _, [] => .inr []
  | previous, position, x :: xs =>
    match stepOf length previous x with
    | none => .inl position
    | some y =>
      match stepsOf length y.offset (position + 1) xs with
      | .inl p => .inl p
      | .inr ys => .inr (y :: ys)

/-- The offset of the last step appended, 0 when there is none (R76). -/
def lastOffset (p : ProgramData) : Nat := (p.steps.getLast?.map (fun y => y.offset)).getD 0

/-- A program slot takes new contents. -/
def Blocks.setProgram (b : Blocks) (p : Nat) (x : ProgramSlot) : Blocks := { b with programs := b.programs.set p x }

/-- Whether a slot is Loading. -/
def ProgramSlot.isLoading : ProgramSlot → Bool
  | .loading _ => true
  | _ => false

/-- Whether a slot is Ready (R13, R16). -/
def ProgramSlot.isReady : ProgramSlot → Bool
  | .ready _ => true
  | _ => false

/-- Whether a load is open (R74). -/
def Blocks.loadOpen (b : Blocks) : Bool := b.programs.any ProgramSlot.isLoading

/-- Program Open (R75). -/
def programOpen (n steps length : Nat) (endAction : Code EndAction) (fallback : Levels) (b : Blocks) : Blocks × Answer :=
  let refused := fun st => (b, refuseWith st (.freeCount b.freeCount))
  match endAction with
  | .unknown => refused .outOfRange
  | .known ea =>
    if !(decide (n < Config.programSlots) && decide (1 ≤ steps) && decide (steps ≤ 512) && decide (1000 ≤ length) &&
        decide (length ≤ 21600000) && levelsWithin 1000 fallback) then refused .outOfRange
    else if b.loadOpen then refused .busy
    else if b.program n ≠ .empty then refused .wrongState
    else if b.freeCount < steps then refused .poolFull
    else
      let b1 := b.setProgram n (.loading ⟨length, ea, fallback, steps, []⟩)
      (b1, okWith (.freeCount b1.freeCount))

/-- Program Steps (R76). The number of steps is tested before the steps themselves, and its refusal names no position
(assumption log 48). -/
def programSteps (n : Nat) (steps : List StepBody) (b : Blocks) : Blocks × Answer :=
  let counts := match b.program n with
    | .loading p => some (p.steps.length, p.declared)
    | .ready p => some (p.steps.length, p.declared)
    | .empty => none
  let refused := fun st at_ => (b, refuseWith st (.appended counts at_))
  if 16 < steps.length then refused .malformed none
  else if Config.programSlots ≤ n then refused .outOfRange none
  else
    match b.program n with
    | .loading p =>
      if p.declared < p.steps.length + steps.length then refused .outOfRange none
      else
        match stepsOf p.length (lastOffset p) 1 steps with
        | .inl at_ => refused .outOfRange (some at_)
        | .inr ys =>
          (b.setProgram n (.loading { p with steps := p.steps ++ ys }),
            okWith (.appended (some (p.steps.length + ys.length, p.declared)) none))
    | _ => refused .wrongState none

/-- Program Close (R77). -/
def programClose (n : Nat) (b : Blocks) : Blocks × Answer :=
  if Config.programSlots ≤ n then (b, refuseWith .outOfRange (.closed none b.freeCount))
  else
    match b.program n with
    | .loading p =>
      if p.steps.length = p.declared then
        let b1 := b.setProgram n (.ready p)
        (b1, okWith (.closed none b1.freeCount))
      else
        let b1 := b.setProgram n .empty
        (b1, refuseWith .outOfRange (.closed (some (p.steps.length, p.declared)) b1.freeCount))
    | _ => (b, refuseWith .wrongState (.closed none b.freeCount))

/-- Program Remove (R78). -/
def programRemove (n : Nat) (b : Blocks) : Blocks × Answer :=
  if Config.programSlots ≤ n then (b, refuseWith .outOfRange (.freeCount b.freeCount))
  else
    match b.program n with
    | .empty => (b, refuseWith .noSuchRecord (.freeCount b.freeCount))
    | .loading _ =>
      let b1 := b.setProgram n .empty
      (b1, okWith (.freeCount b1.freeCount))
    | .ready _ =>
      if 0 < b.references n then (b, refuseWith .inUse (.references (b.references n) b.freeCount))
      else
        let b1 := b.setProgram n .empty
        (b1, okWith (.freeCount b1.freeCount))

/-- Program Report (R79). -/
def programReport (n : Nat) (b : Blocks) : Blocks × Answer :=
  if Config.programSlots ≤ n then (b, refuse .outOfRange) else (b, okWith (.program (b.programView n)))

/-- The open load, if there is one, is discarded (R71, R80). -/
def discardLoad (b : Blocks) : Blocks :=
  { b with programs := b.programs.map (fun x => if x.isLoading then .empty else x) }

/-! ## The look of a zone (R82 to R90) -/

/-- A look (section 4.4): four levels and an effect token. -/
structure Look where
  levels : Levels
  token : Token
deriving DecidableEq, Repr

/-- The dark look. -/
def darkLook : Look := ⟨dark, .plain⟩

/-- The effective position (R82). -/
def effectivePosition (p : ProgramData) (position : Int) : Nat :=
  match p.endAction with
  | .hold => if position < 0 then 0 else if (p.length : Int) < position then p.length else position.toNat
  | .loop => if position < 0 then 0 else (position % (p.length : Int)).toNat

/-- The steps of a program that apply to a role, in program order (R73). -/
def ProgramData.applicable (p : ProgramData) (role : Nat) : List Step :=
  p.steps.filter (fun x => decide (x.low ≤ role) && decide (role ≤ x.high))

/-- The applicable steps reached at an effective position, in program order; the last of them is the current step (R84). -/
def ProgramData.reached (p : ProgramData) (role q : Nat) : List Step :=
  (p.applicable role).filter (fun x => decide (x.offset ≤ q))

/-- The kind of an effect. -/
def effectKind : Effect → StepKind
  | .static _ => .static
  | .pulse _ _ => .pulse
  | .chase _ _ _ _ => .chase
  | .sparkle _ => .sparkle
  | .sweep _ => .sweep

/-- The from-colour of a Static step (R85): the applicable step's before it; with none before it, dark under Hold, and under
Loop the last applicable step's. -/
def fromColour (p : ProgramData) (role q : Nat) : Levels :=
  match (p.reached role q).dropLast.getLast? with
  | some y => y.colour
  | none =>
    match p.endAction with
    | .hold => dark
    | .loop => ((p.applicable role).getLast?.map (fun y => y.colour)).getD dark

/-- One level of a fade from a to c, t of F ms gone, truncated toward zero (R85, R99). -/
def mixLevel (t f a c : Nat) : Nat :=
  if t < f then ((a : Int) + Int.tdiv (((c : Int) - a) * t) f).toNat else c

/-- A fade of four levels. -/
def mixLevels (t f : Nat) (a c : Levels) : Levels :=
  ⟨mixLevel t f a.r c.r, mixLevel t f a.g c.g, mixLevel t f a.b c.b, mixLevel t f a.w c.w⟩

/-- Whether a chase lights a role, t ms after its step's offset (R87). -/
def chaseLights (period width speed : Nat) (dir : Direction) (t role : Nat) : Bool :=
  let h : Int := ((t * speed / 1000 % period : Nat) : Int)
  match dir with
  | .up => decide (((role : Int) - h) % (period : Int) < width)
  | .down => decide ((h - (role : Int)) % (period : Int) < width)

/-- The rendering of the current step by its kind (R85 to R88), t ms after its offset. -/
def renderStep (y : Step) (from_ : Levels) (t role : Nat) : Look :=
  match y.effect with
  | .static fade => ⟨mixLevels t fade from_ y.colour, .plain⟩
  | .pulse on off => if t % (on + off) < on then ⟨y.colour, .plain⟩ else darkLook
  | .chase period width speed dir => if chaseLights period width speed dir t role then ⟨y.colour, .plain⟩ else darkLook
  | .sparkle density => ⟨y.colour, .sparkle density⟩
  | .sweep cycle => ⟨y.colour, .sweep cycle⟩

/-- Whether a kind is available to a zone (R89). -/
def available (permitted local_ : List StepKind) : StepKind → Bool
  | .static => true
  | .pulse => decide (.pulse ∈ permitted)
  | .chase => decide (.chase ∈ permitted)
  | .sparkle => decide (.sparkle ∈ local_)
  | .sweep => decide (.sweep ∈ local_)

/-- The look of a program at a position for a role (R82 to R90). `barred` is the set of kinds that the curfew bars for the
holder now: empty while the window is closed or the holder exempt. -/
def lookOf (p : ProgramData) (position : Int) (role : Nat) (permitted local_ barred : List StepKind) : Look :=
  let q := effectivePosition p position
  match (p.reached role q).getLast? with
  | none => darkLook
  | some y =>
    if !available permitted local_ (effectKind y.effect) || decide ((effectKind y.effect) ∈ barred) then ⟨p.fallback, .plain⟩
    else renderStep y (fromColour p role q) (q - y.offset) role

/-! ## The requests -/

/-- PROGRAM_OPEN (R75). -/
def execProgramOpen (s : State) : Host.Outcome State Fault Refusal :=
  .next (serve 7 (onFields (fun f b => match f with
    | .programOpen n steps length ea fallback => programOpen n steps length ea fallback b
    | _ => (b, refuse .malformed))) s)

/-- PROGRAM_STEPS (R76). -/
def execProgramSteps (s : State) : Host.Outcome State Fault Refusal :=
  .next (serve 8 (onFields (fun f b => match f with
    | .programSteps n steps => programSteps n steps b
    | _ => (b, refuse .malformed))) s)

/-- PROGRAM_CLOSE (R77). -/
def execProgramClose (s : State) : Host.Outcome State Fault Refusal :=
  .next (serve 9 (onFields (fun f b => match f with
    | .programClose n => programClose n b
    | _ => (b, refuse .malformed))) s)

/-- PROGRAM_REMOVE (R78). -/
def execProgramRemove (s : State) : Host.Outcome State Fault Refusal :=
  .next (serve 10 (onFields (fun f b => match f with
    | .programRemove n => programRemove n b
    | _ => (b, refuse .malformed))) s)

/-- PROGRAM_REPORT (R79). -/
def execProgramReport (s : State) : Host.Outcome State Fault Refusal :=
  .next (serve 11 (onFields (fun f b => match f with
    | .programReport n => programReport n b
    | _ => (b, refuse .malformed))) s)

end Sys2Proof.Machine
end

