-- ==== Sys2Proof/Machine/Bookings.lean ====
section
/-! DEFINITION. The Booking Table's requests: Book, Amend, Withdraw, Look Up, List Upcoming and Forecast (R13 to R25). -/

namespace Sys2Proof.Machine

/-! ## Warnings and the reply (R14, R15) -/

/-- An occurrence as the Shadowed test sees it, of the Active Table or of the Upcoming List (R15). -/
structure Placed where
  number : Nat
  tier : Tier
  start : Instant
  finish : Instant
deriving DecidableEq, Repr

/-- An active occurrence as the Shadowed test sees it. -/
def placedActive (o : Occurrence) : Placed := ⟨o.number, o.tier, o.start, o.finish⟩

/-- An Upcoming entry as the Shadowed test sees it. -/
def placedUpcoming (e : UpcomingEntry) : Placed := ⟨e.number, e.tier, e.start, e.finish⟩

/-- The occurrences that would be running at a test instant (R15) (assumption log 35). -/
def Blocks.runningAt (b : Blocks) (t : Instant) : List Placed :=
  (b.active.map placedActive ++ b.upcoming.map placedUpcoming).filter (fun p => decide (p.start ≤ t) && decide (t < p.finish))

/-- Whether the occurrences of strictly higher tier running at a test instant claim every zone of a set (R15). -/
def Blocks.shadowedAt (b : Blocks) (t : Instant) (tier : Tier) (zones : List Nat) : Bool :=
  zones.all (fun z => (b.runningAt t).any (fun p => decide (tier.rank < p.tier.rank) && decide (z ∈ b.zonesOf p.number)))

/-- Whether a booking's placed occurrence is shadowed (R15). -/
def Blocks.shadowed (b : Blocks) (k : Booking) : Bool :=
  match k.state, b.upcoming? k.number, b.active? k.number with
  | .scheduled, some e, _ => b.shadowedAt e.start e.tier k.fields.zones
  | .running, _, some o => b.shadowedAt (b.time.now.getD o.start) o.tier k.fields.zones
  | _, _, _ => false

/-- Whether a booking's placed occurrence rests on an estimated time (R15). `before` is the occurrence that ran when the request
was taken; `amended` says that an amended end rests on one (assumption log 32). -/
def Blocks.estimatedNow (b : Blocks) (k : Booking) (before : Option Nat) (amended : Bool) : Bool :=
  match k.state, b.upcoming? k.number, b.active? k.number with
  | .scheduled, some e, _ => e.estimated
  | .running, _, some o => if before = some o.id then amended else k.marks.any
  | _, _, _ => false

/-- The warnings of an accepted Book or Amend (R15, R19). -/
def Blocks.warnings (b : Blocks) (k : Booking) (before : Option Nat) (amended endStalled : Bool) : Warnings :=
  { shadowed := b.shadowed k
    noOccurrence := decide (k.state = .retiring)
    estimated := b.estimatedNow k before amended
    stalled := decide (k.state = .stalled) || (endStalled && decide (k.state = .running)) }

/-- The reply to an accepted Book or Amend of a booking, or of one given up while it was placed (R14, R17, R18)
(assumption log 29). -/
def bookingReply (n : Nat) (before : Option Nat) (amended endStalled : Bool) (b : Blocks) : Answer :=
  match (b.booking? n) <|> b.lastFreed with
  | some k =>
    { status := .ok, warnings := b.warnings k before amended endStalled,
      body := .placed k.state k.lastOutcome (b.upcoming? n) }
  | none => okWith .empty

/-! ## Book (R13, R14) -/

/-- The closed entries of the Notice List (R181). -/
def Blocks.closedCount (b : Blocks) : Nat := (b.notices.filter (fun e => e.closed.isSome)).length

/-- The earliest closed entry leaves a list. -/
def dropClosed : List NoticeEntry → List NoticeEntry
  | [] => []
  | e :: es => if e.closed.isSome then es else e :: dropClosed es

/-- Book takes a free slot without a closed entry, or the slot whose closed entry joined earliest, which then leaves the Notice
List (R181) (assumption log 22). -/
def takeSlot (b : Blocks) : Blocks :=
  if Config.bookingSlots ≤ b.bookings.length + b.closedCount then { b with notices := dropClosed b.notices } else b

/-- A booking joins the table, which is kept in rising number. -/
def insertBooking (k : Booking) : List Booking → List Booking
  | [] => [k]
  | x :: xs => if k.number < x.number then k :: x :: xs else x :: insertBooking k xs

/-- Whether a zone set contains a protected zone (R2). -/
def Blocks.namesProtected (b : Blocks) (zones : List Nat) : Bool :=
  zones.any (fun z => (b.zone? z).any (fun c => c.isProtected))

/-- A new booking's slot is filled (R4, R14). -/
def addBooking (n : Nat) (f : BookingFields) (b : Blocks) : Blocks :=
  let b1 := takeSlot b
  { b1 with
    bookings := insertBooking ⟨n, f, .held, none, .noOutcome, 0, b1.nextId, ⟨false, false⟩⟩ b1.bookings
    nextId := b1.nextId + 1
    lastFreed := none }

/-- The checks 3 to 6 of R13 on a booking's number and fields. -/
def Blocks.bookRefusal (b : Blocks) (n : Nat) (f : BookingFields) : Option Status :=
  if b.namesProtected f.zones then some .isProtected
  else if !(b.program f.program).isReady then some .noProgram
  else if (b.booking? n).isSome then some .duplicate
  else if Config.bookingSlots ≤ b.bookings.length then some .tableFull
  else none

/-- Book (R13, R14). -/
def book (body : List Byte) (b : Blocks) : Blocks × Answer :=
  match decodeBookingBody body with
  | none => (b, refuse .malformed)
  | some x =>
    if 4 < x.skipCount.toNat then (b, refuse .malformed)
    else if !bookingNumber x.number.toNat then (b, refuse .outOfRange)
    else
      match bookFields x with
      | none => (b, refuse .outOfRange)
      | some f =>
        match b.bookRefusal x.number.toNat f with
        | some st => (b, refuse st)
        | none =>
          let b1 := place x.number.toNat (addBooking x.number.toNat f b)
          (b1, bookingReply x.number.toNat none false false b1)

/-! ## Amend (R16 to R19, R104) -/

/-- The checks 6 to 8 of R16. -/
def Blocks.amendRefusal (b : Blocks) (mask : BitVec 16) (k : Booking) (f : BookingFields) : Option Status :=
  if b.namesProtected f.zones then some .isProtected
  else if mask.getLsbD 5 && !(b.program f.program).isReady then some .noProgram
  else if decide (k.state = .running) && decide (f.program ≠ k.fields.program) then some .inUse
  else none

/-- A booking's host fields are replaced. -/
def storeFields (n : Nat) (f : BookingFields) (b : Blocks) : Blocks := b.updateBooking n (fun k => { k with fields := f })

/-- A carried tier or zone set acts on the active occurrence (R18). -/
def amendHolding (mask : BitVec 16) (n : Nat) (old f : BookingFields) (b : Blocks) : Blocks :=
  if mask.getLsbD 0 || mask.getLsbD 6 then
    resolve (old.zones ++ f.zones) none (b.updateActive n (fun o => { o with tier := f.tier }))
  else b

/-- Exempt amended from yes to no while the window is open lowers every zone that the occurrence holds (R104). -/
def amendExempt (n : Nat) (old f : BookingFields) (b : Blocks) : Blocks :=
  if old.exempt && !f.exempt && b.chain.windowOpen then
    forEach (allZones.filter (fun z => (b.holder? z).any (fun h => h.number == n))) (lowerZone b.curfewCeiling) b
  else b

/-- The follow status and position that a carried Follow field gives the active occurrence (R19, R131, R132). -/
def followAmended (cue : CueReceiver) (old new : Option Nat) (o : Occurrence) : Occurrence :=
  match old, new with
  | none, none => o
  | none, some off =>
    if cue.state = .locked then { o with follow := .following, position := cue.positionFor off } else { o with follow := .awaiting }
  | some _, none => { o with follow := .unfollowed }
  | some _, some off => if o.follow = .following then { o with position := cue.positionFor off } else o

/-- A Running booking's occurrence takes an amended end, and the mark whether that end rests on an estimated time (R19, R28). -/
def moveEnd (n : Nat) (e : Instant) (est : Bool) (b : Blocks) : Blocks :=
  (b.updateActive n (fun x => { x with finish := e })).updateBooking n (fun k => { k with marks := { k.marks with finish := est } })

/-- A carried Follow field acts on the active occurrence (R19). -/
def amendFollow (mask : BitVec 16) (n : Nat) (old f : BookingFields) (b : Blocks) : Blocks :=
  if mask.getLsbD 9 then b.updateActive n (followAmended b.cue old.follow f.follow) else b

/-- What a carried End field makes of the active occurrence's end (R19). -/
inductive AmendedEnd where
  | unchanged
  | stalled
  | moved (finish : Instant) (estimated : Bool)
  | cutShort
deriving DecidableEq, Repr

/-- The active occurrence's end under a carried End field (R19) (assumption log 37). -/
def Blocks.amendedEnd (b : Blocks) (mask : BitVec 16) (o : Occurrence) (f : BookingFields) : AmendedEnd :=
  if mask.getLsbD 4 then
    match endInstant b.almanac o.day o.start f.finish with
    | .noTime => .stalled
    | .noValidEnd => .cutShort
    | .ends e est => if b.time.now.getD o.start < e then .moved e est else .cutShort
  else .unchanged

/-- An Amend of a Running booking (R18, R19): the fields and their effects on the active occurrence, the End last
(assumption log 36). -/
def amendRunning (mask : BitVec 16) (k : Booking) (f : BookingFields) (o : Occurrence) (b : Blocks) : Blocks × Answer :=
  let n := k.number
  let b1 := amendHolding mask n k.fields f (storeFields n f b)
  let b2 := amendFollow mask n k.fields f (amendExempt n k.fields f b1)
  match b2.amendedEnd mask o f with
  | .unchanged => (b2, bookingReply n (some o.id) false false b2)
  | .stalled => (b2, bookingReply n (some o.id) false true b2)
  | .moved e est =>
    let b3 := moveEnd n e est b2
    (b3, bookingReply n (some o.id) est false b3)
  | .cutShort =>
    let b3 := place n (leave o .cutShort b2.time.now b2)
    (b3, bookingReply n (some o.id) false false b3)

/-- An Amend of a booking that is not Running (R17). -/
def amendWaiting (n : Nat) (f : BookingFields) (b : Blocks) : Blocks × Answer :=
  let b1 := storeFields n f b
  let b2 := place n (removeEntry n { b1 with lastFreed := none })
  (b2, bookingReply n none false false b2)

/-- An Amend whose body has been read (R16). -/
def amendWith (mask : BitVec 16) (x : BookingBody) (b : Blocks) : Blocks × Answer :=
  let n := x.number.toNat
  if mask.getLsbD 2 && decide (4 < x.skipCount.toNat) then (b, refuse .malformed)
  else if !bookingNumber n then (b, refuse .outOfRange)
  else
    match b.booking? n with
    | none => (b, refuse .noSuchRecord)
    | some k =>
      if k.state = .retiring then (b, refuse .wrongState)
      else
        match layFields mask x k.fields with
        | none => (b, refuse .outOfRange)
        | some f =>
          match b.amendRefusal mask k f, b.active? n with
          | some st, _ => (b, refuse st)
          | none, some o => amendRunning mask k f o { b with lastFreed := none }
          | none, none => amendWaiting n f b

/-- Amend (R16). -/
def amend (body : List Byte) (b : Blocks) : Blocks × Answer :=
  match decodeAmend body with
  | none => (b, refuse .malformed)
  | some (mask, x) => amendWith mask x b

/-! ## Withdraw and Look Up (R21, R22) -/

/-- A withdrawn booking's active occurrence ends Cut Short, with no Ended report (R21, R42). -/
def withdrawActive (n : Nat) (b : Blocks) : Blocks :=
  match b.active? n with
  | none => b
  | some o => recordOutcome n .cutShort (resolve (b.zonesOf n) none (dropRecord o b))

/-- A booking's open entry leaves the Notice List with its whole change set (R21). -/
def dropEntry (n : Nat) (b : Blocks) : Blocks := { b with notices := b.notices.filter (fun e => !e.opens (.booking n)) }

/-- Withdraw (R21). -/
def withdraw (n : Nat) (b : Blocks) : Blocks × Answer :=
  if !bookingNumber n then (b, refuse .outOfRange)
  else
    match b.booking? n with
    | none => (b, refuse .noSuchRecord)
    | some k =>
      let b1 := removeEntry n (withdrawActive n b)
      let last := (b1.booking? n).getD k
      (freeSlot n (dropEntry n b1), okWith (.withdrawn last.lastOutcome last.runCount))

/-- Look Up (R22). -/
def lookUp (n : Nat) (b : Blocks) : Blocks × Answer :=
  if !bookingNumber n then (b, refuse .outOfRange)
  else
    match b.booking? n with
    | none => (b, refuse .noSuchRecord)
    | some k => (b, okWith (.booking (b.bookingView k)))

/-! ## List Upcoming (R23) -/

/-- The notional entry that places a cursor: the tier of the booking named, or Solemn (R23). -/
def Blocks.cursorEntry (b : Blocks) (start n : Nat) : UpcomingEntry :=
  ⟨n, ((b.booking? n).map (fun k => k.fields.tier)).getD .solemn, 0, start, start, false, false⟩

/-- List Upcoming (R23). -/
def listUpcoming (start n : Nat) (b : Blocks) : Blocks × Answer :=
  let l := b.upcoming.filter (upcomingBefore (b.cursorEntry start n))
  (b, okWith (.upcoming (l.take 8) (decide (8 < l.length))))

/-! ## Forecast (R24, R25) -/

/-- Whether a day counts for a Forecast: within first..last, not a skip day, and on a weekday of the set (R24). -/
def countsOn (base : Nat) (f : BookingFields) (d : Nat) : Bool :=
  decide (f.pattern.first ≤ d) && decide (d ≤ f.pattern.last) && runsOn base f d

/-- The window that a booking's pattern day gives a Forecast: the active occurrence's instants on its own pattern day, the
computed window on any other (R24). Those instants are estimated where the times that gave them were (R28; assumption log 8). -/
def Blocks.forecastDay (b : Blocks) (k : Booking) (d : Nat) : Option Contender :=
  if countsOn b.time.base k.fields d then
    match (b.active? k.number).filter (fun o => o.day == d) with
    | some o => some ⟨k.number, k.fields.tier, d, o.start, o.finish, k.marks.any⟩
    | none =>
      match windowOf b.almanac k.fields none d with
      | .window w => some ⟨k.number, k.fields.tier, d, w.start, w.finish, w.estimated⟩
      | _ => none
  else none

/-- Whether a window covers an instant (R24). -/
def Contender.covers (c : Contender) (t : Instant) : Bool := decide (c.start ≤ t) && decide (t < c.finish)

/-- The days of which a Forecast computes windows, the earlier first (R24). -/
def forecastDays (d : Nat) : List Nat := if d = 0 then [0] else [d - 1, d]

/-- A booking as a contender for a zone at an instant, with the window of the earlier day that covers it (R24). -/
def Blocks.contender (b : Blocks) (t z : Nat) (k : Booking) : Option Contender :=
  if z ∈ k.fields.zones then
    (forecastDays (t / 86400000)).findSome? (fun d => (b.forecastDay k d).filter (fun c => c.covers t))
  else none

/-- The ranking of contenders: higher tier, then later window start, then lower number (R25). -/
def ranksBefore (x y : Contender) : Bool :=
  decide (y.tier.rank < x.tier.rank) ||
    (decide (x.tier.rank = y.tier.rank) &&
      (decide (y.start < x.start) || (decide (x.start = y.start) && decide (x.number < y.number))))

/-- Insert a contender at its rank. -/
def insertContender (x : Contender) : List Contender → List Contender
  | [] => [x]
  | y :: ys => if ranksBefore x y then x :: y :: ys else y :: insertContender x ys

/-- The contenders for a zone at an instant, in rank (R25). -/
def Blocks.contenders (b : Blocks) (t z : Nat) : List Contender := (b.bookings.filterMap (b.contender t z)).foldr insertContender []

/-- Whether an instant lies within reach of a Forecast (R25). -/
def Blocks.withinReach (b : Blocks) (t : Nat) : Bool :=
  decide ((t : Int) ≤ Config.lastInstant) &&
    (match b.time.now with
     | some now => decide ((t : Int) - now ≤ Config.forecastMs) && decide (now - t ≤ Config.forecastMs)
     | none => true)

/-- Forecast (R24, R25). -/
def forecast (t z : Nat) (b : Blocks) : Blocks × Answer :=
  if Config.zoneCount ≤ z || !b.withinReach t then (b, refuse .outOfRange)
  else
    let l := b.contenders t z
    (b, okWith (.forecast l.head? (l.tail.take 8) (l.tail.length - 8)))

/-! ## The rows -/

/-- BOOK (R13). -/
def execBook (s : State) : Host.Outcome State Fault Refusal := .next (serve 1 (onBytes book) s)

/-- AMEND (R16). -/
def execAmend (s : State) : Host.Outcome State Fault Refusal := .next (serve 2 (onBytes amend) s)

/-- WITHDRAW (R21). -/
def execWithdraw (s : State) : Host.Outcome State Fault Refusal :=
  .next (serve 3 (onFields (fun f b => match f with
    | .withdraw n => withdraw n b
    | _ => (b, refuse .malformed))) s)

/-- LOOK_UP (R22). -/
def execLookUp (s : State) : Host.Outcome State Fault Refusal :=
  .next (serve 4 (onFields (fun f b => match f with
    | .lookUp n => lookUp n b
    | _ => (b, refuse .malformed))) s)

/-- LIST_UPCOMING (R23). -/
def execListUpcoming (s : State) : Host.Outcome State Fault Refusal :=
  .next (serve 5 (onFields (fun f b => match f with
    | .listUpcoming start n => listUpcoming start n b
    | _ => (b, refuse .malformed))) s)

/-- FORECAST (R24). -/
def execForecast (s : State) : Host.Outcome State Fault Refusal :=
  .next (serve 6 (onFields (fun f b => match f with
    | .forecast t z => forecast t z b
    | _ => (b, refuse .malformed))) s)

end Sys2Proof.Machine
end

