-- ==== Sys2Proof/Machine/Messages.lean ====
section
/-! DEFINITION. The messages on a riser as a node sees them (section 8.8): the check value, what the part sends, and how the
part reads a reply. -/

namespace Sys2Proof.Machine

/-- One bit of the check value's shift: polynomial 1021 hexadecimal, most significant bit first (assumption log 7). -/
def crcShift (c : BitVec 16) : BitVec 16 := if c.msb then (c <<< 1) ^^^ 0x1021#16 else c <<< 1

/-- The check value with one more byte taken in. -/
def crcByte (c : BitVec 16) (x : Byte) : BitVec 16 :=
  crcShift (crcShift (crcShift (crcShift (crcShift (crcShift (crcShift (crcShift (c ^^^ (x.setWidth 16 <<< 8)))))))))

/-- The check value of a message's bytes, from an initial value of all ones (section 8.8). -/
def crc16 (l : List Byte) : BitVec 16 := l.foldl crcByte 0xFFFF#16

/-- A message with its check value at its end. -/
def withCheck (l : List Byte) : List Byte := l ++ beBytes16 (crc16 l)

/-- The rates, in the order that numbers them (section 8.8). -/
def allRates : List Rate := [.r20, .r25, .r40, .r50]

/-- A rate in frames per second. -/
def Rate.perSecond : Rate → Nat
  | .r20 => 20 | .r25 => 25 | .r40 => 40 | .r50 => 50

/-- The frame period of a rate, in µs (R137). -/
def Rate.periodUs : Rate → Nat
  | .r20 => 50000 | .r25 => 40000 | .r40 => 25000 | .r50 => 20000

/-- A rate named in frames per second (R139). -/
def rateOf (n : Nat) : Option Rate := allRates.find? (fun r => r.perSecond == n)

/-! ## What the part sends -/

/-- The four levels of a message, two bytes each. -/
def levelBytes (l : Levels) : List Byte :=
  beBytes16 (BitVec.ofNat 16 l.r) ++ beBytes16 (BitVec.ofNat 16 l.g) ++ beBytes16 (BitVec.ofNat 16 l.b) ++
    beBytes16 (BitVec.ofNat 16 l.w)

/-- The eleven bytes of a slot entry (section 8.8). -/
def slotBytes : SlotEntry → List Byte
  | .noLevels => [3, 0, 0, 0, 0, 0, 0, 0, 0, 0, 0]
  | .levels l .plain => [0, 0, 0] ++ levelBytes l
  | .levels l (.sparkle density) => [1] ++ beBytes16 (BitVec.ofNat 16 density) ++ levelBytes l
  | .levels l (.sweep cycle) => [2] ++ beBytes16 (BitVec.ofNat 16 cycle) ++ levelBytes l

/-- The 270 bytes of a level frame (section 8.8). -/
def frameBytes (f : Frame) : List Byte :=
  withCheck ([1, BitVec.ofNat 8 f.sequence, BitVec.ofNat 8 (allRates.idxOf f.rate), BitVec.ofNat 8 f.target] ++
    f.slots.flatMap slotBytes)

/-- The bytes of a directed message (section 8.8); slot 0 for the all-call Reset and for the node of a round. -/
def directedBytes : Directed → List Byte
  | .resetNode slot => withCheck [2, BitVec.ofNat 8 slot]
  | .noticeRead slot => withCheck [3, BitVec.ofNat 8 slot]
  | .setFallback slot colour => withCheck ([4, BitVec.ofNat 8 slot] ++ levelBytes colour)
  | .rollCall => withCheck [5, 0]
  | .offerRequest => withCheck [6, 0]
  | .assign serial slot => withCheck ([7, 0] ++ beBytes48 (BitVec.ofNat 48 serial) ++ [BitVec.ofNat 8 slot])
  | .standBy serial => withCheck ([8, 0] ++ beBytes48 (BitVec.ofNat 48 serial))

/-! ## How the part reads a reply -/

/-- The bytes of a reply before its check value, if the reply has the given length in all and its check value is right. -/
def checkedBody (len : Nat) (reply : List Byte) : Option (List Byte) :=
  if reply.length = len ∧ reply.drop (len - 2) = beBytes16 (crc16 (reply.take (len - 2))) then some (reply.take (len - 2))
  else none

/-- The flags of a status set's byte (section 8.8). -/
def tallyFlags (x : Byte) : TallyStatus := ⟨x.getLsbD 0, x.getLsbD 1, x.getLsbD 2⟩

/-- A good tally reply's flags (R146): the check value is right and the sequence number is the one just sent. -/
def readTally (sequence : Nat) (reply : List Byte) : Option TallyStatus :=
  match checkedBody 4 reply with
  | some [seq, flags] => if seq.toNat = sequence then some (tallyFlags flags) else none
  | _ => none

/-- A good Notice Read reply's fault code (R149, R150) (assumption log 26). -/
def readNotice (slot : Nat) (reply : List Byte) : Option Nat :=
  match checkedBody 4 reply with
  | some [s, code] => if s.toNat = slot then some code.toNat else none
  | _ => none

/-- Whether a Set Fallback reply is good (R149). -/
def readFallback (slot : Nat) (reply : List Byte) : Bool :=
  match checkedBody 3 reply with
  | some [s] => decide (s.toNat = slot)
  | _ => false

/-- The layout of an offer's code (section 8.8). -/
def layoutOf (x : Byte) : Option Layout :=
  if x = 0 then some .rgbw else if x = 1 then some .rgb else if x = 2 then some .mono else none

/-- The class of an offer's code (section 8.8). -/
def classOf (x : Byte) : Option NodeClass := if x = 0 then some .facade else if x = 1 then some .beacon else none

/-- The local effects of an offer's byte: bit 0 Sparkle, bit 1 Sweep. -/
def effectsOf (x : Byte) : List StepKind :=
  (if x.getLsbD 0 then [.sparkle] else []) ++ (if x.getLsbD 1 then [.sweep] else [])

/-- The rates of an offer's byte: bits 0 to 3 for 20, 25, 40 and 50. -/
def ratesOf (x : Byte) : List Rate := allRates.filter (fun r => x.getLsbD (allRates.idxOf r))

/-- A good offer (R159): the check value is right, the serial equals the winning serial, the layout and class codes are among
those of section 8.8, and the unused bits are 0. -/
def readOffer (winner : Nat) (reply : List Byte) : Option Offer :=
  match checkedBody 12 reply with
  | some [layout, effects, rates, class_, s5, s4, s3, s2, s1, s0] =>
    match layoutOf layout, classOf class_ with
    | some l, some c =>
      if effects.toNat < 4 ∧ rates.toNat < 16 ∧ (beWord48 s5 s4 s3 s2 s1 s0).toNat = winner then
        some ⟨l, effectsOf effects, ratesOf rates, c, winner⟩
      else none
    | _, _ => none
  | _ => none

end Sys2Proof.Machine
end

