-- ==== Sys2Proof/Machine/Nodes.lean ====
section
/-! DEFINITION. The Zone Directory: node states, zones by riser and slot, the directed queue's places (R144, R148, R154,
R157), and the requests that name a zone (R155, R156, R163, R164). -/

namespace Sys2Proof.Machine

/-- The zones configured on a riser, in rising zone number. -/
def Blocks.zonesOn (b : Blocks) (r : Nat) : List Nat :=
  allZones.filter (fun z => match b.zone? z with | some c => decide (c.riser = r) | none => false)

/-- The zone configured on a riser at a slot (R142): the pair is unique (R154) (assumption log 27). -/
def Blocks.zoneAt (b : Blocks) (r slot : Nat) : Option Nat :=
  (b.zonesOn r).find? (fun z => match b.zone? z with | some c => decide (c.slot = slot) | none => false)

/-- The node state of a zone; a zone that is not configured is Vacant (R154). -/
def Blocks.nodeState (b : Blocks) (z : Nat) : NodeState := ((b.zone? z).map (fun c => c.node)).getD .vacant

/-- A zone's node state takes a value: a change reports NodeState and is told to Feeder Control (R157). -/
def setNode (z : Nat) (st : NodeState) (b : Blocks) : Blocks :=
  if b.nodeState z = st then b
  else tellZoneFeeder z ((b.updateZone z (fun c => { c with node := st })).report (.zone z) .nodeState)

/-- A status set with every flag clear (R154). -/
def clearTally : TallyStatus := ⟨false, false, false⟩

/-- A zone's fault code takes a value; a change reports NodeFault (R150). -/
def setFault (z : Nat) (code : Option Nat) (b : Blocks) : Blocks :=
  match b.zone? z with
  | none => b
  | some c =>
    if c.fault = code then b
    else (b.updateZone z (fun x => { x with fault := code })).report (.zone z) .nodeFault

/-- Whether a directed queue may take an exchange other than the roll call's: it holds fewer than 6 entries (R148). -/
def Riser.queueOpen (r : Riser) : Bool := decide (r.queue.length < Config.queueOpen)

/-- An exchange joins the tail of a riser's directed queue (R148). -/
def joinQueue (r : Nat) (e : Exchange) (b : Blocks) : Blocks := b.updateRiser r (fun x => { x with queue := x.queue ++ [e] })

/-! ## Configure Zone (R155, R156) -/

/-- The set fields of a zone's record as the request forms them (R155): none when a zone that is not configured lacks a riser,
a slot, a face or a feeder. -/
def formZone (x : ZoneBody) : Option Zone → Option Zone
  | some c =>
    some { c with
      riser := x.riser.getD c.riser, slot := x.slot.getD c.slot, face := x.face.getD c.face, feeder := x.feeder.getD c.feeder,
      role := x.role.getD c.role, serial := x.serial.getD c.serial, isProtected := x.isProtected.getD c.isProtected,
      permitted := x.permitted.getD c.permitted, trim := x.trim.getD c.trim, watts := x.watts.getD c.watts,
      fallback := x.fallback.getD c.fallback }
  | none =>
    match x.riser, x.slot, x.face, x.feeder with
    | some r, some s, some f, some e =>
      some
        { riser := r, slot := s, face := f, feeder := e, role := x.role.getD 0, serial := x.serial.getD none,
          isProtected := x.isProtected.getD false, permitted := x.permitted.getD [], trim := x.trim.getD 1000,
          watts := x.watts.getD dark, fallback := x.fallback.getD dark, node := .vacant, profile := none, age := 0,
          tally := clearTally, fault := none, last := dark, handover := none }
    | _, _, _, _ => none

/-- Whether four values each lie in 0..limit. -/
def fourWithin (limit : Nat) (l : Levels) : Bool :=
  decide (l.r ≤ limit) && decide (l.g ≤ limit) && decide (l.b ≤ limit) && decide (l.w ≤ limit)

/-- Whether the carried fields lie in their ranges (R154). -/
def zoneBodyInRange (x : ZoneBody) : Bool :=
  x.riser.all (fun v => decide (v ≤ 3)) && x.slot.all (fun v => decide (1 ≤ v) && decide (v ≤ 24)) &&
    x.face.all (fun v => decide (v ≤ 3)) && x.feeder.all (fun v => decide (v ≤ 3)) && x.role.all (fun v => decide (v ≤ 255)) &&
    x.serial.all (fun v => v.all (fun n => decide (n ≤ 281474976710655))) &&
    x.permitted.all (fun l => !decide (.static ∈ l)) && x.trim.all (fun v => decide (v ≤ 1000)) &&
    x.watts.all (fourWithin 5000) && x.fallback.all (fourWithin 1000)

/-- Whether a Configure Zone carries any field besides Remove. -/
def zoneBodyCarries (x : ZoneBody) : Bool :=
  x.riser.isSome || x.slot.isSome || x.face.isSome || x.feeder.isSome || x.role.isSome || x.serial.isSome ||
    x.isProtected.isSome || x.permitted.isSome || x.trim.isSome || x.watts.isSome || x.fallback.isSome

/-- Whether a request changes the riser, the slot, the expected serial or the protected flag of a configured zone (R155). -/
def changesIdentity (c n : Zone) : Bool :=
  decide (c.riser ≠ n.riser) || decide (c.slot ≠ n.slot) || decide (c.serial ≠ n.serial) || decide (c.isProtected ≠ n.isProtected)

/-- Whether the riser and slot pair, or the expected serial, of a formed record is another configured zone's (R155 check 5). -/
def Blocks.collides (b : Blocks) (z : Nat) (n : Zone) : Bool :=
  allZones.any (fun y => decide (y ≠ z) &&
    (match b.zone? y with
     | some c => (decide (c.riser = n.riser) && decide (c.slot = n.slot)) || (n.serial.isSome && decide (c.serial = n.serial))
     | none => false))

/-- Whether a node state bars a change of a zone's identity: neither Vacant nor Absent (R155 check 3). -/
def NodeState.present : NodeState → Bool
  | .vacant | .absent => false
  | _ => true

/-- The record with the effects set in order, and the joint profile's local effects recomputed (R156). -/
def normaliseEffects (n : Zone) : Zone :=
  let permitted := [StepKind.pulse, .chase, .sparkle, .sweep].filter (fun k => decide (k ∈ n.permitted))
  { n with
    permitted := permitted
    profile := n.profile.map (fun p => { p with local_ := p.offered.filter (fun k => decide (k ∈ permitted)) }) }

/-- The node state that a change of the expected serial gives (R156): Vacant becomes Absent with a serial, and Absent becomes
Vacant without one. -/
def nodeBySerial (n : Zone) : NodeState :=
  match n.node, n.serial with
  | .vacant, some _ => .absent
  | .absent, none => .vacant
  | st, _ => st

/-- Feeder Control is told of the old and the new feeder of a zone (R156). -/
def tellFeeders (old : Option Zone) (n : Zone) (b : Blocks) : Blocks :=
  match old with
  | none => reevaluateFeeder n.feeder b
  | some c => if c.feeder = n.feeder then b else reevaluateFeeder n.feeder (reevaluateFeeder c.feeder b)

/-- A fallback colour is not confirmed: the zone's fault code becomes 255, and NodeFault is reported (R150, R156). -/
def unconfirmedFallback (z : Nat) (b : Blocks) : Blocks :=
  (b.updateZone z (fun x => { x with fault := some 255 })).report (.zone z) .nodeFault

/-- A carried fallback colour on a zone whose node is Ready, Lagging or Refused (R156): a Set Fallback joins the queue, or the
fault code becomes 255. Answers whether it joined (assumption log 33). -/
def queueFallback (z : Nat) (n : Zone) (b : Blocks) : Blocks × Bool :=
  if n.node.live || decide (n.node = .refused) then
    if (b.riser n.riser).queueOpen then (joinQueue n.riser ⟨.setFallback n.fallback, n.slot, 0⟩ b, true)
    else (unconfirmedFallback z b, false)
  else (b, false)

/-- An accepted Configure Zone other than Remove (R156). -/
def storeZone (z : Nat) (x : ZoneBody) (n0 : Zone) (b : Blocks) : Blocks × Answer :=
  let old := b.zone? z
  let n := if x.permitted.isSome then normaliseEffects n0 else n0
  let b1 := tellFeeders old n (b.setZone z (some n))
  let b2 := setNode z (nodeBySerial n) b1
  let p := if x.fallback.isSome then queueFallback z n b2 else (b2, false)
  (p.1, okWith (.zoneConfigured (p.1.zone? z) p.2))

/-- An accepted Remove (R156): an Absent zone becomes Vacant with its reports, and the record leaves the configured set. -/
def removeZone (z : Nat) (c : Zone) (b : Blocks) : Blocks × Answer :=
  let b1 := b.setZone z none
  let b2 := if c.node = .vacant then b1 else b1.report (.zone z) .nodeState
  let b3 := b2.updateLatest z (fun _ => .absent)
  (reevaluateFeeder c.feeder b3, okWith (.zoneConfigured none false))

/-- Configure Zone (R155, R156). -/
def configureZone (z : Nat) (x : ZoneBody) (b : Blocks) : Blocks × Answer :=
  let old := b.zone? z
  if x.remove && zoneBodyCarries x then (b, refuse .malformed)
  else if Config.zoneCount ≤ z || !zoneBodyInRange x then (b, refuse .outOfRange)
  else if x.remove then
    match old with
    | none => (b, refuse .outOfRange)
    | some c => if c.node.present then (b, refuseWith .inUse (.nodeState c.node)) else removeZone z c b
  else
    match formZone x old with
    | none => (b, refuse .outOfRange)
    | some n =>
      if (match old with | some c => changesIdentity c n && c.node.present | none => false) then
        (b, refuseWith .inUse (.nodeState n.node))
      else if x.isProtected.getD false && b.bookings.any (fun k => decide (z ∈ k.fields.zones)) then (b, refuse .inUse)
      else if b.collides z n then (b, refuse .inUse)
      else storeZone z x n b

/-! ## Clear Node and Zone Report (R163, R164) -/

/-- The winning serial of a round between its contention and its decision (R163). -/
def roundWinner (r : Riser) : Option Nat :=
  match r.rollCall, r.round with
  | .running, .offering w => some w
  | .running, .deciding w _ => some w
  | _, _ => none

/-- A zone becomes Absent by Clear Node (R163). -/
def clearZone (c : Zone) : Zone := { c with age := 0, tally := clearTally, profile := none }

/-- Clear Node (R163). -/
def clearNode (z : Nat) (b : Blocks) : Blocks × Answer :=
  if Config.zoneCount ≤ z then (b, refuse .outOfRange)
  else
    match b.zone? z with
    | none => (b, refuse .wrongState)
    | some c =>
      if !c.node.present then (b, refuse .wrongState)
      else if c.serial.isSome && decide (roundWinner (b.riser c.riser) = c.serial) then (b, refuse .wrongState)
      else if !(b.riser c.riser).queueOpen then (b, refuse .wrongState)
      else (setNode z .absent ((joinQueue c.riser ⟨.resetNode, c.slot, 0⟩ b).updateZone z clearZone), okWith .empty)

/-- Zone Report (R164). -/
def zoneReport (z : Nat) (b : Blocks) : Blocks × Answer :=
  if Config.zoneCount ≤ z then (b, refuse .outOfRange) else (b, okWith (.zone (b.zoneView z)))

/-- CONFIGURE_ZONE (R155). -/
def execConfigureZone (s : State) : Host.Outcome State Fault Refusal :=
  .next (serve 12 (onFields (fun f b => match f with
    | .configureZone z body => configureZone z body b
    | _ => (b, refuse .malformed))) s)

/-- CLEAR_NODE (R163). -/
def execClearNode (s : State) : Host.Outcome State Fault Refusal :=
  .next (serve 13 (onFields (fun f b => match f with
    | .clearNode z => clearNode z b
    | _ => (b, refuse .malformed))) s)

/-- ZONE_REPORT (R164). -/
def execZoneReport (s : State) : Host.Outcome State Fault Refusal :=
  .next (serve 14 (onFields (fun f b => match f with
    | .zoneReport z => zoneReport z b
    | _ => (b, refuse .malformed))) s)

end Sys2Proof.Machine
end

