-- ==== Sys2Proof/Machine/Outputs.lean ====
section
/-! DEFINITION. The Sensor Scan, the trip of a feeder, and the requests that name a channel, a feeder or an output line
(R165 to R173). -/

namespace Sys2Proof.Machine

/-! ## Trips (R168) -/

/-- A render result of a feeder that trips: a zone the render computed as Lit is made dark (R168 step 4). It no longer says that the
zone's handover was found at its end by a change of layout (R99), so the completion keeps that record until its length, as of any
Tripped zone (assumption log 24). -/
def tripResult (f : Nat) : ZoneResult → ZoneResult
  | .lit l layout t g watts source ended => if g = f then .tripped else .lit l layout t g watts source ended
  | x => x

/-- What the latest render holds for a zone is made dark, if it has levels (R168 step 4). -/
def ZoneOut.darken : ZoneOut → ZoneOut
  | .levels _ _ => .levels dark .plain
  | x => x

/-- Whether the latest render holds levels for a zone. -/
def ZoneOut.hasLevels : ZoneOut → Bool
  | .levels _ _ => true
  | _ => false

/-- A configured zone's latest render levels and last dispatched levels are made dark, if it has levels (R168 step 4). -/
def darkenZone (z : Nat) (b : Blocks) : Blocks :=
  if (b.latestOf z).hasLevels then (b.updateZone z (fun c => { c with last := dark })).updateLatest z ZoneOut.darken else b

/-- Whether a zone is configured on a feeder. -/
def Blocks.onFeeder (b : Blocks) (f z : Nat) : Bool :=
  match b.zone? z with
  | some c => decide (c.feeder = f)
  | none => false

/-- The Level Chain is told of a trip (R168 step 4): the latest render, the last dispatched levels, and the render in flight. -/
def darkenFeeder (f : Nat) (b : Blocks) : Blocks :=
  let b1 := forEach (allZones.filter (b.onFeeder f)) darkenZone b
  { b1 with chain := { b1.chain with
      flight := b1.chain.flight.map (fun fl => { fl with results := fl.results.map (Option.map (tripResult f)) }) } }

/-- A feeder trips (R168). -/
def tripFeeder (f : Nat) (b : Blocks) : Blocks :=
  let b1 := b.updateFeeder f (fun x => { x with tripped := true, idleFrom := none })
  darkenFeeder f ((setContactor f false b1).report (.feeder f) .tripped)

/-- A current sample is taken for a feeder (R168); while it is Tripped samples are not counted. -/
def currentSample (f code : Nat) (b : Blocks) : Blocks :=
  let x := b.feeder f
  if x.tripped then b
  else
    let n := if x.tripMark < code then x.overCount + 1 else 0
    let b1 := b.updateFeeder f (fun y => { y with overCount := n })
    if 3 ≤ n then tripFeeder f b1 else b1

/-! ## The Sensor Scan (R165) -/

/-- The difference of two conversions. -/
def conversionDiff (x y : Nat) : Nat := (x - y) + (y - x)

/-- A channel's record is replaced. -/
def Blocks.setChannel (b : Blocks) (c : Nat) (x : Channel) : Blocks :=
  { b with scan := { b.scan with channels := b.scan.channels.set c x } }

/-- A channel is scanned (R165): the sample is taken and handed on, or dropped (assumption log 23). -/
def scanChannel (c x y : Nat) (b : Blocks) : Blocks :=
  if b.scan.calibrating then b
  else
    let ch := b.channel c
    let b1 := b.advanceTo ch.nextScan
    let next := b1.ownUs + Config.scanUs
    if conversionDiff x y ≤ Config.conversionSpread then
      let code := (x + y) / 2
      let b2 := b1.setChannel c ⟨some code, 0, next⟩
      if c < 4 then ambientSample c code b2 else currentSample (c - 4) code b2
    else b1.setChannel c { ch with age := min 255 (ch.age + 1), nextScan := next }

/-- Calibration ends 2 s of own count after a full reset, and scanning begins (R165). -/
def endCalibration (b : Blocks) : Blocks :=
  if b.scan.calibrating then
    let b1 := b.advanceTo Config.calibrationUs
    { b1 with scan :=
        { calibrating := false, channels := b1.scan.channels.map (fun ch => { ch with nextScan := b1.ownUs }) } }
  else b

/-- Read Channel (R166). -/
def readChannel (c : Nat) (b : Blocks) : Blocks × Answer :=
  if 7 < c then (b, refuse .outOfRange)
  else (b, okWith (.channel (b.channel c).latest (b.channel c).age b.scan.calibrating))

/-! ## Feeders and outputs (R169 to R173) -/

/-- The idle timer reaches 600,000 ms: the contactor opens and the timer stops (R171). -/
def idleExpiry (f : Nat) (b : Blocks) : Blocks :=
  match (b.feeder f).idleFrom with
  | none => b
  | some t => setContactor f false ((b.advanceTo (t + Config.idleMs * 1000)).updateFeeder f (fun x => { x with idleFrom := none }))

/-- A zone configured on a feeder and not protected gets a handover of the schedule default (R169 step 2). -/
def fadeUpFeeder (f : Nat) (b : Blocks) : Blocks := defaultHandovers (fun z => b.onFeeder f z && b.showable z) b

/-- The source drives a feeder's contactor again after a trip (R169 step 3). -/
def driveReclosed (f : Nat) (b : Blocks) : Blocks :=
  match (b.feeder f).source with
  | .operator => setContactor f (b.feeder f).commandClosed b
  | .schedule =>
    if b.claimed f then setContactor f true b
    else setContactor f false (b.updateFeeder f (fun x => { x with idleFrom := none }))

/-- Reclose Feeder (R169). -/
def recloseFeeder (f : Nat) (b : Blocks) : Blocks × Answer :=
  if 3 < f then (b, refuse .outOfRange)
  else if !(b.feeder f).tripped then (b, refuse .wrongState)
  else
    let b1 := b.updateFeeder f (fun x => { x with tripped := false, overCount := 0 })
    let b2 := driveReclosed f (fadeUpFeeder f b1)
    (b2, okWith (.contactor (b2.feeder f).closed))

/-- Whether a command suits a line (R172). -/
def commandSuits : OutputLine → OutputCommand → Bool
  | .contactor _, .open_ => true
  | .contactor _, .closed => true
  | .showLive, .asserted => true
  | .showLive, .deasserted => true
  | .curfewActive, .asserted => true
  | .curfewActive, .deasserted => true
  | _, _ => false

/-- A contactor's state as a command. -/
def contactorCommand (closed : Bool) : OutputCommand := if closed then .closed else .open_

/-- An indicator line's level as a command. -/
def indicatorCommand (level : Bool) : OutputCommand := if level then .asserted else .deasserted

/-- A line's source, command and output (R172). -/
def Blocks.outputView (b : Blocks) : OutputLine → OutputView
  | .contactor f =>
    let x := b.feeder f
    ⟨.contactor f, x.source, contactorCommand x.commandClosed, contactorCommand x.closed⟩
  | .showLive => ⟨.showLive, b.showLive.source, indicatorCommand b.showLive.command, indicatorCommand b.showLive.output⟩
  | .curfewActive =>
    ⟨.curfewActive, b.curfewActive.source, indicatorCommand b.curfewActive.command, indicatorCommand b.curfewActive.output⟩

/-- A contactor takes a source and a command (R172): under Operator the command at once, unless the feeder is Tripped, and the
idle timer stops; from Operator to Schedule it is re-evaluated. -/
def setContactorOutput (f : Nat) (source : Option OutputSource) (command : Option OutputCommand) (b : Blocks) : Blocks :=
  let was := (b.feeder f).source
  let b1 := b.updateFeeder f (fun x =>
    { x with
      source := source.getD x.source
      commandClosed := (command.map (fun c => decide (c = .closed))).getD x.commandClosed })
  match (b1.feeder f).source with
  | .operator =>
    let b2 := b1.updateFeeder f (fun x => { x with idleFrom := none })
    if (b2.feeder f).tripped then b2 else setContactor f (b2.feeder f).commandClosed b2
  | .schedule => if was = .operator then reevaluateFeeder f b1 else b1

/-- An indicator line takes a source and a command, and then the level of its condition or its command (R172). -/
def setIndicator (source : Option OutputSource) (command : Option OutputCommand) (level : Bool) (i : Indicator) : Indicator :=
  let j : Indicator := { i with
    source := source.getD i.source
    command := (command.map (fun c => decide (c = .asserted))).getD i.command }
  { j with output := j.driven level }

/-- A line takes a source and a command (R172). -/
def driveLine (line : OutputLine) (source : Option OutputSource) (command : Option OutputCommand) (b : Blocks) : Blocks :=
  match line with
  | .contactor f => setContactorOutput f source command b
  | .showLive => { b with showLive := setIndicator source command b.showLiveScheduled b.showLive }
  | .curfewActive => { b with curfewActive := setIndicator source command b.chain.windowOpen b.curfewActive }

/-- A carried code, none when it is a code without a meaning; an absent one is known. -/
def knownCode {α : Type} : Option (Code α) → Option (Option α)
  | none => some none
  | some (.known a) => some (some a)
  | some .unknown => none

/-- Set Output (R172). -/
def setOutput (line : Code OutputLine) (source : Option (Code OutputSource)) (command : Option (Code OutputCommand)) (b : Blocks) :
    Blocks × Answer :=
  match line, knownCode source, knownCode command with
  | .known l, some so, some co =>
    if (co.map (commandSuits l)).getD true then
      let b1 := if so.isNone && co.isNone then b else driveLine l so co b
      (b1, okWith (.output (b1.outputView l)))
    else (b, refuse .outOfRange)
  | _, _, _ => (b, refuse .outOfRange)

/-- Configure Feeder (R173). -/
def configureFeeder (f : Nat) (budget mark : Option Nat) (b : Blocks) : Blocks × Answer :=
  if decide (3 < f) || (budget.any (fun p => decide (1000000 < p))) || (mark.any (fun m => decide (4095 < m))) then
    (b, refuse .outOfRange)
  else
    let b1 := b.updateFeeder f (fun x => { x with budget := budget.getD x.budget, tripMark := mark.getD x.tripMark })
    (b1, okWith (.feederRecord (b1.feederRecord (b1.feeder f))))

/-- Feeder Report (R173). -/
def feederReport (f : Nat) (b : Blocks) : Blocks × Answer :=
  if 3 < f then (b, refuse .outOfRange) else (b, okWith (.feeder (b.feederView f)))

/-! ## The events and the requests' rows -/

/-- CALIBRATION_END (R165). -/
def execCalibrationEnd (s : State) : Host.Outcome State Fault Refusal := .next (s.mapBlocks endCalibration)

/-- SENSOR_SCAN (R165). -/
def execSensorScan (c : Fin 8) (x y : BitVec 12) (s : State) : Host.Outcome State Fault Refusal :=
  .next (s.mapBlocks (scanChannel c.val x.toNat y.toNat))

/-- READ_CHANNEL (R166). -/
def execReadChannel (s : State) : Host.Outcome State Fault Refusal :=
  .next (serve 34 (onFields (fun f b => match f with
    | .readChannel c => readChannel c b
    | _ => (b, refuse .malformed))) s)

/-- IDLE_TIMER_EXPIRY (R171). -/
def execIdleTimerExpiry (f : Fin 4) (s : State) : Host.Outcome State Fault Refusal := .next (s.mapBlocks (idleExpiry f.val))

/-- RECLOSE_FEEDER (R169). -/
def execRecloseFeeder (s : State) : Host.Outcome State Fault Refusal :=
  .next (serve 32 (onFields (fun f b => match f with
    | .recloseFeeder n => recloseFeeder n b
    | _ => (b, refuse .malformed))) s)

/-- SET_OUTPUT (R172). -/
def execSetOutput (s : State) : Host.Outcome State Fault Refusal :=
  .next (serve 31 (onFields (fun f b => match f with
    | .setOutput line source command => setOutput line source command b
    | _ => (b, refuse .malformed))) s)

/-- CONFIGURE_FEEDER (R173). -/
def execConfigureFeeder (s : State) : Host.Outcome State Fault Refusal :=
  .next (serve 30 (onFields (fun f b => match f with
    | .configureFeeder n budget mark => configureFeeder n budget mark b
    | _ => (b, refuse .malformed))) s)

/-- FEEDER_REPORT (R173). -/
def execFeederReport (s : State) : Host.Outcome State Fault Refusal :=
  .next (serve 33 (onFields (fun f b => match f with
    | .feederReport n => feederReport n b
    | _ => (b, refuse .malformed))) s)

end Sys2Proof.Machine
end

