-- ==== Sys2Proof/Machine/Flags.lean ====
section
/-! DEFINITION. The status byte of the Request Port, the attention line and the codes of the byte layouts (chapter 11). -/

namespace Sys2Proof.Machine

/-- The status byte, built when a transaction begins (R175): bits 0 to 2 the free places of the request queue, bits 3 to 5
the replies waiting, bit 6 set while the Notice List holds an entry, bit 7 the not-taken flag. -/
def statusByte (s : State) : Byte :=
  BitVec.ofNat 8
    ((Config.queuePlaces - s.port.requests.length) + 8 * s.port.replies.length
      + (if s.blocks.notices.isEmpty then 0 else 64) + (if s.port.notTaken then 128 else 0))

/-- The attention line: asserted while a reply or a notice waits (R183). -/
def attention (s : State) : Bool := !s.port.replies.isEmpty || !s.blocks.notices.isEmpty

/-- The number of a status code (R179, section 11.6). -/
def statusCode : Status → Nat
  | .ok => 0 | .malformed => 1 | .noSuchRecord => 2 | .duplicate => 3 | .tableFull => 4 | .poolFull => 5 | .noProgram => 6
  | .inUse => 7 | .isProtected => 8 | .outOfRange => 9 | .busy => 10 | .notLocked => 11 | .wrongState => 12

/-- The number of an outcome (R5, section 11.6). -/
def outcomeCode : LastOutcome → Nat
  | .noOutcome => 0 | .completed => 1 | .cutShort => 2 | .evicted => 3 | .skipped => 4 | .missed => 5 | .restarted => 6

/-- The warnings byte: bit 0 Shadowed, bit 1 NoOccurrence, bit 2 Estimated, bit 3 Stalled (section 11.6). -/
def warningsByte (w : Warnings) : Byte :=
  BitVec.ofNat 8 (w.shadowed.toNat + 2 * w.noOccurrence.toNat + 4 * w.estimated.toNat + 8 * w.stalled.toNat)

/-- The bytes of a reply body or a summary: none for an absent one, else the free value of a layout that the manual does not give
(assumption log 5). -/
def replyBodyLength : ReplyBody → Nat
  | .empty => 0
  | body => Config.bodyLength body

/-- The six bytes of a reply header (section 11.6): the length counts the header and the body. -/
def replyHeader (r : Reply) : List Byte :=
  beBytes16 (BitVec.ofNat 16 (6 + replyBodyLength r.body)) ++
    [r.kind, r.tag, BitVec.ofNat 8 (statusCode r.status), warningsByte r.warnings]

/-- The record kind and the record number of a notice entry (section 11.6). -/
def recordCode : RecordId → Nat × Nat
  | .booking n => (0, n)
  | .zone z => (1, z)
  | .riser r => (2, r)
  | .feeder f => (3, f)
  | .timeBase => (4, 0)
  | .cueClock => (5, 0)

/-- The change kinds of a record's row in R180, in order. -/
def recordKinds : RecordId → List ChangeKind
  | .booking _ => [.started, .ended, .retired, .eclipsed, .regained, .followLost, .stalled, .estimated]
  | .zone _ => [.nodeState, .holderChanged, .nodeFault, .localOverride]
  | .riser _ => [.riserState, .rateChanged, .rollCallDone, .stranger, .underrun]
  | .feeder _ => [.tripped, .contactorChanged, .scalingChanged]
  | .timeBase => [.timeState, .stepped]
  | .cueClock => [.cueState, .cuePause]

/-- The number with bit i set where item i of a list passes. -/
def bitsOf {α : Type} (l : List α) (p : α → Bool) : Nat := l.foldr (fun x n => (p x).toNat + 2 * n) 0

/-- The change set byte of a notice entry: bit n is the nth kind of the record's row (section 11.6). -/
def changeSetByte (e : NoticeEntry) : Byte := BitVec.ofNat 8 (bitsOf (recordKinds e.record) (fun k => decide (k ∈ e.changes)))

/-- The eight bytes of a notice entry before its summary (section 11.6): the length counts them and the summary. -/
def noticeHeader (e : NoticeEntry) (summary : ReplyBody) : List Byte :=
  beBytes16 (BitVec.ofNat 16 (8 + replyBodyLength summary)) ++ [BitVec.ofNat 8 (recordCode e.record).1] ++
    beBytes16 (BitVec.ofNat 16 (recordCode e.record).2) ++
    [changeSetByte e, BitVec.ofNat 8 ((e.outcome.map outcomeCode).getD 0), BitVec.ofNat 8 e.closed.isSome.toNat]

/-- The bytes that Port Status clocks out after the status byte (R175): the notice count in two bytes, the notice mask in
three, in the order of R180 (kind n is bit n mod 8 of byte floor(n / 8), assumption log 6), and the not-taken count. -/
def portStatusBytes (notices : Nat) (mask : List ChangeKind) (notTaken : Nat) : List Byte :=
  let m : BitVec 24 := BitVec.ofNat 24 (bitsOf allKinds (fun k => decide (k ∈ mask)))
  beBytes16 (BitVec.ofNat 16 notices) ++ [m.extractLsb' 0 8, m.extractLsb' 8 8, m.extractLsb' 16 8] ++ [BitVec.ofNat 8 notTaken]

end Sys2Proof.Machine
end

