-- ==== Sys2Proof/Machine/TimeBase.lean ====
section
/-! DEFINITION. The Time Base and the almanac (chapter 6): ticks, the pulse measurement, discipline, steps, marks, pruning
and loads. -/

namespace Sys2Proof.Machine

/-- Change the Time Base record. -/
def Blocks.updateTime (b : Blocks) (g : TimeBase → TimeBase) : Blocks := { b with time := g b.time }

/-! ## Ticks (R111, R44, R132) -/

/-- An occurrence's position at a civil tick (R44): a Following one holds while the cue is paused. -/
def tickPosition (cueRunning : Bool) (o : Occurrence) : Occurrence :=
  if decide (o.follow = .following) && !cueRunning then o
  else { o with position := min Config.positionMax (o.position + 1) }

/-- Whether an instant begins a day. -/
def beginsDay (i : Instant) : Bool := decide (timeOfDay i = 0)

/-- One civil tick is issued (R111): now, the positions, and the ticks since the last cue word. At the last instant of day
65,535 no tick is issued. -/
def issueTick (b : Blocks) : Blocks :=
  match b.time.now with
  | none => b
  | some now =>
    if Config.lastInstant ≤ now then b
    else
      { b with
        time := { b.time with now := some (now + 1), midnightDue := b.time.midnightDue || beginsDay (now + 1) }
        active := b.active.map (tickPosition b.cue.running)
        cue := { b.cue with ticks := min 65535 (b.cue.ticks + 1) } }

/-- The own µs at which the next regular tick falls (R111) (assumption log 18). -/
def Blocks.nextTickUs (b : Blocks) : Nat := b.time.tickFrom + (b.time.ticks + 1) * b.time.rate / 1000

/-- The next regular tick falls: it is issued, or it is the tick that a slew withholds (R111, R115). -/
def regularTick (b : Blocks) : Blocks :=
  if b.time.state = .unset then b
  else
    let b1 := (b.advanceTo b.nextTickUs).updateTime (fun t => { t with ticks := t.ticks + 1 })
    if b1.time.withhold then b1.updateTime (fun t => { t with withhold := false }) else issueTick b1

/-! ## The almanac (R123) -/

/-- The almanac is pruned against today (R123). -/
def prune (b : Blocks) : Blocks :=
  match b.time.now with
  | none => b
  | some now => { b with almanac := b.almanac.filter (fun e => decide (dayOf now ≤ (e.day : Int) + 7)) }

/-- A midnight is taken (R111, R123) (assumption log 15). -/
def takeMidnight (b : Blocks) : Blocks :=
  if b.time.midnightDue then prune (b.updateTime (fun t => { t with midnightDue := false })) else b

/-! ## Steps (R117) -/

/-- A step of civil time to a new now, one event at the Time Base (R117). A step of size 0 hands nothing on, and one past the
last instant stops at it (R111). -/
def stepTo (target : Instant) (b : Blocks) : Blocks :=
  match b.time.now with
  | none => b
  | some old =>
    let new := min target Config.lastInstant
    let b1 := (b.updateTime (fun t => { t with now := some new, lastStep := some (new - old, new) })).report .timeBase .stepped
    if new = old then b1
    else
      let b2 := if old < new then forwardStep b1 else b1
      let b3 := followWindow b2
      if dayOf old < dayOf new then prune b3 else b3

/-! ## The state and the rate (R113, R114) -/

/-- The Time Base's state takes a value: a change reports TimeState, and leaving Locked ends the slew (R113)
(assumption log 16). -/
def setTimeState (st : TimeState) (b : Blocks) : Blocks :=
  if b.time.state = st then b
  else (b.updateTime (fun t => { t with state := st, slew := if t.state = .locked then 0 else t.slew })).report
    .timeBase .timeState

/-- The rate takes a value; a change of it starts the count of regular ticks anew (R111, R114). -/
def setRate (rate : Nat) (b : Blocks) : Blocks :=
  if b.time.rate = rate then b
  else b.updateTime (fun t => { t with rate := rate, tickFrom := b.ownUs, ticks := 0 })

/-- The floor of the average of the intervals in the valid run's list (R114). -/
def averageInterval (run : List Nat) : Nat := run.sum / run.length

/-! ## Discipline (R115, R116) -/

/-- The phase error of a now (R115). -/
def phaseError (now : Instant) : Int :=
  let r := timeOfDay now % 1000
  if r < 500 then r else r - 1000

/-- A disciplined edge (R115, R116): nothing more for no error, one slewed tick up to 250 ms, a step beyond
(assumption log 17). -/
def discipline (b : Blocks) : Blocks :=
  match b.time.now with
  | none => b
  | some now =>
    let e := phaseError now
    let b1 := b.updateTime (fun t => { t with phase := some e })
    if e = 0 then b1.updateTime (fun t => { t with slew := 0 })
    else if 0 < e && decide (e ≤ Config.slewMax) then b1.updateTime (fun t => { t with slew := e - 1, withhold := true })
    else if e < 0 && decide (-Config.slewMax ≤ e) then issueTick (b1.updateTime (fun t => { t with slew := e + 1 }))
    else stepTo (now - e) (b1.updateTime (fun t => { t with slew := 0 }))

/-! ## Marks (R118, R119) -/

/-- The bookings' numbers, in rising order, that pass: the order in which a batch places them (R33; assumption log 20). -/
def Blocks.numbersIn (b : Blocks) (p : Booking → Bool) : List Nat := ascending ((b.bookings.filter p).map (fun k => k.number))

/-- The first setting of civil time: every Held booking is placed, the curfew window followed, the almanac pruned (R118). -/
def firstSetting (b : Blocks) : Blocks :=
  prune (followWindow (placeBatch false (b.numbersIn (fun k => decide (k.state = .held))) b))

/-- The measurement is restarted by a mark (R118): the edge counter takes `lastEdge`, the run and the interval count are
cleared and released, and the regular ticks are counted from now on. -/
def restartMeasurement (lastEdge : Option Nat) (own : Nat) (t : TimeBase) : TimeBase :=
  { t with
    pending := none, lastEdge := lastEdge, run := [], interval := 0, lastInterval := 0, frozen := false, bad := 0,
    tickFrom := own, ticks := 0, withhold := false }

/-- A mark's value is applied (R118, R119). `lastEdge` is what the edge counter holds afterwards: the edge at which a pending
mark is applied, or no edge yet. -/
def applyMark (value : Instant) (lastEdge : Option Nat) (b : Blocks) : Blocks :=
  let b1 := setTimeState .free (b.updateTime (restartMeasurement lastEdge b.ownUs))
  match b.time.now with
  | some _ => stepTo value b1
  | none => firstSetting (b1.updateTime (fun t => { t with now := some (min value Config.lastInstant) }))

/-- The value of a day and a time of day (R118). -/
def markValue (day timeOfDay : Nat) : Instant := (day : Int) * Config.dayMs + timeOfDay

/-! ## Edges (R112, R113) -/

/-- The edge counter, none while it holds no edge yet (R112). -/
def Blocks.edgeCounter (b : Blocks) : Option Nat := b.time.lastEdge.map (fun e => min Config.edgeMax (b.ownUs - e))

/-- Whether an interval's length is valid (R112). -/
def validInterval (n : Nat) : Bool := decide (Config.intervalMin ≤ n) && decide (n ≤ Config.intervalMax)

/-- The last four items of a list. -/
def lastFour (l : List Nat) : List Nat := l.drop (l.length - 4)

/-- A valid interval ends (R112 to R116): it joins the run, and in Locked, or with a run of 4 in Free and Holdover, the edge
sets the rate and is disciplined. -/
def validEdge (n : Nat) (b : Blocks) : Blocks :=
  let b1 := b.updateTime (fun t =>
    { t with run := lastFour (t.run ++ [n]), lastInterval := n, interval := if t.frozen then t.interval else n })
  let locks := decide (b1.time.run.length = 4) && (decide (b.time.state = .free) || decide (b.time.state = .holdover))
  if decide (b.time.state = .locked) || locks then
    let b2 := setTimeState .locked b1
    discipline (setRate (averageInterval b2.time.run) b2)
  else b1

/-- An invalid interval ends (R112, R113): it freezes the interval count with a report, or raises the bad intervals count, and
Locked becomes Holdover. -/
def invalidEdge (n : Nat) (b : Blocks) : Blocks :=
  let b1 := b.updateTime (fun t => { t with run := [], lastInterval := n })
  let b2 := if b1.time.frozen then b1.updateTime (fun t => { t with bad := min 255 (t.bad + 1) })
    else (b1.updateTime (fun t => { t with frozen := true, interval := n })).report .timeBase .timeState
  if b2.time.state = .locked then setTimeState .holdover b2 else b2

/-- An edge on the pulse input, at the present own count (R112, R119). An edge at which a pending mark is applied is neither
measured nor disciplined (assumption log 12). -/
def takeEdge (b : Blocks) : Blocks :=
  match b.time.pending with
  | some m => applyMark (markValue m.day m.timeOfDay) (some b.ownUs) b
  | none =>
    let b1 := b.updateTime (fun t => { t with lastEdge := some b.ownUs })
    match b.edgeCounter with
    | none => b1
    | some n => if validInterval n then validEdge n b1 else invalidEdge n b1

/-- The edge counter reaches 1,500,000 with no edge while Locked (R113, R120): section 6.6 puts Holdover 1,500.000 ms after the
edge (assumption log 18). -/
def holdoverTimeout (b : Blocks) : Blocks :=
  match b.time.lastEdge with
  | some e => if b.time.state = .locked then setTimeState .holdover (b.advanceTo (e + Config.holdoverUs)) else b
  | none => b

/-- The edge counter reaches 1,999,999 with no edge (R112): the interval count shows that, also when no interval has ended yet
(assumption log 52). -/
def edgeSaturation (b : Blocks) : Blocks :=
  match b.time.lastEdge with
  | some e =>
    (b.advanceTo (e + Config.edgeMax)).updateTime (fun t => { t with interval := if t.frozen then t.interval else Config.edgeMax })
  | none => b

/-- 1,500 ms pass after the taking of a pending mark with no edge (R119). -/
def pendingExpiry (b : Blocks) : Blocks :=
  match b.time.pending with
  | some m =>
    applyMark (min Config.lastInstant (markValue m.day m.timeOfDay + Config.pendingMs)) none
      (b.advanceTo (m.taken + Config.pendingMs * 1000))
  | none => b

/-! ## The requests -/

/-- Mark Time (R118, R119). -/
def markTime (day tod : Nat) (mode : Code MarkMode) (b : Blocks) : Blocks × Answer :=
  if !(decide (day ≤ 65535) && decide ((tod : Int) < Config.dayMs)) then (b, refuse .outOfRange)
  else
    match mode with
    | .unknown => (b, refuse .outOfRange)
    | .known .now =>
      let b1 := applyMark (markValue day tod) none b
      (b1, okWith (.marked b1.time.state b1.time.now b1.time.lastStep b1.time.pending))
    | .known .nextPulse =>
      let b1 := b.updateTime (fun t => { t with pending := some ⟨day, tod, b.ownUs⟩ })
      (b1, okWith (.marked b1.time.state b1.time.now b1.time.lastStep b1.time.pending))

/-- Set Calendar Base (R121). -/
def setCalendarBase (base : Nat) (b : Blocks) : Blocks × Answer :=
  if 6 < base then (b, refuse .outOfRange)
  else (b.updateTime (fun t => { t with base := base }), okWith (.calendarBase base))

/-- Time Report (R122): the reply is built, and then a frozen interval count is released. -/
def timeReport (b : Blocks) : Blocks × Answer :=
  (if b.time.frozen then b.updateTime (fun t => { t with frozen := false, bad := 0, interval := t.lastInterval }) else b,
    okWith (.time b.timeView))

/-- An almanac entry is stored at its place, replacing one for the same day (R124). -/
def storeDay (e : AlmanacDay) : List AlmanacDay → List AlmanacDay
  | [] => [e]
  | x :: xs => if e.day < x.day then e :: x :: xs else if e.day = x.day then e :: xs else x :: storeDay e xs

/-- The entries of a load that are to be stored: all of them but, while civil time is set, those below today − 7 (R124). -/
def Blocks.toStore (b : Blocks) (days : List AlmanacDay) : List AlmanacDay :=
  match b.time.now with
  | none => days
  | some now => days.filter (fun e => decide (dayOf now ≤ (e.day : Int) + 7))

/-- Whether an anchor reads the almanac. -/
def Anchor.solar : Anchor → Bool
  | .clock _ => false
  | _ => true

/-- Whether a booking has a Sunset or Sunrise anchor at its start or its end (R125). -/
def BookingFields.solar (f : BookingFields) : Bool :=
  f.start.solar || (match f.finish with | .anchored a => a.solar | .duration _ => false)

/-- Whether a load of days has a booking placed again (R125). -/
def Blocks.reexamined (b : Blocks) (stored : List AlmanacDay) (k : Booking) : Bool :=
  match k.state with
  | .stalled => true
  | .scheduled =>
    k.fields.solar &&
      (match b.upcoming? k.number with
       | some e => e.estimated || stored.any (fun x => decide (x.day = e.day) || decide (x.day = e.day + 1))
       | none => false)
  | _ => false

/-- Whether an almanac entry lies in its ranges (R123). -/
def dayInRange (e : AlmanacDay) : Bool :=
  decide (e.day ≤ 65535) && decide ((e.sunset : Int) < Config.dayMs) && decide ((e.sunrise : Int) < Config.dayMs)

/-- The distinct days of a load that the almanac does not hold yet (R124). -/
def Blocks.newDays (b : Blocks) (days : List AlmanacDay) : List Nat :=
  (ascending (days.map (fun e => e.day))).filter (fun d => !b.almanac.any (fun e => e.day == d))

/-- Load Almanac (R124, R125). -/
def loadAlmanac (days : List AlmanacDay) (b : Blocks) : Blocks × Answer :=
  if 16 < days.length then (b, refuse .malformed)
  else if !days.all dayInRange then (b, refuse .outOfRange)
  else
    let stored := b.toStore days
    if Config.almanacDays < b.almanac.length + (b.newDays stored).length then
      (b, refuseWith .tableFull (.almanacHeld b.almanac.length))
    else
      let ns := b.numbersIn (b.reexamined stored)
      let b1 := { b with almanac := stored.foldl (fun l e => storeDay e l) b.almanac }
      let b2 := forEach ns removeEntry b1
      let b3 := placeBatch true ns b2
      let stalled := b3.bookings.filter (fun k => decide (k.number ∈ ns) && decide (k.state = .stalled))
      (b3, okWith (.almanac stored.length (days.length - stored.length) b3.almanac.length
        (b3.almanac.head?.map (fun e => e.day)) (b3.almanac.getLast?.map (fun e => e.day)) ns.length stalled.length))

/-! ## The events and the requests' rows -/

/-- CIVIL_TICK (R111). -/
def execCivilTick (s : State) : Host.Outcome State Fault Refusal := .next (s.mapBlocks regularTick)

/-- MIDNIGHT (R123). -/
def execMidnight (s : State) : Host.Outcome State Fault Refusal := .next (s.mapBlocks takeMidnight)

/-- PULSE_EDGE (R112): `elapsed` µs of own count pass, and then the edge is taken. -/
def execPulseEdge (elapsed : Nat) (s : State) : Host.Outcome State Fault Refusal :=
  .next (s.mapBlocks (fun b => takeEdge (b.advanceTo (b.ownUs + elapsed))))

/-- HOLDOVER_TIMEOUT (R113). -/
def execHoldoverTimeout (s : State) : Host.Outcome State Fault Refusal := .next (s.mapBlocks holdoverTimeout)

/-- EDGE_COUNTER_SATURATION (R112). -/
def execEdgeCounterSaturation (s : State) : Host.Outcome State Fault Refusal := .next (s.mapBlocks edgeSaturation)

/-- PENDING_MARK_EXPIRY (R119). -/
def execPendingMarkExpiry (s : State) : Host.Outcome State Fault Refusal := .next (s.mapBlocks pendingExpiry)

/-- MARK_TIME (R118). -/
def execMarkTime (s : State) : Host.Outcome State Fault Refusal :=
  .next (serve 19 (onFields (fun f b => match f with
    | .markTime day tod mode => markTime day tod mode b
    | _ => (b, refuse .malformed))) s)

/-- SET_CALENDAR_BASE (R121). -/
def execSetCalendarBase (s : State) : Host.Outcome State Fault Refusal :=
  .next (serve 20 (onFields (fun f b => match f with
    | .setCalendarBase base => setCalendarBase base b
    | _ => (b, refuse .malformed))) s)

/-- TIME_REPORT (R122). -/
def execTimeReport (s : State) : Host.Outcome State Fault Refusal :=
  .next (serve 21 (onFields (fun f b => match f with
    | .timeReport => timeReport b
    | _ => (b, refuse .malformed))) s)

/-- LOAD_ALMANAC (R124). -/
def execLoadAlmanac (s : State) : Host.Outcome State Fault Refusal :=
  .next (serve 22 (onFields (fun f b => match f with
    | .loadAlmanac days => loadAlmanac days b
    | _ => (b, refuse .malformed))) s)

end Sys2Proof.Machine
end

