-- ==== Sys2Proof/Machine/Port.lean ====
section
/-! DEFINITION. The Request Port: its transactions, the notices, the mask, Restart Schedule and the full reset (chapter 11). -/

namespace Sys2Proof.Machine

/-! ## Transactions (R175, R176, R178, R181) -/

/-- A transaction begins: its status byte is built and clocked out, which clears the not-taken flag that it carries (R175). -/
def beginTransaction (payload : SpiPayload) (s : State) : Port :=
  { s.port with notTaken := false, out := ⟨statusByte s, payload⟩ }

/-- A Send Request that is not taken (R176). -/
def refuseRequest (p : Port) : Port := { p with notTaken := true, notTakenCount := min 255 (p.notTakenCount + 1) }

/-- A Send Request ends (R176): the request joins the tail of the queue, or is not taken. -/
def sendRequest (r : Request) (s : State) : State :=
  let p := beginTransaction .silent s
  { s with port :=
      if r.carried < 4 ∨ Config.queuePlaces ≤ p.requests.length then refuseRequest p else { p with requests := p.requests ++ [r] } }

/-- A Fetch Reply (R178): the head reply is clocked out, and leaves when its last byte is out. -/
def fetchReply (whole : Bool) (s : State) : State :=
  let p := beginTransaction (.reply s.port.replies.head?) s
  { s with port := if whole then { p with replies := p.replies.tail } else p }

/-- Whether an entry's leaving frees a slot: its record is a Retiring booking, the entry is open, and its change set holds
Retired (R10, R181). -/
def Blocks.freedBy (b : Blocks) (e : NoticeEntry) : Option Nat :=
  match e.record, e.closed with
  | .booking n, none =>
    if ChangeKind.retired ∈ e.changes ∧ (b.booking? n).any (fun k => decide (k.state = .retiring)) then some n else none
  | _, _ => none

/-- The head entry leaves the Notice List, and frees the slot of a Retiring booking (R181). -/
def removeNotice (b : Blocks) : Blocks :=
  match b.notices with
  | [] => b
  | e :: es =>
    let b1 : Blocks := { b with notices := es }
    match b.freedBy e with
    | some n => freeSlot n b1
    | none => b1

/-- A Fetch Notice (R181): the head entry is clocked out with its summary, and leaves when the last byte is out. -/
def fetchNotice (whole : Bool) (s : State) : State :=
  let out := s.blocks.notices.head?.map (fun e => (e, s.blocks.summary e))
  { s with
    port := beginTransaction (.notice out) s
    blocks := if whole then removeNotice s.blocks else s.blocks }

/-- A Port Status (R175). -/
def portStatus (s : State) : State :=
  { s with port := beginTransaction (.status s.blocks.notices.length s.blocks.mask s.port.notTakenCount) s }

/-- A transaction kind byte outside 1..4 (R175). -/
def unknownKind (kind : Byte) (s : State) : State :=
  if 1 ≤ kind.toNat ∧ kind.toNat ≤ 4 then s else { s with port := beginTransaction .zeros s }

/-- The request kind that a Malformed refusal by the port echoes: 0 for an unknown kind (section 11.6). -/
def echoedKind (kind : Byte) : Byte := if 1 ≤ kind.toNat ∧ kind.toNat ≤ 36 then kind else 0

/-- The port takes its head request and refuses it itself (R177). -/
def portMalformed (s : State) : State :=
  match s.port.requests with
  | [] => s
  | r :: _ =>
    if s.port.mayTake && !requestAcceptable r then
      { s with port := s.port.answer r (echoedKind r.kind) (refuse .malformed) }
    else s

/-! ## Set Notice Mask (R182) -/

/-- Set Notice Mask (R182). -/
def setNoticeMask (kinds : List ChangeKind) (b : Blocks) : Blocks × Answer :=
  let m := allKinds.filter (fun k => decide (k ∈ kinds))
  ({ b with mask := m }, okWith (.mask m))

/-! ## Restart Schedule (R12, R48, R66, R174, R184) -/

/-- An active occurrence ends with outcome Restarted (R48). -/
def restartOccurrence (o : Occurrence) (b : Blocks) : Blocks :=
  (recordOutcome o.number .restarted (resolve (b.zonesOf o.number) none (dropRecord o b))).reportEnded o.number .restarted

/-- Every boundary is cleared (R12). -/
def clearBoundaries (b : Blocks) : Blocks := { b with bookings := b.bookings.map (fun k => { k with boundary := none }) }

/-- The one handover of a Restart Schedule on each configured non-protected zone (R66). -/
def restartHandovers (b : Blocks) : Blocks :=
  forEach (allZones.filter b.showable)
    (fun z x => startHandover z (if x.panelHold then x.chain.defaultHandover else x.handoverLength z) x) b

/-- Feeder Control's deferral ends: each recorded feeder and Show Live are re-evaluated (R174). -/
def endDeferral (b : Blocks) : Blocks :=
  reevaluateShowLive (forEach (b.deferral.getD []) evaluateFeeder { b with deferral := none })

/-- The number of bookings in a state. -/
def Blocks.countState (b : Blocks) (st : BookingState) : Nat := (b.bookings.filter (fun k => decide (k.state = st))).length

/-- Stages 1 to 3 of a Restart Schedule (R184). -/
def restartBegin (b : Blocks) : Blocks :=
  let b1 := discardHandovers (discardLoad { b with notices := [] })
  { b1 with deferral := some [] }

/-- Stages 4 and 5 of a Restart Schedule (R184). The active occurrences end in the order in which they entered the Active Table
(R48; assumption log 20). -/
def restartPlace (b : Blocks) : Blocks :=
  let b1 := clearBoundaries (forEach b.active restartOccurrence b)
  let b2 := forEach (b1.upcoming.map (fun e => e.number)) removeEntry b1
  placeBatch false (b2.numbersIn (fun _ => true)) b2

/-- Restart Schedule (R184). -/
def restartSchedule (b : Blocks) : Blocks × Answer :=
  let b1 := endDeferral (restartHandovers (restartPlace (restartBegin b)))
  (b1, okWith (.restarted (b1.countState .held) (b1.countState .scheduled) (b1.countState .running) (b1.countState .stalled)
    (b1.countState .retiring)))

/-! ## The rows -/

/-- FULL_RESET (R47): every record of the part as a full reset leaves it. The commands that wait for the part are the sender's,
and are kept (assumption log 10). -/
def execFullReset (s : State) : Host.Outcome State Fault Refusal := .next { State.reset with pending := s.pending }

/-- SEND_REQUEST (R176). -/
def execSendRequest (r : Request) (s : State) : Host.Outcome State Fault Refusal := .next (sendRequest r s)

/-- FETCH_REPLY (R178). -/
def execFetchReply (whole : Bool) (s : State) : Host.Outcome State Fault Refusal := .next (fetchReply whole s)

/-- FETCH_NOTICE (R181). -/
def execFetchNotice (whole : Bool) (s : State) : Host.Outcome State Fault Refusal := .next (fetchNotice whole s)

/-- PORT_STATUS (R175). -/
def execPortStatus (s : State) : Host.Outcome State Fault Refusal := .next (portStatus s)

/-- UNKNOWN_TRANSACTION_KIND (R175). -/
def execUnknownTransactionKind (kind : Byte) (s : State) : Host.Outcome State Fault Refusal := .next (unknownKind kind s)

/-- PORT_MALFORMED_REFUSAL (R177). -/
def execPortMalformedRefusal (s : State) : Host.Outcome State Fault Refusal := .next (portMalformed s)

/-- SET_NOTICE_MASK (R182). -/
def execSetNoticeMask (s : State) : Host.Outcome State Fault Refusal :=
  .next (serve 35 (onFields (fun f b => match f with
    | .setNoticeMask kinds => setNoticeMask kinds b
    | _ => (b, refuse .malformed))) s)

/-- RESTART_SCHEDULE (R184). -/
def execRestartSchedule (s : State) : Host.Outcome State Fault Refusal :=
  .next (serve 36 (onFields (fun f b => match f with
    | .restartSchedule => restartSchedule b
    | _ => (b, refuse .malformed))) s)

end Sys2Proof.Machine
end

