-- ==== Sys2Proof/Machine/Render.lean ====
section
/-! DEFINITION. The render (R91 to R100, R104): what it takes at its instant, the stages of each zone, the feeder budgets
and the completion. -/

namespace Sys2Proof.Machine

/-! ## What a render takes (R91) -/

/-- The holder of a zone with its booking and position, as a render takes it. -/
def Blocks.takeHolder (b : Blocks) (z : Nat) : Option TakenHolder :=
  (b.holder? z).map (fun h =>
    { number := h.number
      uid := ((b.booking? h.number).map (fun k => k.uid)).getD 0
      position := ((b.active.find? (fun o => o.id == h.id)).map (fun o => o.position)).getD 0 })

/-- The own µs of the next render timer expiry: the first whole 5 ms at or after the own count and after the last expiry
(R91). -/
def Blocks.nextExpiry (b : Blocks) : Nat :=
  max (b.chain.lastExpiry + Config.renderUs) ((b.ownUs + Config.renderUs - 1) / Config.renderUs * Config.renderUs)

/-- The render timer expires: the own count stands at the expiry. -/
def expireRenderTimer (b : Blocks) : Blocks :=
  let t := b.nextExpiry
  let b1 := b.advanceTo t
  { b1 with chain := { b1.chain with lastExpiry := t } }

/-- A render starts (R91). -/
def startRender (b : Blocks) : Blocks :=
  let b1 := expireRenderTimer b
  let fl : Flight :=
    { instant := b1.ownMs
      holders := allZones.map b1.takeHolder
      panelHold := b1.panelHold
      handovers := allZones.map (fun z => (b1.zone? z).bind (fun c => c.handover))
      rewritten := []
      nextZone := 0
      results := List.replicate Config.zoneCount none }
  { b1 with chain := { b1.chain with flight := some fl } }

/-! ## The stages of a zone (R94 to R99) -/

/-- What stage 1 finds for a zone (R94): the look, the ceiling of stage 2, and the holder the source is, none when the source
is the hold look or dark. -/
structure SourceLook where
  look : Look
  ceiling : Nat
  source : Option TakenHolder
deriving DecidableEq, Repr

/-- A source of the hold look or of dark: ceiling 1,000, never exempt (R94, R95). -/
def plainSource (l : Levels) : SourceLook := ⟨⟨l, .plain⟩, 1000, none⟩

/-- The booking of a taken holder, if its slot has not been freed since the render instant, by a Withdraw or by retirement (R94;
assumption log 46). -/
def Blocks.takenBooking? (b : Blocks) (t : TakenHolder) : Option Booking :=
  match b.booking? t.number with
  | some k => if k.uid = t.uid then some k else none
  | none => none

/-- The kinds that the curfew bars for a booking now (R90). -/
def Blocks.barredFor (b : Blocks) (k : Booking) : List StepKind :=
  if b.chain.windowOpen && !k.fields.exempt then (b.chain.curfew.map (fun c => c.barred)).getD [] else []

/-- Stage 1 (R94): the look and source of a zone. With the slot of the holder's booking freed, the look and the source are dark
(assumption log 46). -/
def stageLook (b : Blocks) (panelHold : Bool) (taken : Option TakenHolder) (c : Zone) : SourceLook :=
  if panelHold then plainSource b.chain.holdLook
  else
    match taken with
    | none => plainSource dark
    | some t =>
      match b.takenBooking? t with
      | none => plainSource dark
      | some k =>
        match b.program k.fields.program with
        | .ready p =>
          ⟨lookOf p t.position c.role c.permitted ((c.profile.map (fun x => x.local_)).getD []) (b.barredFor k),
            k.fields.ceiling, some t⟩
        | _ => plainSource dark

/-- Whether a source is exempt as its booking stands now (R94, R104). -/
def Blocks.takenExempt (b : Blocks) (source : Option TakenHolder) : Bool :=
  match source with
  | none => false
  | some t =>
    match b.takenBooking? t with
    | some k => k.fields.exempt
    | none => false

/-- Stages 2 and 3 (R95): the ceiling, then the trim, both rounded down. -/
def stageCeilingTrim (ceiling trim : Nat) (l : Levels) : Levels :=
  Levels.map (fun x => x * ceiling / 1000 * trim / 1000) l

/-- Stage 4 (R96): the ambient gain, rounded half up, and the clamp to 1,000. -/
def stageGain (gain : Nat) (l : Levels) : Levels := Levels.map (fun x => min 1000 ((x * gain + 512) / 1024)) l

/-- Stage 5 (R97): the layout of the node. RGB leaves the fourth value 0, Mono the last three. -/
def stageLayout : Layout → Levels → Levels
  | .rgbw, l => l
  | .rgb, l => ⟨min 1000 (l.r + l.w), min 1000 (l.g + l.w), min 1000 (l.b + l.w), 0⟩
  | .mono, l => ⟨max (max l.r l.g) (max l.b l.w), 0, 0, 0⟩

/-- Stage 6 (R98): the curfew ceiling. -/
def stageCurfew (isOpen exempt : Bool) (k : Nat) (l : Levels) : Levels := if isOpen && !exempt then capLevels k l else l

/-- Stage 7 (R99): the handover that the render took, and whether it is at its end by a change of layout. A record's start lies
at or before the render instant that takes it. -/
def stageHandover (instant : Nat) (h : Option Handover) (layout : Layout) (l : Levels) : Levels × Bool :=
  match h with
  | none => (l, false)
  | some x => if x.layout ≠ layout then (l, true) else (mixLevels (instant - x.start) x.length x.from_ l, false)

/-- The gain of a face (R96). -/
def Blocks.gain (b : Blocks) (f : Nat) : Nat := (b.face f).gain

/-- The zone as a Lit zone through stages 1 to 7 (R94 to R99). -/
def litZone (b : Blocks) (fl : Flight) (z : Nat) (c : Zone) : ZoneResult :=
  let s := stageLook b fl.panelHold ((fl.holders[z]?).join) c
  let l4 := stageGain (b.gain c.face) (stageCeilingTrim s.ceiling c.trim s.look.levels)
  let l6 := stageCurfew b.chain.windowOpen (b.takenExempt s.source) b.curfewCeiling (stageLayout c.layout l4)
  let h := stageHandover fl.instant ((fl.handovers[z]?).join) c.layout l6
  .lit h.1 c.layout s.look.token c.feeder c.watts s.source h.2

/-- The class of a zone when the render reaches it, and what it makes of it (R92). -/
def renderZone (b : Blocks) (fl : Flight) (z : Nat) (c : Zone) : ZoneResult :=
  if c.isProtected || !c.node.live then .noLevels
  else if (b.feeder c.feeder).tripped then .tripped
  else litZone b fl z c

/-- The render reaches the next zone number; a zone that is not configured is passed (R92). -/
def reachNext (b : Blocks) (fl : Flight) : Flight :=
  { fl with
    nextZone := fl.nextZone + 1
    results := fl.results.set fl.nextZone ((b.zone? fl.nextZone).map (renderZone b fl fl.nextZone)) }

/-- The render reaches `count` further zone numbers. -/
def reachMany (b : Blocks) : Nat → Flight → Flight
  | 0, fl => fl
  | count + 1, fl => reachMany b count (reachNext b fl)

/-- The render in flight goes on by one zone number, if any is left (assumption log 3). -/
def progressRender (b : Blocks) : Blocks :=
  match b.chain.flight with
  | none => b
  | some fl =>
    if fl.nextZone < Config.zoneCount then { b with chain := { b.chain with flight := some (reachNext b fl) } } else b

/-! ## Stage 8 (R100) -/

/-- The physical channels of a node with their wattages: four, three, or Mono's one level at the W wattage (R97, R100). -/
def physicalChannels (layout : Layout) (l watts : Levels) : List (Nat × Nat) :=
  match layout with
  | .rgbw => [(l.r, watts.r), (l.g, watts.g), (l.b, watts.b), (l.w, watts.w)]
  | .rgb => [(l.r, watts.r), (l.g, watts.g), (l.b, watts.b)]
  | .mono => [(l.r, watts.w)]

/-- The physical channels of the Lit zones of a feeder. -/
def feederChannels (results : List (Option ZoneResult)) (f : Nat) : List (Nat × Nat) :=
  results.flatMap (fun x => match x with
    | some (.lit l layout _ g watts _ _) => if g = f then physicalChannels layout l watts else []
    | _ => [])

/-- Whether a feeder has a Lit zone. -/
def hasLit (results : List (Option ZoneResult)) (f : Nat) : Bool :=
  results.any (fun x => match x with
    | some (.lit _ _ _ g _ _ _) => decide (g = f)
    | _ => false)

/-- The load of channels under a scale s (R100); a scale of 1,024 leaves the levels as they are. -/
def loadAt (s : Nat) (channels : List (Nat × Nat)) : Nat := (channels.map (fun p => p.1 * s / 1024 * p.2 / 1000)).sum

/-- The largest s of 0..candidate whose scaled load does not exceed the budget (R100). -/
def fitScale (channels : List (Nat × Nat)) (budget : Nat) : Nat → Nat
  | 0 => 0
  | s + 1 => if loadAt (s + 1) channels ≤ budget then s + 1 else fitScale channels budget s

/-- A feeder's scale and load estimate by the four cases of R100. -/
def feederBudget (results : List (Option ZoneResult)) (f budget : Nat) : Nat × Nat :=
  let ch := feederChannels results f
  if !hasLit results f then (1024, 0)
  else if budget = 0 then (0, 0)
  else if loadAt 1024 ch ≤ budget then (1024, loadAt 1024 ch)
  else
    let s := fitScale ch budget (budget * 1024 / loadAt 1024 ch)
    (s, loadAt s ch)

/-- A Lit zone's levels under its feeder's scale. -/
def scaleResult (scales : List Nat) : ZoneResult → ZoneResult
  | .lit l layout t f watts source ended =>
    .lit (Levels.map (fun x => x * scales.getD f 1024 / 1024) l) layout t f watts source ended
  | x => x

/-! ## Completion (R93, R104) -/

/-- The completion check (R104): while the window is open, a Lit zone whose source, as stage 1 of this render found it, is not exempt
as its booking stands now is lowered to K. The zone's holder of now is not looked at: a zone whose exempt holder was replaced by one
that is not exempt while the render was in flight keeps this render's levels (assumption log 53). -/
def checkCurfew (b : Blocks) : ZoneResult → ZoneResult
  | .lit l layout t f watts source ended =>
    .lit (stageCurfew b.chain.windowOpen (b.takenExempt source) b.curfewCeiling l) layout t f watts source ended
  | x => x

/-- What the latest render holds of a result (R93). -/
def resultOut : ZoneResult → ZoneOut
  | .noLevels => .noLevels
  | .tripped => .levels dark .plain
  | .lit l _ t _ _ _ _ => .levels l t

/-- The last dispatched levels that a result writes (R93). -/
def resultLevels : ZoneResult → Levels
  | .lit l _ _ _ _ _ _ => l
  | _ => dark

/-- Whether a result found its handover at its end by a change of layout (R99). -/
def resultEnded : ZoneResult → Bool
  | .lit _ _ _ _ _ _ ended => ended
  | _ => false

/-- The handover record that a completion leaves (R93 step 5, R99): one whose elapsed time at the render instant has reached its
length is cleared, and so is the record the render took when it is at its end by a change of layout: the record is that one unless
a handover has started on the zone since. -/
def keptHandover (fl : Flight) (z : Nat) (ended : Bool) (h : Option Handover) : Option Handover :=
  match h with
  | none => none
  | some x =>
    if x.start + x.length ≤ fl.instant then none
    else if ended && !decide (z ∈ fl.rewritten) then none
    else some x

/-- A zone's record after a completion (R93 steps 3 and 5). -/
def completeZone (fl : Flight) (results : List (Option ZoneResult)) (z : Nat) (c : Zone) : Zone :=
  match (results[z]?).join with
  | none => { c with handover := keptHandover fl z false c.handover }
  | some x => { c with last := resultLevels x, handover := keptHandover fl z (resultEnded x) c.handover }

/-- A feeder's load estimate and scale are written, and ScalingChanged reported when the feeder begins or ceases to be scaling
(R93 step 4, R100). -/
def recordScale (f scale load : Nat) (b : Blocks) : Blocks :=
  let was := (b.feeder f).scale
  let b1 := b.updateFeeder f (fun x => { x with scale := scale, load := load })
  if decide (scale < 1024) != decide (was < 1024) then b1.report (.feeder f) .scalingChanged else b1

/-- The results of a whole render with stage 8 and the completion check, and each feeder's scale and load. Stage 8 is taken now,
with the budgets of now, from the zones that are Lit in the render's results, those reached after a Reclose among them (assumption
log 24). Only zones that are configured at the completion count: one configured since the render passed its number
has none, and one removed and configured again takes the result it was given (R93, R100, R173; assumption log 47). -/
def finishResults (b : Blocks) (fl : Flight) : List (Option ZoneResult) × List (Nat × Nat) :=
  let reached := reachMany b (Config.zoneCount - fl.nextZone) fl
  let rs := allZones.map (fun z => if (b.zone? z).isSome then (reached.results[z]?).join else none)
  let budgets := allFeeders.map (fun f => feederBudget rs f (b.feeder f).budget)
  let scales := budgets.map (fun p => p.1)
  (rs.map (Option.map (fun x => checkCurfew b (scaleResult scales x))), budgets)

/-- A render completes (R93). -/
def completeRender (b : Blocks) : Blocks :=
  match b.chain.flight with
  | none => b
  | some fl =>
    let fin := finishResults b fl
    let b1 := { b with
      chain := { b.chain with
        flight := none
        latest := fin.1.map (fun x => (x.map resultOut).getD .absent) }
      risers := b.risers.map (fun r => { r with newRender := true })
      zones := allZones.map (fun z => (b.zone? z).map (completeZone fl fin.1 z)) }
    forEach allFeeders (fun f x =>
      let p := fin.2.getD f (1024, 0)
      recordScale f p.1 p.2 x) b1

/-! ## Idling -/

/-- One µs of the part's own count passes with no command waiting, and a render in flight goes on by one zone number
(assumption log 3). -/
def passIdle (b : Blocks) : Blocks := progressRender { b with ownUs := b.ownUs + 1 }

/-! ## The events -/

/-- RENDER_START (R91): an expiry with no render in flight. -/
def execRenderStart (s : State) : Host.Outcome State Fault Refusal :=
  .next (s.mapBlocks (fun b => if b.chain.flight.isNone then startRender b else b))

/-- RENDER_TIMER_EXPIRY_LOST (R91): an expiry while a render is in flight starts nothing. -/
def execRenderTimerExpiryLost (s : State) : Host.Outcome State Fault Refusal :=
  .next (s.mapBlocks (fun b => if b.chain.flight.isSome then expireRenderTimer b else b))

/-- RENDER_COMPLETION (R93). The zones not yet reached are reached now (assumption log 3). -/
def execRenderCompletion (s : State) : Host.Outcome State Fault Refusal := .next (s.mapBlocks completeRender)

end Sys2Proof.Machine
end

