-- ==== Sys2Proof/Machine/Risers.lean ====
section
/-! DEFINITION. The Riser Controllers: the frame period, tallies, notices, directed exchanges, line faults, entries into
Starting, roll calls and the joint profile (R137 to R153, R158 to R162). -/

namespace Sys2Proof.Machine

/-! ## States and zones of a riser -/

/-- A riser enters a state, or Starting again, and RiserState is reported (R138). -/
def enterRiserState (r : Nat) (st : RiserState) (b : Blocks) : Blocks :=
  (b.updateRiser r (fun x => { x with state := st })).report (.riser r) .riserState

/-- Whether a riser runs frame periods: Starting or Running (R138). -/
def RiserState.framing : RiserState → Bool
  | .starting | .running => true
  | _ => false

/-- A zone that is not Vacant becomes Absent with tally age 0 and no joint profile; the all-call Reset also clears its last
tally status (R139, R140, R162). -/
def absentZone (allCall : Bool) (z : Nat) (b : Blocks) : Blocks :=
  if b.nodeState z = .vacant then b
  else setNode z .absent
    (b.updateZone z (fun c => { c with age := 0, profile := none, tally := if allCall then clearTally else c.tally }))

/-- The zones of a riser whose node is Ready or Lagging. -/
def Blocks.liveOn (b : Blocks) (r : Nat) : List Nat := (b.zonesOn r).filter (fun z => (b.nodeState z).live)

/-! ## Roll-call start and end (R158, R161) -/

/-- The rates that the nodes of a list of zones all offer, lowest first; all four when the list is empty (R158)
(assumption log 40). -/
def Blocks.commonRates (b : Blocks) (zs : List Nat) : List Rate :=
  allRates.filter (fun q => zs.all (fun z => match (b.zone? z).bind (fun c => c.profile) with
    | some p => decide (q ∈ p.rates)
    | none => false))

/-- The highest rate of a rising list not above a limit in frames per second. -/
def highestRate (limit : Nat) (l : List Rate) : Option Rate := (l.filter (fun q => decide (q.perSecond ≤ limit))).getLast?

/-- The riser's rate is recomputed at the start of a roll call (R158). -/
def recomputeRate (r : Nat) (b : Blocks) : Blocks :=
  match highestRate (b.riser r).maxRate.perSecond (b.commonRates (b.liveOn r)) with
  | none => b
  | some q => b.updateRiser r (fun x => { x with pending := if q = x.rate then none else some q })

/-- A round entry (R148). -/
def roundEntry : Exchange := ⟨.round, 0, 0⟩

/-- A roll call starts (R158). -/
def startRollCall (r : Nat) (b : Blocks) : Blocks :=
  recomputeRate r (joinQueue r roundEntry
    (b.updateRiser r (fun x => { x with rollCall := .running, rounds := 0, round := .contention })))

/-- A running roll call is ended: its round entry leaves the queue and the state becomes Idle (R161). -/
def endRollCall (x : Riser) : Riser :=
  { x with rollCall := .idle, round := .contention, queue := x.queue.filter (fun e => decide (e.kind ≠ .round)) }

/-! ## The frame send (R141 to R145) -/

/-- A pending rate becomes the current rate, and RateChanged is reported (R141 step 1). -/
def applyRate (r : Nat) (b : Blocks) : Blocks :=
  match (b.riser r).pending with
  | none => b
  | some q => (b.updateRiser r (fun x => { x with rate := q, pending := none })).report (.riser r) .rateChanged

/-- The node state that an age gives under the marks (R144). -/
def markedState (lag lost age : Nat) (st : NodeState) : NodeState :=
  if lost ≤ age then .lost else if st = .ready ∧ lag ≤ age then .lagging else st

/-- A Ready or Lagging zone ages by one frame send, and the marks are applied (R144). -/
def ageZone (lag lost z : Nat) (b : Blocks) : Blocks :=
  match b.zone? z with
  | none => b
  | some c =>
    let age := min 255 (c.age + 1)
    setNode z (markedState lag lost age c.node) (b.setZone z (some { c with age := age }))

/-- The slots after a cursor, in rising order and wrapping from 24 to 1 (R145). -/
def slotsAfter (cursor : Nat) : List Nat := (List.range Config.riserSlots).map (fun i => (cursor + i) % Config.riserSlots + 1)

/-- Whether the zone at a slot of a riser has a Ready or Lagging node. -/
def Blocks.pollable (b : Blocks) (r slot : Nat) : Bool :=
  match b.zoneAt r slot with
  | some z => (b.nodeState z).live
  | none => false

/-- The tally target, 0 for none (R145). -/
def Blocks.tallyTarget (b : Blocks) (r : Nat) : Nat :=
  ((slotsAfter (b.riser r).cursor).find? (b.pollable r)).getD 0

/-- A slot's entry of a level frame: the levels of the node's layout, the unused fields 0 (R142). -/
def Blocks.slotEntry (b : Blocks) (r slot : Nat) : SlotEntry :=
  match b.zoneAt r slot with
  | none => .noLevels
  | some z =>
    if (b.zone? z).any (fun c => c.isProtected) || !(b.nodeState z).live then .noLevels
    else
      match b.latestOf z with
      | .levels l t => .levels (keepLayout (((b.zone? z).map Zone.layout).getD .rgbw) l) t
      | _ => .noLevels

/-- The level frame that a riser sends to a target (R142). -/
def Blocks.levelFrame (b : Blocks) (r target : Nat) : Frame :=
  { sequence := (b.riser r).sequence, rate := (b.riser r).rate, target := target,
    slots := (List.range Config.riserSlots).map (fun i => b.slotEntry r (i + 1)) }

/-- The riser's record after its frame is sent (R141 step 4, R143, R145): the tally window is open. -/
def sentFrame (own target : Nat) (f : Frame) (x : Riser) : Riser :=
  { x with
    cursor := if target = 0 then x.cursor else target
    lastFrame := some f
    sequence := (x.sequence + 1) % 256
    newRender := false
    underruns := if x.newRender then x.underruns else min 65535 (x.underruns + 1)
    phase := .tally
    lastSend := own }

/-- A frame send (R141 to R145). -/
def sendFrame (r : Nat) (b : Blocks) : Blocks :=
  let b1 := applyRate r b
  let b2 := forEach (b1.liveOn r) (ageZone (b1.riser r).lag (b1.riser r).lost) b1
  let target := b2.tallyTarget r
  let b3 := b2.updateRiser r (sentFrame b2.ownUs target (b2.levelFrame r target))
  if (b2.riser r).newRender then b3 else b3.report (.riser r) .underrun

/-- The next frame send of a riser that runs frame periods, once no exchange waits for its reply (R141) (assumption log 30). -/
def nextFrame (r : Nat) (b : Blocks) : Blocks :=
  let x := b.riser r
  if x.state.framing && decide (x.phase ≠ .exchanging) then sendFrame r (b.advanceTo (x.lastSend + x.rate.periodUs)) else b

/-! ## Entries into Starting, disable, line faults (R139, R140, R151) -/

/-- The riser's record at stage 1 of an entry into Starting from Off or by Riser Reset (R140). -/
def abandonAll (x : Riser) : Riser :=
  { x with phase := .idle, queue := [], rollCall := .idle, round := .contention, retryFrom := none, cursor := 0, pending := none }

/-- A line fault is taken (R151). -/
def lineFault (r : Nat) (b : Blocks) : Blocks :=
  if (b.riser r).state.framing then
    enterRiserState r .faulted
      (b.updateRiser r (fun x =>
        { (if x.rollCall = .running then endRollCall x else x) with phase := .idle, retryFrom := some b.ownUs }))
  else b

/-- Stages 3 and 4 of an entry into Starting (R140): the start-up roll call starts, and the first frame send is taken at once. A
line that is held at the moment that send would begin faults there, with nothing sent (R151). -/
def beginFrames (r : Nat) (lineHeld : Bool) (b : Blocks) : Blocks :=
  let b1 := startRollCall r (enterRiserState r .starting b)
  if lineHeld then lineFault r b1 else sendFrame r b1

/-- Entry into Starting from Off, or by Riser Reset, in the stages of R140 (assumption log 49). -/
def enterStarting (r : Nat) (b : Blocks) : Blocks :=
  let b1 := b.updateRiser r (fun x => { abandonAll x with sent := some (.resetNode 0) })
  beginFrames r (Config.lineHeld r b.ownUs) (forEach (b1.zonesOn r) (absentZone true) b1)

/-- A riser is disabled (R139). RiserState is reported after the zones' NodeState (assumption log 20). -/
def disableRiser (r : Nat) (b : Blocks) : Blocks :=
  let b1 := b.updateRiser r (fun x => { abandonAll x with lastFrame := none, newRender := false })
  enterRiserState r .off (forEach (b1.zonesOn r) (absentZone false) b1)

/-- A maximum rate below the rate the riser is to run at next becomes the pending rate (R139). -/
def limitRate (x : Riser) : Riser :=
  if x.maxRate.perSecond < (x.pending.getD x.rate).perSecond then { x with pending := some x.maxRate } else x

/-- A riser's record with a Configure Riser's settings laid over it, when they lie in their ranges (R139). -/
def formRiser (y : RiserBody) (x : Riser) : Option Riser :=
  let lag := y.lag.getD x.lag
  let lost := y.lost.getD x.lost
  match y.maxRate.map rateOf, y.policy with
  | some none, _ => none
  | _, some .unknown => none
  | q, p =>
    if 30 ≤ lag ∧ lag ≤ 200 ∧ lag + 20 ≤ lost ∧ lost ≤ 255 then
      some
        { x with
          enabled := y.enabled.getD x.enabled
          maxRate := (q.join).getD x.maxRate
          policy := match p with
            | some (.known v) => v
            | _ => x.policy
          lag := lag
          lost := lost }
    else none

/-- What Configure Riser replies of a riser (R139). -/
def riserSettings (x : Riser) : ReplyBody := .riserSettings x.state x.maxRate x.rate x.pending x.lag x.lost

/-- Configure Riser (R139) (assumption log 34). -/
def configureRiser (r : Nat) (y : RiserBody) (b : Blocks) : Blocks × Answer :=
  if 3 < r then (b, refuse .outOfRange)
  else
    match formRiser y (b.riser r) with
    | none => (b, refuse .outOfRange)
    | some x =>
      let was := b.riser r
      let b1 := b.updateRiser r (fun _ => x)
      let b2 :=
        if x.enabled && !was.enabled then enterStarting r b1
        else if !x.enabled && was.enabled then disableRiser r b1
        else b1
      let b3 := if x.maxRate = was.maxRate then b2 else b2.updateRiser r limitRate
      (b3, okWith (riserSettings (b3.riser r)))

/-- Riser Reset (R138, R140). -/
def riserReset (r : Nat) (b : Blocks) : Blocks × Answer :=
  if 3 < r then (b, refuse .outOfRange)
  else if (b.riser r).state = .off then (b, refuse .wrongState)
  else (enterStarting r b, okWith .empty)

/-- Roll Call (R158). -/
def rollCall (r : Nat) (b : Blocks) : Blocks × Answer :=
  if 3 < r then (b, refuse .outOfRange)
  else if !(b.riser r).state.framing then (b, refuse .wrongState)
  else if (b.riser r).rollCall = .running then (b, refuse .busy)
  else (startRollCall r b, okWith .empty)

/-- Riser Report (R153). -/
def riserReport (r : Nat) (b : Blocks) : Blocks × Answer :=
  if 3 < r then (b, refuse .outOfRange) else (b, okWith (.riser (b.riserView r)))

/-- The retry timer reaches 1,000 ms: entry into Starting from Faulted, with the shortened stage 1 of R140. -/
def retryExpiry (r : Nat) (b : Blocks) : Blocks :=
  match (b.riser r).state, (b.riser r).retryFrom with
  | .faulted, some t =>
    let b1 := b.advanceTo (t + Config.retryMs * 1000)
    beginFrames r (Config.lineHeld r b1.ownUs) (b1.updateRiser r (fun x => { x with retryFrom := none }))
  | _, _ => b

/-! ## Tallies and notices (R146, R147) -/

/-- A good tally reply is taken for a zone (R146). -/
def takeTally (z : Nat) (flags : TallyStatus) (b : Blocks) : Blocks :=
  match b.zone? z with
  | none => b
  | some c =>
    if c.node.live then
      let b1 := setNode z .ready (b.setZone z (some { c with age := 0, tally := flags }))
      let b2 := if (flags.driverFault && !c.tally.driverFault) || (flags.overheat && !c.tally.overheat)
        then b1.report (.zone z) .nodeFault else b1
      if flags.localOverride && !c.tally.localOverride then b2.report (.zone z) .localOverride else b2
    else b

/-- What arrives in the tally window (R146): a good reply of the target is taken, and any other changes nothing. -/
def tallyReply (r : Nat) (reply : List Byte) (b : Blocks) : Blocks :=
  match (b.riser r).phase, (b.riser r).lastFrame with
  | .tally, some f =>
    if f.target = 0 then b
    else
      match readTally f.sequence reply with
      | none => b
      | some flags =>
        let b1 := b.updateRiser r (fun x => { x with phase := .tallied })
        match b1.zoneAt r f.target with
        | some z => takeTally z flags b1
        | none => b1
  | _, _ => b

/-- Whether the notice window may still open in this frame period: the tally window has not been followed by it (section
8.2). -/
def Phase.beforeNotice : Phase → Bool
  | .tally | .tallied => true
  | _ => false

/-- Whether the notice window is opened (R147). -/
def Riser.noticeOpens (x : Riser) : Bool := x.queueOpen && !x.queue.any (fun e => decide (e.kind = .noticeRead))

/-- The notice window's result (R147). -/
def noticeResult (r : Nat) (contender : Option Nat) (b : Blocks) : Blocks :=
  match contender with
  | none => b
  | some 0 => if (b.riser r).rollCall = .idle then startRollCall r b else b
  | some s => joinQueue r ⟨.noticeRead, s, 0⟩ b

/-- The notice window ends with its result (R147) (assumption log 43). -/
def noticeWindow (r : Nat) (contender : Option Nat) (b : Blocks) : Blocks :=
  let x := b.riser r
  if x.phase.beforeNotice && x.noticeOpens && decide (contender.getD 0 ≤ Config.riserSlots) then
    noticeResult r contender (b.updateRiser r (fun y => { y with phase := .noticed }))
  else b

/-! ## The joint profile (R162) -/

/-- What the profile's outcome does to the rate: refused for rate, or accepted with the pending rate that it leaves. -/
inductive RateAnswer where
  | refused
  | accepted (pending : Option Rate)
deriving DecidableEq, Repr

/-- The rate's part of the outcome (R162 steps 2 and 3): `others` are the rates that every other Ready or Lagging node on the
riser offers. -/
def rateAnswer (x : Riser) (offered others : List Rate) : RateAnswer :=
  let effective := x.pending.getD x.rate
  match x.policy with
  | .keep => if effective ∈ offered then .accepted x.pending else .refused
  | .lower =>
    let set := allRates.filter (fun q => decide (q ∈ offered) && decide (q ∈ others))
    if effective ∈ set then .accepted x.pending
    else
      match highestRate effective.perSecond set with
      | some q => .accepted (some q)
      | none => .refused

/-- Whether an offer's class suits a zone: a protected zone needs a Beacon node, any other a Facade node (R162). -/
def classSuits (isProtected : Bool) (k : NodeClass) : Bool :=
  match k with
  | .beacon => isProtected
  | .facade => !isProtected

/-- The profile with its outcome, and the pending rate that it leaves (R162). -/
def jointProfile (x : Riser) (others : List Rate) (c : Zone) (o : Offer) : Profile × Option Rate :=
  let p : Profile :=
    { layout := o.layout, offered := o.effects, local_ := o.effects.filter (fun k => decide (k ∈ c.permitted)),
      rates := o.rates, class_ := o.class_, refused := none }
  if !classSuits c.isProtected o.class_ then ({ p with refused := some .class_ }, x.pending)
  else
    match rateAnswer x o.rates others with
    | .refused => ({ p with refused := some .rate }, x.pending)
    | .accepted q => (p, q)

/-- The assignment of a zone (R160). -/
def assignZone (r z : Nat) (o : Offer) (c : Zone) (b : Blocks) : Blocks :=
  let j := jointProfile (b.riser r) (b.commonRates ((b.liveOn r).filter (fun y => y != z))) c o
  let b1 := b.updateRiser r (fun x => { x with pending := j.2 })
  let b2 := b1.updateZone z (fun y => { y with profile := some j.1, age := 0, tally := clearTally })
  setNode z (if j.1.refused.isNone then .ready else .refused) (setFault z none b2)

/-! ## Rounds (R159, R160, R161) -/

/-- The zone configured on a riser whose expected serial is the winner's (R160). -/
def Blocks.expecting (b : Blocks) (r serial : Nat) : Option Nat :=
  (b.zonesOn r).find? (fun z => decide ((b.zone? z).bind (fun c => c.serial) = some serial))

/-- A directed message is sent, and the frame period stands at a phase. -/
def sendDirected (r : Nat) (m : Directed) (p : Phase) (b : Blocks) : Blocks :=
  b.updateRiser r (fun x => { x with sent := some m, phase := p })

/-- The winner is a stranger and is stood by (R160). -/
def standBy (r serial : Nat) (b : Blocks) : Blocks :=
  ((sendDirected r (.standBy serial) .done b).updateRiser r (fun x => { x with stranger := some serial })).report
    (.riser r) .stranger

/-- The round ends: its count rises, its entry leaves the head, the decision's Set Fallback joins the tail and a new round
entry joins behind it (R160). -/
def nextRound (fallback : Option Exchange) (x : Riser) : Riser :=
  { x with rounds := x.rounds + 1, round := .contention, queue := x.queue.tail ++ fallback.toList ++ [roundEntry] }

/-- The round's decision is taken (R160). -/
def decideRound (r serial : Nat) (offer : Option Offer) (b : Blocks) : Blocks :=
  match offer, (b.expecting r serial).bind (fun z => (b.zone? z).map (fun c => (z, c))) with
  | some o, some (z, c) =>
    let b1 := sendDirected r (.assign serial c.slot) .done b
    let b2 := if c.node = .lost then b1 else assignZone r z o c b1
    b2.updateRiser r (nextRound (some ⟨.setFallback c.fallback, c.slot, 0⟩))
  | _, _ => (standBy r serial b).updateRiser r (nextRound none)

/-- A roll call ends normally (R161). -/
def finishRollCall (r : Nat) (b : Blocks) : Blocks :=
  let b1 := (b.updateRiser r endRollCall).report (.riser r) .rollCallDone
  if (b1.riser r).state = .starting then enterRiserState r .running b1 else b1

/-- The contention of a round (R159): Roll Call is sent to slot 0; with a winner the round holds its serial, with none the roll
call ends. -/
def contend (r : Nat) (winner : Option SerialWord) (b : Blocks) : Blocks :=
  let b1 := sendDirected r .rollCall .done b
  match winner with
  | some w => b1.updateRiser r (fun x => { x with round := .offering w.toNat })
  | none => finishRollCall r b1

/-- A round entry at the head is served (R159, R160). -/
def serveRound (r : Nat) (winner : Option SerialWord) (b : Blocks) : Blocks :=
  match (b.riser r).round with
  | .contention => contend r winner b
  | .offering _ => sendDirected r .offerRequest .exchanging b
  | .deciding serial offer => decideRound r serial offer b

/-! ## The directed window (R149, R150) -/

/-- Whether the directed window is still to come in this frame period (section 8.2). -/
def Phase.beforeDirected : Phase → Bool
  | .tally | .tallied | .noticed => true
  | _ => false

/-- The entry at the head of a riser's directed queue leaves it. -/
def dropHead (r : Nat) (b : Blocks) : Blocks := b.updateRiser r (fun x => { x with queue := x.queue.tail })

/-- The directed window serves the head entry of the queue (R149). -/
def directedWindow (r : Nat) (winner : Option SerialWord) (b : Blocks) : Blocks :=
  let x := b.riser r
  if !x.phase.beforeDirected then b
  else
    match x.queue with
    | [] => b.updateRiser r (fun y => { y with phase := .done })
    | e :: _ =>
      match e.kind with
      | .noticeRead => sendDirected r (.noticeRead e.slot) .exchanging b
      | .setFallback colour => sendDirected r (.setFallback e.slot colour) .exchanging b
      | .resetNode => dropHead r (sendDirected r (.resetNode e.slot) .done b)
      | .round => serveRound r winner b

/-- The directed window of a riser ends: no exchange waits for a reply any more. -/
def endWindow (r : Nat) (b : Blocks) : Blocks := b.updateRiser r (fun x => { x with phase := .done })

/-- The entry whose reply a riser waits for, if any. -/
def Riser.waitingFor (x : Riser) : Option Exchange := if x.phase = .exchanging then x.queue.head? else none

/-- The attempt count of the head entry rises by 1 (R149, R159). -/
def raiseAttempt (x : Riser) : Riser :=
  match x.queue with
  | [] => x
  | e :: es => { x with queue := { e with attempts := e.attempts + 1 } :: es }

/-- What the third failure of an exchange leaves (R150). -/
def failExchange (r : Nat) (e : Exchange) (b : Blocks) : Blocks :=
  match e.kind, b.zoneAt r e.slot with
  | .setFallback _, some z => unconfirmedFallback z b
  | _, _ => b

/-- The reply to a Set Fallback or a Notice Read is missing when the window ends, or is not good (R149) (assumption log 31). -/
def attemptFailed (r : Nat) (b : Blocks) : Blocks :=
  match (b.riser r).waitingFor with
  | none => b
  | some e =>
    if decide (e.kind = .round) || decide (e.kind = .resetNode) then b
    else if e.attempts + 1 < 3 then (endWindow r b).updateRiser r raiseAttempt
    else failExchange r e (dropHead r (endWindow r b))

/-- A reported fault code as it is recorded: absent for 0 (R150). -/
def reportedCode (code : Nat) : Option Nat := if code = 0 then none else some code

/-- What arrives in answer to a Notice Read (R150). -/
def noticeReply (r : Nat) (reply : List Byte) (b : Blocks) : Blocks :=
  match (b.riser r).waitingFor with
  | some ⟨.noticeRead, slot, _⟩ =>
    match readNotice slot reply with
    | none => b
    | some code =>
      let b1 := dropHead r (endWindow r b)
      match b1.zoneAt r slot with
      | some z => setFault z (reportedCode code) b1
      | none => b1
  | _ => b

/-- What arrives in answer to a Set Fallback (R150). -/
def fallbackReply (r : Nat) (reply : List Byte) (b : Blocks) : Blocks :=
  match (b.riser r).waitingFor with
  | some ⟨.setFallback _, slot, _⟩ =>
    if readFallback slot reply then
      let b1 := dropHead r (endWindow r b)
      match b1.zoneAt r slot with
      | some z => if (b1.zone? z).any (fun c => decide (c.fault = some 255)) then setFault z none b1 else b1
      | none => b1
    else b
  | _ => b

/-- The winner whose offer a riser waits for, if any (R159). -/
def Riser.awaitedWinner (x : Riser) : Option Nat :=
  match x.waitingFor, x.round with
  | some ⟨.round, _, _⟩, .offering w => some w
  | _, _ => none

/-- What arrives in answer to an Offer Request (R159): a good offer is stored with the round. -/
def offerReply (r : Nat) (reply : List Byte) (b : Blocks) : Blocks :=
  match (b.riser r).awaitedWinner with
  | none => b
  | some w =>
    match readOffer w reply with
    | none => b
    | some o => (endWindow r b).updateRiser r (fun x => { x with round := .deciding w (some o) })

/-- The offer is missing when the window ends, or is not good (R159): after the third failure the round goes to its decision
with no offer, its attempt count left at 2, the highest of R148 (assumption log 50). -/
def offerFailed (r : Nat) (b : Blocks) : Blocks :=
  match (b.riser r).awaitedWinner, (b.riser r).queue with
  | some w, e :: _ =>
    (endWindow r b).updateRiser r (if e.attempts + 1 < 3 then raiseAttempt else fun x => { x with round := .deciding w none })
  | _, _ => b

/-! ## The requests' rows and the events -/

/-- CONFIGURE_RISER (R139). -/
def execConfigureRiser (s : State) : Host.Outcome State Fault Refusal :=
  .next (serve 15 (onFields (fun f b => match f with
    | .configureRiser r body => configureRiser r body b
    | _ => (b, refuse .malformed))) s)

/-- RISER_RESET (R140). -/
def execRiserReset (s : State) : Host.Outcome State Fault Refusal :=
  .next (serve 16 (onFields (fun f b => match f with
    | .riserReset r => riserReset r b
    | _ => (b, refuse .malformed))) s)

/-- ROLL_CALL (R158). -/
def execRollCall (s : State) : Host.Outcome State Fault Refusal :=
  .next (serve 17 (onFields (fun f b => match f with
    | .rollCall r => rollCall r b
    | _ => (b, refuse .malformed))) s)

/-- RISER_REPORT (R153). -/
def execRiserReport (s : State) : Host.Outcome State Fault Refusal :=
  .next (serve 18 (onFields (fun f b => match f with
    | .riserReport r => riserReport r b
    | _ => (b, refuse .malformed))) s)

/-- FRAME_SEND (R141). -/
def execFrameSend (r : Fin 4) (s : State) : Host.Outcome State Fault Refusal := .next (s.mapBlocks (nextFrame r.val))

/-- TALLY_REPLY (R146). -/
def execTallyReply (r : Fin 4) (reply : List Byte) (s : State) : Host.Outcome State Fault Refusal :=
  .next (s.mapBlocks (tallyReply r.val reply))

/-- NOTICE_WINDOW (R147). -/
def execNoticeWindow (r : Fin 4) (contender : Option Nat) (s : State) : Host.Outcome State Fault Refusal :=
  .next (s.mapBlocks (noticeWindow r.val contender))

/-- DIRECTED_WINDOW (R149). -/
def execDirectedWindow (r : Fin 4) (winner : Option SerialWord) (s : State) : Host.Outcome State Fault Refusal :=
  .next (s.mapBlocks (directedWindow r.val winner))

/-- DIRECTED_ATTEMPT_FAILED (R149). -/
def execDirectedAttemptFailed (r : Fin 4) (s : State) : Host.Outcome State Fault Refusal :=
  .next (s.mapBlocks (attemptFailed r.val))

/-- NOTICE_READ (R150). -/
def execNoticeRead (r : Fin 4) (reply : List Byte) (s : State) : Host.Outcome State Fault Refusal :=
  .next (s.mapBlocks (noticeReply r.val reply))

/-- SET_FALLBACK (R150). -/
def execSetFallback (r : Fin 4) (reply : List Byte) (s : State) : Host.Outcome State Fault Refusal :=
  .next (s.mapBlocks (fallbackReply r.val reply))

/-- OFFER (R159). -/
def execOffer (r : Fin 4) (reply : List Byte) (s : State) : Host.Outcome State Fault Refusal :=
  .next (s.mapBlocks (offerReply r.val reply))

/-- OFFER_MISSING_OR_NOT_GOOD (R159). -/
def execOfferMissingOrNotGood (r : Fin 4) (s : State) : Host.Outcome State Fault Refusal :=
  .next (s.mapBlocks (offerFailed r.val))

/-- LINE_FAULT (R151). -/
def execLineFault (r : Fin 4) (s : State) : Host.Outcome State Fault Refusal := .next (s.mapBlocks (lineFault r.val))

/-- RETRY_TIMER_EXPIRY (R151). -/
def execRetryTimerExpiry (r : Fin 4) (s : State) : Host.Outcome State Fault Refusal := .next (s.mapBlocks (retryExpiry r.val))

end Sys2Proof.Machine
end

