-- ==== Sys2Proof/Machine/Settings.lean ====
section
/-! DEFINITION. The Level Chain's requests and the curfew's two passages (R102, R103, R107 to R109). -/

namespace Sys2Proof.Machine

/-- Set Curfew (R102, R103): the settings are replaced, an opening or a closing is taken if the window passes, and a window
that stays open under a lower K lowers to it. -/
def setCurfew (body : CurfewBody) (b : Blocks) : Blocks × Answer :=
  let store := fun (c : Option Curfew) =>
    let b1 : Blocks := { b with chain := { b.chain with curfew := c } }
    let b2 := followWindow b1
    let b3 := if b.chain.windowOpen && b2.chain.windowOpen && decide (b1.curfewCeiling < b.curfewCeiling)
      then lowerNonExempt b2 else b2
    (b3, okWith (.curfewWindow b3.chain.windowOpen))
  match body with
  | .off => store none
  | .window a e k barred =>
    if !(decide (a ≤ 1439) && decide (e ≤ 1439) && decide (k ≤ 1000) && !decide (.static ∈ barred)) then (b, refuse .outOfRange)
    else store (some ⟨a, e, k, [StepKind.pulse, .chase, .sparkle, .sweep].filter (fun x => decide (x ∈ barred))⟩)

/-- The ambient settings with the carried values laid over the current ones (R107). -/
def overlayAmbient (x : AmbientBody) (a : Ambient) : Ambient :=
  { gmin := x.gmin.getD a.gmin, gmax := x.gmax.getD a.gmax, aref := x.aref.getD a.aref, sFast := x.sFast.getD a.sFast,
    sSlow := x.sSlow.getD a.sSlow, settle := x.settle.getD a.settle }

/-- Whether ambient settings lie in their ranges (R107). -/
def ambientInRange (a : Ambient) : Bool :=
  decide (128 ≤ a.gmin) && decide (a.gmin ≤ 4096) && decide (128 ≤ a.gmax) && decide (a.gmax ≤ 4096) && decide (a.aref ≤ 4095) &&
    decide (1 ≤ a.sFast) && decide (a.sFast ≤ 255) && decide (1 ≤ a.sSlow) && decide (a.sSlow ≤ 255) && decide (a.settle ≤ 255) &&
    decide (a.gmin ≤ a.gmax)

/-- A face under new gain limits (R107). -/
def clampFace (a : Ambient) (x : Face) : Face := { x with gain := clampGain a.gmin a.gmax x.gain }

/-- Set Ambient (R107). -/
def setAmbient (x : AmbientBody) (b : Blocks) : Blocks × Answer :=
  let a := overlayAmbient x b.chain.ambient
  if !ambientInRange a then (b, refuse .outOfRange)
  else
    let moved := decide (a.gmin ≠ b.chain.ambient.gmin) || decide (a.gmax ≠ b.chain.ambient.gmax)
    let faces := if moved then b.chain.faces.map (clampFace a) else b.chain.faces
    let b1 : Blocks := { b with chain := { b.chain with ambient := a, faces := faces } }
    let b2 := if x.resettle then reloadSettle b1 else b1
    (b2, okWith (.gains (b2.chain.faces.map (fun f => f.gain))))

/-- Set Hold Look (R108). -/
def setHoldLook (l : Levels) (b : Blocks) : Blocks × Answer :=
  if !levelsWithin 1000 l then (b, refuse .outOfRange)
  else
    let b1 : Blocks := { b with chain := { b.chain with holdLook := l } }
    (if b1.panelHold then defaultHandovers b1.showable b1 else b1, okWith .empty)

/-- Configure Schedule (R109); a changed arm lead arms the entries that now lie within it (R35). -/
def configureSchedule (lead handover : Option Nat) (b : Blocks) : Blocks × Answer :=
  let l := lead.getD b.armLead
  let h := handover.getD b.chain.defaultHandover
  if (lead.isSome && decide (120 < l)) || (handover.isSome && decide (5000 < h)) then (b, refuse .outOfRange)
  else
    let b1 : Blocks := { b with armLead := l, chain := { b.chain with defaultHandover := h } }
    (if l = b.armLead then b1 else armDue b1, okWith (.schedule l h))

/-- CURFEW_OPENING (R103): the window, closed until now, is due to be open. -/
def execCurfewOpening (s : State) : Host.Outcome State Fault Refusal :=
  .next (s.mapBlocks (fun b => if b.windowDue && !b.chain.windowOpen then openWindow b else b))

/-- CURFEW_CLOSING (R103): the window, open until now, is due to be closed. -/
def execCurfewClosing (s : State) : Host.Outcome State Fault Refusal :=
  .next (s.mapBlocks (fun b => if !b.windowDue && b.chain.windowOpen then closeWindow b else b))

/-- SET_CURFEW (R102). -/
def execSetCurfew (s : State) : Host.Outcome State Fault Refusal :=
  .next (serve 25 (onFields (fun f b => match f with
    | .setCurfew body => setCurfew body b
    | _ => (b, refuse .malformed))) s)

/-- SET_AMBIENT (R107). -/
def execSetAmbient (s : State) : Host.Outcome State Fault Refusal :=
  .next (serve 26 (onFields (fun f b => match f with
    | .setAmbient body => setAmbient body b
    | _ => (b, refuse .malformed))) s)

/-- SET_HOLD_LOOK (R108). -/
def execSetHoldLook (s : State) : Host.Outcome State Fault Refusal :=
  .next (serve 27 (onFields (fun f b => match f with
    | .setHoldLook look => setHoldLook look b
    | _ => (b, refuse .malformed))) s)

/-- CONFIGURE_SCHEDULE (R109). -/
def execConfigureSchedule (s : State) : Host.Outcome State Fault Refusal :=
  .next (serve 28 (onFields (fun f b => match f with
    | .configureSchedule lead handover => configureSchedule lead handover b
    | _ => (b, refuse .malformed))) s)

/-- CHAIN_REPORT (R109). -/
def execChainReport (s : State) : Host.Outcome State Fault Refusal :=
  .next (serve 29 (onFields (fun f b => match f with
    | .chainReport => (b, okWith (.chain b.chainView))
    | _ => (b, refuse .malformed))) s)

end Sys2Proof.Machine
end

