-- ==== Sys2Proof/Machine/Dispatch.lean ====
section
/-! DEFINITION. The meaning of each command, one arm for each row of spec/opcode_table.json. -/

namespace Sys2Proof.Machine

/-- The effect of a command on everything but the queue of commands. -/
def exec (i : Instr) (s : State) : Host.Outcome State Fault Refusal :=
  match i with
  | .fullReset => Sys2Proof.Machine.execFullReset s
  | .sendRequest r => Sys2Proof.Machine.execSendRequest r s
  | .fetchReply whole => Sys2Proof.Machine.execFetchReply whole s
  | .fetchNotice whole => Sys2Proof.Machine.execFetchNotice whole s
  | .portStatus => Sys2Proof.Machine.execPortStatus s
  | .unknownTransactionKind kind => Sys2Proof.Machine.execUnknownTransactionKind kind s
  | .portMalformedRefusal => Sys2Proof.Machine.execPortMalformedRefusal s
  | .book => Sys2Proof.Machine.execBook s
  | .amend => Sys2Proof.Machine.execAmend s
  | .withdraw => Sys2Proof.Machine.execWithdraw s
  | .lookUp => Sys2Proof.Machine.execLookUp s
  | .listUpcoming => Sys2Proof.Machine.execListUpcoming s
  | .forecast => Sys2Proof.Machine.execForecast s
  | .entryArmed number => Sys2Proof.Machine.execEntryArmed number s
  | .occurrenceStart => Sys2Proof.Machine.execOccurrenceStart s
  | .occurrenceEnd number => Sys2Proof.Machine.execOccurrenceEnd number s
  | .panelHoldAssertion => Sys2Proof.Machine.execPanelHoldAssertion s
  | .panelHoldRelease => Sys2Proof.Machine.execPanelHoldRelease s
  | .programOpen => Sys2Proof.Machine.execProgramOpen s
  | .programSteps => Sys2Proof.Machine.execProgramSteps s
  | .programClose => Sys2Proof.Machine.execProgramClose s
  | .programRemove => Sys2Proof.Machine.execProgramRemove s
  | .programReport => Sys2Proof.Machine.execProgramReport s
  | .renderStart => Sys2Proof.Machine.execRenderStart s
  | .renderTimerExpiryLost => Sys2Proof.Machine.execRenderTimerExpiryLost s
  | .renderCompletion => Sys2Proof.Machine.execRenderCompletion s
  | .curfewOpening => Sys2Proof.Machine.execCurfewOpening s
  | .curfewClosing => Sys2Proof.Machine.execCurfewClosing s
  | .setCurfew => Sys2Proof.Machine.execSetCurfew s
  | .setAmbient => Sys2Proof.Machine.execSetAmbient s
  | .setHoldLook => Sys2Proof.Machine.execSetHoldLook s
  | .configureSchedule => Sys2Proof.Machine.execConfigureSchedule s
  | .chainReport => Sys2Proof.Machine.execChainReport s
  | .civilTick => Sys2Proof.Machine.execCivilTick s
  | .midnight => Sys2Proof.Machine.execMidnight s
  | .pulseEdge elapsed => Sys2Proof.Machine.execPulseEdge elapsed s
  | .holdoverTimeout => Sys2Proof.Machine.execHoldoverTimeout s
  | .edgeCounterSaturation => Sys2Proof.Machine.execEdgeCounterSaturation s
  | .pendingMarkExpiry => Sys2Proof.Machine.execPendingMarkExpiry s
  | .markTime => Sys2Proof.Machine.execMarkTime s
  | .setCalendarBase => Sys2Proof.Machine.execSetCalendarBase s
  | .timeReport => Sys2Proof.Machine.execTimeReport s
  | .loadAlmanac => Sys2Proof.Machine.execLoadAlmanac s
  | .cueWord checked time running => Sys2Proof.Machine.execCueWord checked time running s
  | .silenceTimeout => Sys2Proof.Machine.execSilenceTimeout s
  | .followAgain => Sys2Proof.Machine.execFollowAgain s
  | .cueReport => Sys2Proof.Machine.execCueReport s
  | .configureRiser => Sys2Proof.Machine.execConfigureRiser s
  | .riserReset => Sys2Proof.Machine.execRiserReset s
  | .rollCall => Sys2Proof.Machine.execRollCall s
  | .riserReport => Sys2Proof.Machine.execRiserReport s
  | .frameSend riser => Sys2Proof.Machine.execFrameSend riser s
  | .tallyReply riser reply => Sys2Proof.Machine.execTallyReply riser reply s
  | .noticeWindow riser contender => Sys2Proof.Machine.execNoticeWindow riser contender s
  | .directedWindow riser winner => Sys2Proof.Machine.execDirectedWindow riser winner s
  | .directedAttemptFailed riser => Sys2Proof.Machine.execDirectedAttemptFailed riser s
  | .noticeRead riser reply => Sys2Proof.Machine.execNoticeRead riser reply s
  | .setFallback riser reply => Sys2Proof.Machine.execSetFallback riser reply s
  | .offer riser reply => Sys2Proof.Machine.execOffer riser reply s
  | .lineFault riser => Sys2Proof.Machine.execLineFault riser s
  | .retryTimerExpiry riser => Sys2Proof.Machine.execRetryTimerExpiry riser s
  | .configureZone => Sys2Proof.Machine.execConfigureZone s
  | .clearNode => Sys2Proof.Machine.execClearNode s
  | .zoneReport => Sys2Proof.Machine.execZoneReport s
  | .calibrationEnd => Sys2Proof.Machine.execCalibrationEnd s
  | .sensorScan channel first second => Sys2Proof.Machine.execSensorScan channel first second s
  | .readChannel => Sys2Proof.Machine.execReadChannel s
  | .idleTimerExpiry feeder => Sys2Proof.Machine.execIdleTimerExpiry feeder s
  | .recloseFeeder => Sys2Proof.Machine.execRecloseFeeder s
  | .setOutput => Sys2Proof.Machine.execSetOutput s
  | .configureFeeder => Sys2Proof.Machine.execConfigureFeeder s
  | .feederReport => Sys2Proof.Machine.execFeederReport s
  | .setNoticeMask => Sys2Proof.Machine.execSetNoticeMask s
  | .restartSchedule => Sys2Proof.Machine.execRestartSchedule s
  | .offerMissingOrNotGood riser => Sys2Proof.Machine.execOfferMissingOrNotGood riser s

end Sys2Proof.Machine
end

