-- ==== Sys2Proof/Safety.lean ====
section
/-! DEFINITION. The words that the claims are stated in: which row takes which request, a request at the head of its queue, the
state with a request answered, and what a safe state keeps from step to step. -/

namespace Sys2Proof.Machine

/-- The request kind that a request's row takes (section 11.5). -/
def requestKind : Instr → Option Nat
  | .book => some 1 | .amend => some 2 | .withdraw => some 3 | .lookUp => some 4 | .listUpcoming => some 5
  | .forecast => some 6 | .programOpen => some 7 | .programSteps => some 8 | .programClose => some 9
  | .programRemove => some 10 | .programReport => some 11 | .configureZone => some 12 | .clearNode => some 13
  | .zoneReport => some 14 | .configureRiser => some 15 | .riserReset => some 16 | .rollCall => some 17
  | .riserReport => some 18 | .markTime => some 19 | .setCalendarBase => some 20 | .timeReport => some 21
  | .loadAlmanac => some 22 | .followAgain => some 23 | .cueReport => some 24 | .setCurfew => some 25
  | .setAmbient => some 26 | .setHoldLook => some 27 | .configureSchedule => some 28 | .chainReport => some 29
  | .configureFeeder => some 30 | .setOutput => some 31 | .recloseFeeder => some 32 | .feederReport => some 33
  | .readChannel => some 34 | .setNoticeMask => some 35 | .restartSchedule => some 36
  | _ => none

/-- Whether a command acts on the Request Port itself: a transaction, the port's own refusal, or the full reset. -/
def actsOnPort : Instr → Bool
  | .fullReset | .sendRequest _ | .fetchReply _ | .fetchNotice _ | .portStatus | .unknownTransactionKind _
  | .portMalformedRefusal => true
  | _ => false

/-- A request that passes the port's own checks stands at the head of its queue, and the port may take it (R177). -/
def Asks (s : State) (r : Request) : Prop :=
  s.port.requests.head? = some r ∧ s.port.replies.length < 4 ∧ requestAcceptable r = true

/-- Such a request, with the fields that it carries. -/
def AsksFor (s : State) (r : Request) (f : RequestFields) : Prop := Asks s r ∧ r.body = .fields f

/-- The state with the head request answered and the blocks as given (R177). -/
def replied (s : State) (r : Request) (b : Blocks) (a : Answer) : State :=
  { pending := s.pending
    blocks := b
    port :=
      { s.port with
        requests := s.port.requests.tail
        replies := s.port.replies ++
          [{ kind := r.kind, tag := r.tag, status := a.status, warnings := a.warnings, body := a.body }] } }

/-- What a transaction leaves of the port's output and not-taken flag (R175). -/
def clocked (s : State) (payload : SpiPayload) : Port := { s.port with notTaken := false, out := ⟨statusByte s, payload⟩ }

/-- No level exceeds a ceiling. -/
def Capped (k : Nat) (l : Levels) : Prop := l.r ≤ k ∧ l.g ≤ k ∧ l.b ≤ k ∧ l.w ≤ k

/-- A zone's record once a handover of the schedule default has started on it, `b` being the blocks at that moment (R99,
R101). -/
def handedOver (b : Blocks) (z : Nat) (c : Zone) : Zone :=
  let last := if b.chain.windowOpen && !b.sourceExempt z then capLevels b.curfewCeiling c.last else c.last
  { c with last := last, handover := some ⟨keepLayout c.layout last, c.layout, b.chain.defaultHandover, b.ownMs⟩ }

/-- What a facade-wide handover leaves of a zone: a protected zone and one that is not configured keep what they have. -/
def handedOver? (b : Blocks) (z : Nat) : Option Zone :=
  (b.zone? z).map (fun c => if c.isProtected then c else handedOver b z c)

/-! ## Bodies -/

/-- Whether a step's fields lie in the ranges of R73, and its offset within a program's length (R76). -/
def StepFits (length : Nat) (y : Step) : Prop :=
  y.low ≤ y.high ∧ y.high ≤ 255 ∧ y.offset ≤ length ∧ Capped 1000 y.colour ∧
    match y.effect with
    | .static fade => fade ≤ 60000
    | .pulse on off => 20 ≤ on ∧ on ≤ 10000 ∧ off ≤ 10000
    | .chase period width speed _ => 2 ≤ period ∧ period ≤ 256 ∧ 1 ≤ width ∧ width < period ∧ 1 ≤ speed ∧ speed ≤ 100
    | .sparkle density => 1 ≤ density ∧ density ≤ 100
    | .sweep cycle => 500 ≤ cycle ∧ cycle ≤ 60000

/-- A step as Program Steps carries it. -/
def carriedStep (y : Step) : StepBody := ⟨y.offset, y.low, y.high, .known y.effect, y.colour⟩

/-- Whether an anchor of a kind 0 Clock, 1 Sunset or 2 Sunrise lies in its range (R2). -/
def AnchorFits (kind : Nat) (value : BitVec 32) : Prop :=
  (kind = 0 ∧ value.toNat < 86400000) ∨ ((kind = 1 ∨ kind = 2) ∧ -720 ≤ value.toInt ∧ value.toInt ≤ 720)

/-- Whether the fields of a booking body lie in the ranges of R2 and R3. The model's choices: bit 7 of the weekday byte lies outside
its range (assumption log 9), and so does a flag other than 0 and 1 (assumption log 51). -/
def BodyFits (x : BookingBody) : Prop :=
  x.tier.toNat ≤ 4 ∧ x.kind.toNat ≤ 2 ∧ (1 ≤ x.kind.toNat → x.first.toNat ≤ x.last.toNat) ∧
    (x.kind.toNat = 2 → 1 ≤ x.weekdays.toNat ∧ x.weekdays.toNat ≤ 127) ∧ AnchorFits x.startKind.toNat x.startValue ∧
    (x.endKind.toNat = 0 → 1 ≤ x.endValue.toNat ∧ x.endValue.toNat ≤ 64800) ∧
    (1 ≤ x.endKind.toNat → AnchorFits (x.endKind.toNat - 1) x.endValue) ∧ x.program.toNat ≤ 63 ∧ x.zones ≠ 0 ∧
    x.ceiling.toNat ≤ 1000 ∧ x.exempt.toNat ≤ 1 ∧ (x.exempt.toNat = 1 → x.tier.toNat = 2 ∨ x.tier.toNat = 3) ∧
    x.followFlag.toNat ≤ 1 ∧ (x.followFlag.toNat = 1 → x.follow.toNat ≤ 86399999) ∧ x.handoverFlag.toNat ≤ 1 ∧
    (x.handoverFlag.toNat = 1 → x.handover.toNat ≤ 5000)

/-! ## The curfew window -/

/-- Every configured non-protected zone whose source is not exempt is lowered to k in the latest render, the last dispatched levels
and the handover's from-levels, and every other zone keeps its own (R103). -/
def LoweredTo (k : Nat) (a b : Blocks) : Prop :=
  (∀ (z : Nat) (c : Zone), a.zone? z = some c → c.isProtected = false → a.sourceExempt z = false →
    b.zone? z = some { c with
      last := capLevels k c.last
      handover := c.handover.map (fun h => { h with from_ := capLevels k h.from_ }) } ∧
    b.latestOf z = (a.latestOf z).cap k) ∧
  ∀ z, (a.showable z = false ∨ a.sourceExempt z = true) → b.zone? z = a.zone? z ∧ b.latestOf z = a.latestOf z

/-- Curfew settings are stored (R102, R103): the window stands as now and the settings put it. An opening lowers the zones to the new
K, and so does a lower K under a window that stays open; a closing hands over the zones whose source is not exempt; the Curfew Active
line follows an opening and a closing; nothing else changes. -/
def CurfewStored (a b : Blocks) (c : Option Curfew) : Prop :=
  let stored : Blocks := { a with chain := { a.chain with curfew := c } }
  b = { stored with
    zones := b.zones
    chain := { stored.chain with windowOpen := stored.windowDue, latest := b.chain.latest, flight := b.chain.flight }
    curfewActive := { a.curfewActive with output :=
      if a.chain.windowOpen = stored.windowDue then a.curfewActive.output
      else match a.curfewActive.source with | .schedule => stored.windowDue | .operator => a.curfewActive.command } } ∧
  (stored.windowDue = true → b.chain.flight = a.chain.flight ∧
    ((a.chain.windowOpen = false ∨ stored.curfewCeiling < a.curfewCeiling) → LoweredTo stored.curfewCeiling a b) ∧
    (a.chain.windowOpen = true → a.curfewCeiling ≤ stored.curfewCeiling →
      b.zones = a.zones ∧ b.chain.latest = a.chain.latest)) ∧
  (stored.windowDue = false → b.chain.latest = a.chain.latest ∧
    (a.chain.windowOpen = false → b.zones = a.zones ∧ b.chain.flight = a.chain.flight) ∧
    (a.chain.windowOpen = true →
      (∀ z, b.zone? z = if a.sourceExempt z then a.zone? z
        else handedOver? { stored with chain := { stored.chain with windowOpen := false } } z) ∧
      b.chain.flight = a.chain.flight.map (fun fl => { fl with rewritten :=
        (allZones.filter (fun z => a.showable z && !a.sourceExempt z)).reverse ++ fl.rewritten })))

/-! ## Risers, zones and notices -/

/-- A change of a kind that is not masked stands in the Notice List against its record (R180). -/
def Told (b : Blocks) (r : RecordId) (k : ChangeKind) : Prop :=
  k ∈ b.mask → ∃ e ∈ b.notices, e.record = r ∧ k ∈ e.changes

/-- Nothing changes but what the Riser Controllers, the Zone Directory and Feeder Control write, and the own count. -/
def OnlyRisers (a b : Blocks) : Prop :=
  b = { a with ownUs := b.ownUs, zones := b.zones, risers := b.risers, feeders := b.feeders, notices := b.notices }

/-- A zone whose node has dropped its address: a zone that is not Vacant becomes Absent (R139, R140). -/
def addressDropped (allCall : Bool) (c : Zone) : Zone :=
  if c.node = .vacant then c
  else { c with node := .absent, age := 0, profile := none, tally := if allCall then ⟨false, false, false⟩ else c.tally }

/-- A riser's record at the end of its entry into Starting from Off or by Riser Reset (R140, R141, R158): with no live node on
it the common rate set is all four rates, so the maximum rate is applied at the first frame send. -/
def startedRiser (x : Riser) (own : Nat) : Riser :=
  { x with
    state := .starting
    rate := x.maxRate
    pending := none
    sequence := (x.sequence + 1) % 256
    queue := [⟨.round, 0, 0⟩]
    rollCall := .running
    rounds := 0
    round := .contention
    cursor := 0
    lastFrame := some ⟨x.sequence, x.maxRate, 0, List.replicate 24 .noLevels⟩
    newRender := false
    underruns := if x.newRender then x.underruns else min 65535 (x.underruns + 1)
    retryFrom := none
    phase := .tally
    lastSend := own
    sent := some (.resetNode 0) }

/-- A riser's record when the line is held at the first frame send of such an entry (R140, R151): Faulted, its start-up roll call
ended, nothing sent, and the rate of that roll call still pending (R158). -/
def heldRiser (x : Riser) (own : Nat) : Riser :=
  { x with
    state := .faulted
    pending := if x.maxRate = x.rate then none else some x.maxRate
    queue := []
    rollCall := .idle
    rounds := 0
    round := .contention
    cursor := 0
    retryFrom := some own
    phase := .idle
    sent := some (.resetNode 0) }

/-- A riser enters Starting with the all-call Reset (R140), and the line is held or not at its first frame send: its own record, its
zones, and nothing of any other riser's. -/
def EntersStarting (a b : Blocks) (n : Nat) (x : Riser) (held : Bool) : Prop :=
  OnlyRisers a b ∧ b.ownUs = a.ownUs ∧
    b.risers = a.risers.set n (if held then heldRiser x a.ownUs else startedRiser x a.ownUs) ∧
    (∀ z, b.zone? z = (a.zone? z).map (fun c => if c.riser = n then addressDropped true c else c)) ∧
    Told b (.riser n) .riserState

/-- A frame send of riser n leads from `a` to `b` at the own count of `a` (R141 to R145): the pending rate is applied, the live zones
age and are marked, the first live slot after the cursor is the target, and the frame f carries a slot's levels from the latest
render, in the places of the node's layout and 0 in the others, exactly when a zone that is not protected and whose node is live
stands there with levels. -/
def FrameSent (a b : Blocks) (n : Nat) (f : Frame) : Prop :=
  OnlyRisers a b ∧ b.ownUs = a.ownUs ∧
    b.risers = a.risers.set n { a.riser n with
      rate := (a.riser n).pending.getD (a.riser n).rate
      pending := none
      cursor := if f.target = 0 then (a.riser n).cursor else f.target
      lastFrame := some f
      sequence := ((a.riser n).sequence + 1) % 256
      newRender := false
      underruns := if (a.riser n).newRender then (a.riser n).underruns else min 65535 ((a.riser n).underruns + 1)
      phase := .tally
      lastSend := a.ownUs } ∧
    ((a.riser n).newRender = false → Told b (.riser n) .underrun) ∧
    ((a.riser n).pending ≠ none → Told b (.riser n) .rateChanged) ∧
    (∀ (z : Nat) (c : Zone), a.zone? z = some c → c.riser = n → c.node.live = true →
      b.zone? z = some { c with
        age := min 255 (c.age + 1)
        node := if (a.riser n).lost ≤ min 255 (c.age + 1) then .lost
          else if c.node = .ready ∧ (a.riser n).lag ≤ min 255 (c.age + 1) then .lagging else c.node }) ∧
    (∀ z, (∀ c, a.zone? z = some c → c.riser ≠ n ∨ c.node.live = false) → b.zone? z = a.zone? z) ∧
    f.sequence = (a.riser n).sequence ∧ f.rate = (a.riser n).pending.getD (a.riser n).rate ∧ f.slots.length = 24 ∧
    (∀ i < 24, (∀ z c, b.zone? z = some c → c.riser = n → c.slot = i + 1 →
        c.isProtected = true ∨ c.node.live = false ∨ b.latestOf z = .noLevels ∨ b.latestOf z = .absent) →
      f.slots[i]? = some .noLevels) ∧
    (∀ (i z : Nat) (c : Zone) (l : Levels) (k : Token), i < 24 → b.zone? z = some c → c.riser = n → c.slot = i + 1 →
      (∀ y d, b.zone? y = some d → d.riser = n → d.slot = i + 1 → y = z) →
      c.isProtected = false → c.node.live = true → b.latestOf z = .levels l k →
      f.slots[i]? = some (.levels
        (match c.layout with | .rgbw => l | .rgb => ⟨l.r, l.g, l.b, 0⟩ | .mono => ⟨l.r, 0, 0, 0⟩) k)) ∧
    (f.target = 0 → ∀ slot, 1 ≤ slot → slot ≤ 24 → b.pollable n slot = false) ∧
    (f.target ≠ 0 → ∃ k < 24, f.target = ((a.riser n).cursor + k) % 24 + 1 ∧ b.pollable n f.target = true ∧
      ∀ j < k, b.pollable n (((a.riser n).cursor + j) % 24 + 1) = false)

/-- A rate that every Ready or Lagging node of a riser, but for one zone's, offers (R158, R162). -/
def RateOfAll (b : Blocks) (n : Nat) (except_ : Option Nat) (q : Rate) : Prop :=
  ∀ (z : Nat) (c : Zone), b.zone? z = some c → c.riser = n → c.node.live = true → some z ≠ except_ →
    ∃ p, c.profile = some p ∧ q ∈ p.rates

/-- The pending rate that the start of a roll call leaves (R158). -/
def RollCallRate (b : Blocks) (n : Nat) (x : Riser) (pending : Option Rate) : Prop :=
  (∃ q, RateOfAll b n none q ∧ q.perSecond ≤ x.maxRate.perSecond ∧
    (∀ q', RateOfAll b n none q' → q'.perSecond ≤ x.maxRate.perSecond → q'.perSecond ≤ q.perSecond) ∧
    pending = if q = x.rate then none else some q) ∨
  ((∀ q, RateOfAll b n none q → x.maxRate.perSecond < q.perSecond) ∧ pending = x.pending)

/-! ## What a safe state keeps -/

/-- The request queue and the reply queue hold no more than 4 (R177). -/
def PortBounded (s : State) : Prop := s.port.requests.length ≤ 4 ∧ s.port.replies.length ≤ 4

/-- Every table has its fixed size, and no Restart Schedule is in progress between two steps (R1, R50, R71, R105, R137, R154,
R165, R167, R174). -/
def TablesSized (b : Blocks) : Prop :=
  b.zones.length = 96 ∧ b.holding.length = 96 ∧ b.risers.length = 4 ∧ b.feeders.length = 4 ∧ b.programs.length = 64 ∧
    b.chain.faces.length = 4 ∧ b.chain.latest.length = 96 ∧ b.scan.channels.length = 8 ∧ b.deferral = none

/-- While the Sensor Scan calibrates, no channel holds a code (R165, R166). -/
def CalibrationHoldsNoCode (b : Blocks) : Prop := b.scan.calibrating = true → ∀ ch ∈ b.scan.channels, ch.latest = none

/-- The Active Table never holds more than 32 occurrences (R37). -/
def ActiveBounded (b : Blocks) : Prop := b.active.length ≤ 32

/-- The rate lies in 999,800..1,000,200, and the valid run's list holds at most four valid intervals (R112, R114). -/
def RateWithin (b : Blocks) : Prop :=
  999800 ≤ b.time.rate ∧ b.time.rate ≤ 1000200 ∧ b.time.run.length ≤ 4 ∧ ∀ n ∈ b.time.run, 999800 ≤ n ∧ n ≤ 1000200

/-- A safe state of the part. -/
def Safe (s : State) : Prop :=
  PortBounded s ∧ TablesSized s.blocks ∧ CalibrationHoldsNoCode s.blocks ∧ ActiveBounded s.blocks ∧ RateWithin s.blocks

end Sys2Proof.Machine
end

