-- ==== Sys2Proof/Certificates/Slice0/Obligations.lean ====
section
/-! DEFINITION. The statements about the part, from the numbered rules of its manual. A hypothesis on a request says that the
request stands at the head of its queue and may be taken (`AsksFor`); a conclusion of the form `exec c s = .next t` with `t`
written out is at once what the command does, what it leaves alone, and that it completes. -/

open Sys2Proof Sys2Proof.Machine

/-! ## The machine -/

/-- For every command and state, a step with that command at the front of the queue is exec of it on the queue's rest. -/
def Obligations.StepRunsFrontCommand : Prop :=
  ∀ (c : Instr) (rest : List Instr) (s : State), step { s with pending := c :: rest } = exec c { s with pending := rest }

/-- With no command waiting, one µs of own count passes and a render in flight goes on by one zone number. The model's choice
(assumption log 3), not a rule of the manual. -/
def Obligations.IdleStepPassesOneMicrosecond : Prop :=
  ∀ s : State, s.pending = [] →
    step s = .next { s with blocks := { s.blocks with
      ownUs := s.blocks.ownUs + 1
      chain := { s.blocks.chain with
        flight := s.blocks.chain.flight.map (fun fl =>
          if fl.nextZone < 96 then reachNext { s.blocks with ownUs := s.blocks.ownUs + 1 } fl else fl) } } }

/-- Every command answers a next state in every state, and the commands that wait behind it stand. That a command answers one also
in a state where its event cannot happen is the model's choice (assumption log 1), and so is that a full reset keeps the waiting
commands (assumption log 10). -/
def Obligations.EveryCommandHasAnEffect : Prop :=
  ∀ (c : Instr) (s : State), ∃ t, exec c s = .next t ∧ t.pending = s.pending

/-- What a full reset leaves in the records of the part (R1, R47, R50, R62, R71, R102, R105, R107 to R110, R126, R137, R154,
R165, R167, R172, R175 to R177, R180, R182). -/
def Obligations.ResetValues : Prop :=
  State.reset.port.requests = [] ∧ State.reset.port.replies = [] ∧ State.reset.port.notTaken = false ∧
  State.reset.port.notTakenCount = 0 ∧
  resetBlocks.bookings = [] ∧ resetBlocks.upcoming = [] ∧ resetBlocks.active = [] ∧ resetBlocks.armLead = 30 ∧
  resetBlocks.holding = List.replicate 96 ⟨none, 0⟩ ∧ resetBlocks.panelHold = false ∧
  resetBlocks.programs = List.replicate 64 .empty ∧ resetBlocks.freeCount = 4096 ∧
  resetBlocks.chain.faces = List.replicate 4 ⟨1024, 30, 0, 0⟩ ∧ resetBlocks.chain.ambient = ⟨512, 2048, 800, 64, 8, 30⟩ ∧
  resetBlocks.chain.curfew = none ∧ resetBlocks.chain.windowOpen = false ∧ resetBlocks.chain.holdLook = ⟨0, 0, 0, 0⟩ ∧
  resetBlocks.chain.defaultHandover = 1000 ∧ resetBlocks.chain.latest = List.replicate 96 .absent ∧
  resetBlocks.time.state = .unset ∧ resetBlocks.time.now = none ∧ resetBlocks.time.rate = 1000000 ∧ resetBlocks.time.run = [] ∧
  resetBlocks.time.interval = 0 ∧ resetBlocks.time.frozen = false ∧ resetBlocks.time.pending = none ∧ resetBlocks.time.base = 0 ∧
  resetBlocks.time.lastEdge = none ∧ resetBlocks.time.bad = 0 ∧ resetBlocks.time.phase = none ∧ resetBlocks.time.slew = 0 ∧
  resetBlocks.time.lastStep = none ∧ resetBlocks.almanac = [] ∧
  resetBlocks.cue.state = .silent ∧ resetBlocks.cue.last = none ∧ resetBlocks.cue.running = true ∧ resetBlocks.cue.jumps = 0 ∧
  resetBlocks.cue.run = 0 ∧ resetBlocks.cue.silentFrom = none ∧ resetBlocks.cue.ticks = 0 ∧ resetBlocks.cue.rejected = 0 ∧
  resetBlocks.zones = List.replicate 96 none ∧ resetBlocks.risers.length = 4 ∧
  (∀ r ∈ resetBlocks.risers, r.state = .off ∧ r.enabled = false ∧ r.maxRate = .r50 ∧ r.rate = .r50 ∧ r.policy = .keep ∧
    r.lag = 100 ∧ r.lost = 250 ∧ r.sequence = 0 ∧ r.queue = [] ∧ r.rollCall = .idle ∧ r.cursor = 0 ∧ r.pending = none ∧
    r.lastFrame = none ∧ r.newRender = false ∧ r.stranger = none ∧ r.underruns = 0 ∧ r.retryFrom = none) ∧
  resetBlocks.scan.calibrating = true ∧ resetBlocks.scan.channels.length = 8 ∧
  (∀ c ∈ resetBlocks.scan.channels, c.latest = none ∧ c.age = 0) ∧ resetBlocks.feeders.length = 4 ∧
  (∀ f ∈ resetBlocks.feeders, f.budget = 0 ∧ f.tripMark = 4095 ∧ f.source = .schedule ∧ f.closed = false ∧ f.tripped = false ∧
    f.scale = 1024 ∧ f.load = 0 ∧ f.commandClosed = false ∧ f.overCount = 0 ∧ f.armClaims = [] ∧ f.idleFrom = none) ∧
  resetBlocks.showLive = ⟨.schedule, false, false⟩ ∧ resetBlocks.curfewActive = ⟨.schedule, false, false⟩ ∧
  resetBlocks.notices = [] ∧ resetBlocks.mask = allKinds.filter (fun k => k != .holderChanged && k != .underrun)

/-- A full reset gives every record of the part its full-reset value, whatever it was. That the commands that still wait for the
part are kept is the model's choice (assumption log 10). -/
def Obligations.FullResetReturnsEveryRecord : Prop :=
  ∀ s : State, exec .fullReset s = .next { pending := s.pending, port := resetPort, blocks := resetBlocks }

/-! ## The booking body (section 11.6) -/

/-- Every booking body is read back from its 52 bytes, and bytes that are read as a booking body are the 52 bytes of that body, so
no byte is passed over. -/
def Obligations.BookingBodyDecodesWhatItEncodes : Prop :=
  (∀ x : BookingBody, (encodeBookingBody x).length = 52 ∧ decodeBookingBody (encodeBookingBody x) = some x) ∧
  (∀ (l : List Byte) (x : BookingBody), decodeBookingBody l = some x → encodeBookingBody x = l)

/-! ## The Request Port -/

/-- The attention line (R183): asserted while a reply or a notice waits, deasserted otherwise and after a full reset. -/
def Obligations.AttentionFollowsTheQueues : Prop :=
  (∀ s : State, attention s = true ↔ s.port.replies ≠ [] ∨ s.blocks.notices ≠ []) ∧
  (∀ s : State, attention s = false ↔ s.port.replies = [] ∧ s.blocks.notices = []) ∧
  (∀ s t : State, exec .fullReset s = .next t → t.port.replies = [] ∧ t.blocks.notices = [] ∧ attention t = false)

/-- The transactions (R175, R176, R178). A transaction clocks out the status byte with its four parts first. SEND_REQUEST: with a
whole header and fewer than 4 requests waiting the request joins the tail; otherwise it is not taken, and the flag and the count
show it. FETCH_REPLY: the head reply is clocked out, and leaves when its last byte is out. PORT_STATUS and
UNKNOWN_TRANSACTION_KIND change nothing but the not-taken flag. -/
def Obligations.TransactionsActOnThePort : Prop :=
  (∀ s : State, PortBounded s →
    (statusByte s).toNat % 8 = 4 - s.port.requests.length ∧ (statusByte s).toNat / 8 % 8 = s.port.replies.length ∧
    (statusByte s).getLsbD 6 = !s.blocks.notices.isEmpty ∧ (statusByte s).getLsbD 7 = s.port.notTaken) ∧
  (∀ (r : Request) (s : State), 4 ≤ r.carried → s.port.requests.length < 4 →
    exec (.sendRequest r) s =
      .next { s with port := { clocked s .silent with requests := s.port.requests ++ [r] } }) ∧
  (∀ (r : Request) (s : State), (r.carried < 4 ∨ 4 ≤ s.port.requests.length) →
    exec (.sendRequest r) s =
      .next { s with port :=
        { clocked s .silent with notTaken := true, notTakenCount := min 255 (s.port.notTakenCount + 1) } }) ∧
  (∀ s : State, exec (.fetchReply true) s =
    .next { s with port := { clocked s (.reply s.port.replies.head?) with replies := s.port.replies.tail } }) ∧
  (∀ s : State, exec (.fetchReply false) s = .next { s with port := clocked s (.reply s.port.replies.head?) }) ∧
  (∀ s : State, exec .portStatus s =
    .next { s with port := clocked s (.status s.blocks.notices.length s.blocks.mask s.port.notTakenCount) }) ∧
  (∀ (k : Byte) (s : State), (k.toNat = 0 ∨ 4 < k.toNat) →
    exec (.unknownTransactionKind k) s = .next { s with port := clocked s .zeros })

/-- FETCH_NOTICE (R181): the head entry is clocked out with a fresh summary, and leaves when its last byte is out; the leaving of
an open entry that holds Retired frees the slot of its Retiring booking (R10). -/
def Obligations.FetchNoticeTakesTheHead : Prop :=
  (∀ (whole : Bool) (s : State), s.blocks.notices = [] →
    exec (.fetchNotice whole) s = .next { s with port := clocked s (.notice none) }) ∧
  (∀ (s : State) (e : NoticeEntry) (es : List NoticeEntry), s.blocks.notices = e :: es →
    exec (.fetchNotice false) s = .next { s with port := clocked s (.notice (some (e, s.blocks.summary e))) }) ∧
  (∀ (s : State) (e : NoticeEntry) (es : List NoticeEntry), s.blocks.notices = e :: es → ChangeKind.retired ∉ e.changes →
    exec (.fetchNotice true) s =
      .next { s with port := clocked s (.notice (some (e, s.blocks.summary e))), blocks := { s.blocks with notices := es } }) ∧
  (∀ (s : State) (e : NoticeEntry) (es : List NoticeEntry) (k : Booking), s.blocks.notices = e :: es →
    e.record = .booking k.number → e.closed = none → ChangeKind.retired ∈ e.changes →
    s.blocks.booking? k.number = some k → k.state = .retiring → (∀ x ∈ es, x.opens (.booking k.number) = false) →
    exec (.fetchNotice true) s =
      .next { s with
        port := clocked s (.notice (some (e, s.blocks.summary e)))
        blocks := { s.blocks with
          notices := es
          bookings := s.blocks.bookings.filter (fun x => x.number != k.number) } })

/-- PORT_MALFORMED_REFUSAL (R177): the port takes a head request that fails its own checks and answers it Malformed; the kind is
echoed, or 0 when it is unknown (section 11.6). No block sees the request. -/
def Obligations.PortRefusesMalformedRequests : Prop :=
  ∀ (s : State) (r : Request), s.port.requests.head? = some r → s.port.replies.length < 4 → requestAcceptable r = false →
    exec .portMalformedRefusal s =
      .next { s with port := { s.port with
        requests := s.port.requests.tail
        replies := s.port.replies ++
          [{ kind := if 1 ≤ r.kind.toNat ∧ r.kind.toNat ≤ 36 then r.kind else 0, tag := r.tag, status := .malformed,
             warnings := noWarnings, body := .empty }] } }

/-- Every request taken leaves the head of its queue and gets exactly one reply, at the tail, with its kind and tag; the rest of
the port is untouched (R177). -/
def Obligations.EveryTakenRequestGetsOneReply : Prop :=
  ∀ (c : Instr) (k : Nat) (s : State) (r : Request), requestKind c = some k → Asks s r → r.kind.toNat = k →
    ∃ (b : Blocks) (a : Answer), exec c s = .next (replied s r b a)

/-- A refused request changes nothing in any block, but for one case: a Program Close that names a Loading slot whose load is short
discards that load and is refused with OutOfRange (R77, R179). -/
def Obligations.RefusedRequestsChangeNothing : Prop :=
  ∀ (c : Instr) (k : Nat) (s : State) (r : Request) (b : Blocks) (a : Answer), requestKind c = some k → Asks s r →
    r.kind.toNat = k → exec c s = .next (replied s r b a) → a.status ≠ .ok →
    b = s.blocks ∨
      ∃ (n : Nat) (p : ProgramData), r.body = .fields (.programClose n) ∧ n < 64 ∧ s.blocks.program n = .loading p ∧
        p.steps.length ≠ p.declared ∧ a.status = .outOfRange ∧
        b = { s.blocks with programs := s.blocks.programs.set n .empty }

/-- A command that is neither a request nor the port's own leaves the port as it is. -/
def Obligations.EventsLeaveThePort : Prop :=
  ∀ (c : Instr) (s : State), requestKind c = none → actsOnPort c = false → ∃ b : Blocks, exec c s = .next { s with blocks := b }

/-! ## What every step keeps -/

/-- No step brings more than 4 requests or 4 replies together (R177). -/
def Obligations.StepKeepsPortBounded : Prop := ∀ s t : State, PortBounded s → step s = .next t → PortBounded t

/-- Every step keeps every table at its fixed size, and the Active Table to its 32 places (R37). -/
def Obligations.StepKeepsTablesSized : Prop :=
  (∀ s t : State, TablesSized s.blocks → step s = .next t → TablesSized t.blocks) ∧
  (∀ s t : State, ActiveBounded s.blocks → step s = .next t → ActiveBounded t.blocks)

/-- Every step keeps the rate within 999,800..1,000,200 and the valid run to four valid intervals (R112, R114), and gives no
channel a code while the Sensor Scan calibrates (R165). -/
def Obligations.StepKeepsRateAndCalibration : Prop :=
  (∀ s t : State, RateWithin s.blocks → step s = .next t → RateWithin t.blocks) ∧
  (∀ s t : State, CalibrationHoldsNoCode s.blocks → step s = .next t → CalibrationHoldsNoCode t.blocks)

/-- The state after reset is safe. -/
def Obligations.ResetIsSafe : Prop := Safe State.reset

/-- Civil time once set stays set: only a full reset unsets it (R8). -/
def Obligations.CivilTimeStaysSet : Prop :=
  ∀ (c : Instr) (s t : State), c ≠ .fullReset → exec c s = .next t → s.blocks.time.now.isSome = true →
    t.blocks.time.now.isSome = true

/-! ## The Notice List -/

/-- A submitted change (R180): a masked one is discarded, one of a record without an open entry makes a new entry at the tail,
and one of a record with an open entry joins that entry, which keeps its place. -/
def Obligations.SubmitGathersChanges : Prop :=
  (∀ (r : RecordId) (k : ChangeKind) (o : Option LastOutcome) (b : Blocks), k ∉ b.mask → b.submit r k o = b) ∧
  (∀ (r : RecordId) (k : ChangeKind) (o : Option LastOutcome) (b : Blocks), k ∈ b.mask →
    (∀ e ∈ b.notices, e.opens r = false) →
    b.submit r k o = { b with notices := b.notices ++ [⟨r, [k], o, none⟩] }) ∧
  (∀ (r : RecordId) (k : ChangeKind) (o : Option LastOutcome) (b : Blocks) (pre post : List NoticeEntry) (e : NoticeEntry),
    k ∈ b.mask → b.notices = pre ++ e :: post → (∀ x ∈ pre, x.opens r = false) → e.opens r = true →
    b.submit r k o =
      { b with notices := pre ++ { e with changes := insertKind k e.changes, outcome := o <|> e.outcome } :: post }) ∧
  (∀ (k x : ChangeKind) (l : List ChangeKind), x ∈ insertKind k l ↔ x = k ∨ x ∈ l)

/-- SET_NOTICE_MASK (R182): the mask is replaced, the entries are kept whole, and the reply shows the mask. -/
def Obligations.SetNoticeMaskReplacesTheMask : Prop :=
  ∀ (s : State) (r : Request) (kinds : List ChangeKind), AsksFor s r (.setNoticeMask kinds) →
    ∃ m : List ChangeKind, (∀ k, k ∈ m ↔ k ∈ kinds) ∧
      exec .setNoticeMask s = .next (replied s r { s.blocks with mask := m } (okWith (.mask m)))

/-- RESTART_SCHEDULE (R12, R48, R66, R154, R167, R174, R184): it is never refused and replies with the bookings in each state.
Nothing of the Notice List of before is left. Before any booking is placed every active occurrence has ended Restarted with no run
counted, every boundary is cleared and the Upcoming List is empty; every booking is then placed in one batch, and one handover
starts on each configured non-protected zone. It discards the open load and keeps the clocks, the mask, the risers, the sensor
scan, the settings of the Level Chain, every zone record but its last dispatched levels and handover, and every feeder but its
contactor, arm claims and idle timer. The rising booking number of the batch is the model's choice (assumption log 20). -/
def Obligations.RestartScheduleKeepsWhatItNames : Prop :=
  ∀ (s : State) (r : Request), AsksFor s r .restartSchedule →
    (∀ l : List NoticeEntry, exec .restartSchedule { s with blocks := { s.blocks with notices := l } } = exec .restartSchedule s) ∧
    ∃ m b : Blocks,
      exec .restartSchedule s = .next (replied s r b (okWith (.restarted (b.countState .held) (b.countState .scheduled)
        (b.countState .running) (b.countState .stalled) (b.countState .retiring)))) ∧
      m.active = [] ∧ m.upcoming = [] ∧ m.time = s.blocks.time ∧
      m.bookings = s.blocks.bookings.map (fun k =>
        { k with
          boundary := none
          lastOutcome := if ∃ o ∈ s.blocks.active, o.number = k.number then .restarted else k.lastOutcome }) ∧
      (ChangeKind.ended ∈ m.mask → ∀ o ∈ s.blocks.active,
        ∃ e ∈ m.notices, e.record = .booking o.number ∧ ChangeKind.ended ∈ e.changes ∧ e.outcome = some .restarted) ∧
      b = endDeferral (restartHandovers (placeBatch false (m.numbersIn (fun _ => true)) m)) ∧
      b.time = s.blocks.time ∧ b.cue = s.blocks.cue ∧ b.almanac = s.blocks.almanac ∧ b.mask = s.blocks.mask ∧
      b.armLead = s.blocks.armLead ∧ b.panelHold = s.blocks.panelHold ∧ b.risers = s.blocks.risers ∧ b.scan = s.blocks.scan ∧
      b.programs = (discardLoad s.blocks).programs ∧ b.deferral = none ∧ b.chain.ambient = s.blocks.chain.ambient ∧
      b.chain.curfew = s.blocks.chain.curfew ∧ b.chain.windowOpen = s.blocks.chain.windowOpen ∧
      b.chain.holdLook = s.blocks.chain.holdLook ∧ b.chain.defaultHandover = s.blocks.chain.defaultHandover ∧
      (∀ z, (b.zone? z).isSome = (s.blocks.zone? z).isSome) ∧
      (∀ (z : Nat) (c : Zone), z < 96 → s.blocks.zone? z = some c → ∃ d : Zone, b.zone? z = some d ∧
        d = { c with last := d.last, handover := d.handover } ∧
        (c.isProtected = true → d.last = c.last ∧ d.handover = none) ∧
        (c.isProtected = false →
          d.last = (if b.lowersAt z then capLevels b.curfewCeiling c.last else c.last) ∧
          d.handover = some
            { from_ := keepLayout c.layout d.last
              layout := c.layout
              length := if b.panelHold then b.chain.defaultHandover else b.handoverLength z
              start := s.blocks.ownUs / 1000 })) ∧
      (∀ f : Nat, b.feeder f = { s.blocks.feeder f with
        closed := (b.feeder f).closed, armClaims := (b.feeder f).armClaims, idleFrom := (b.feeder f).idleFrom })

/-! ## The Time Base -/

/-- SET_CALENDAR_BASE (R121): a base 0..6 is stored and replied, whatever the state, and nothing else changes; any other value is
refused with OutOfRange and nothing changes; it is the weekday of day 0; a full reset sets it to 0 and Restart Schedule keeps
it. -/
def Obligations.SetCalendarBaseStoresTheBase : Prop :=
  (∀ (s : State) (r : Request) (base : Nat), AsksFor s r (.setCalendarBase base) → base ≤ 6 →
    exec .setCalendarBase s =
      .next (replied s r { s.blocks with time := { s.blocks.time with base := base } } (okWith (.calendarBase base)))) ∧
  (∀ (s : State) (r : Request) (base : Nat), AsksFor s r (.setCalendarBase base) → 6 < base →
    exec .setCalendarBase s = .next (replied s r s.blocks (refuse .outOfRange))) ∧
  (∀ base : Nat, base ≤ 6 → weekday base 0 = base) ∧
  (∀ s t : State, exec .fullReset s = .next t → t.blocks.time.base = 0) ∧
  (∀ s t : State, exec .restartSchedule s = .next t → t.blocks.time.base = s.blocks.time.base)

/-- CIVIL_TICK and MIDNIGHT (R111, R123). A tick adds 1 to now, moves every position that R44 moves and the ticks since the last
cue word; the tick that a slew withholds leaves all three; at the last instant of day 65,535 none is issued. The own count of a
tick, with the floor of k × rate / 1,000, and the midnight that waits for its own row are the model's choices (assumption logs 2,
15 and 18). -/
def Obligations.CivilTickMovesNow : Prop :=
  (∀ (s : State) (now : Int), s.blocks.time.state ≠ .unset → s.blocks.time.now = some now → now < 5662310399999 →
    s.blocks.time.withhold = false →
    exec .civilTick s = .next { s with blocks := { s.blocks with
      ownUs := max s.blocks.ownUs (s.blocks.time.tickFrom + (s.blocks.time.ticks + 1) * s.blocks.time.rate / 1000)
      time := { s.blocks.time with
        now := some (now + 1)
        ticks := s.blocks.time.ticks + 1
        midnightDue := s.blocks.time.midnightDue || decide ((now + 1) % 86400000 = 0) }
      active := s.blocks.active.map (fun o =>
        if o.follow = .following ∧ s.blocks.cue.running = false then o else { o with position := min 2147483647 (o.position + 1) })
      cue := { s.blocks.cue with ticks := min 65535 (s.blocks.cue.ticks + 1) } } }) ∧
  (∀ s : State, s.blocks.time.state ≠ .unset →
    (s.blocks.time.withhold = true ∨ ∃ now, s.blocks.time.now = some now ∧ 5662310399999 ≤ now) →
    exec .civilTick s = .next { s with blocks := { s.blocks with
      ownUs := max s.blocks.ownUs (s.blocks.time.tickFrom + (s.blocks.time.ticks + 1) * s.blocks.time.rate / 1000)
      time := { s.blocks.time with ticks := s.blocks.time.ticks + 1, withhold := false } } }) ∧
  (∀ (s : State) (now : Int), s.blocks.time.midnightDue = true → s.blocks.time.now = some now →
    exec .midnight s = .next { s with blocks := { s.blocks with
      time := { s.blocks.time with midnightDue := false }
      almanac := s.blocks.almanac.filter (fun e => decide (now / 86400000 - 7 ≤ (e.day : Int))) } })

/-- PULSE_EDGE (R112 to R114). The first edge starts an interval; a valid interval joins the run, and in Locked, or with a run
of 4 in Free and Holdover, the edge locks, sets the rate to the floor of the run's average and is disciplined (R115, R116); an
invalid one empties the run, freezes the interval count and takes Locked to Holdover; a freezing count and a change of the state
report TimeState. The own count of the edge, d microseconds after
the count before it, is the model's choice (assumption log 2). -/
def Obligations.PulseEdgeMeasuresIntervals : Prop :=
  (∀ (s : State) (d : Nat), s.blocks.time.pending = none → s.blocks.time.lastEdge = none →
    exec (.pulseEdge d) s = .next { s with blocks := { s.blocks with
      ownUs := s.blocks.ownUs + d
      time := { s.blocks.time with lastEdge := some (s.blocks.ownUs + d) } } }) ∧
  (∀ (s : State) (d e n : Nat), s.blocks.time.pending = none → s.blocks.time.lastEdge = some e →
    n = min 1999999 (s.blocks.ownUs + d - e) → 999800 ≤ n → n ≤ 1000200 →
    (s.blocks.time.state = .unset ∨ (s.blocks.time.state ≠ .locked ∧ s.blocks.time.run.length < 3)) →
    exec (.pulseEdge d) s = .next { s with blocks := { s.blocks with
      ownUs := s.blocks.ownUs + d
      time := { s.blocks.time with
        lastEdge := some (s.blocks.ownUs + d)
        run := lastFour (s.blocks.time.run ++ [n])
        lastInterval := n
        interval := if s.blocks.time.frozen then s.blocks.time.interval else n } } }) ∧
  (∀ (s : State) (d e n : Nat), s.blocks.time.pending = none → s.blocks.time.lastEdge = some e →
    n = min 1999999 (s.blocks.ownUs + d - e) → 999800 ≤ n → n ≤ 1000200 →
    (s.blocks.time.state = .locked ∨
      (s.blocks.time.state ≠ .unset ∧ 3 ≤ s.blocks.time.run.length)) →
    ∃ (m : Blocks) (q : Nat), exec (.pulseEdge d) s = .next { s with blocks := discipline m } ∧
      q = (lastFour (s.blocks.time.run ++ [n])).sum / (lastFour (s.blocks.time.run ++ [n])).length ∧
      m = { s.blocks with
        ownUs := s.blocks.ownUs + d
        time := { s.blocks.time with
          state := .locked
          lastEdge := some (s.blocks.ownUs + d)
          run := lastFour (s.blocks.time.run ++ [n])
          lastInterval := n
          interval := if s.blocks.time.frozen then s.blocks.time.interval else n
          rate := q
          tickFrom := if s.blocks.time.rate = q then s.blocks.time.tickFrom else s.blocks.ownUs + d
          ticks := if s.blocks.time.rate = q then s.blocks.time.ticks else 0 }
        notices := m.notices } ∧
      (s.blocks.time.state = .locked → m.notices = s.blocks.notices) ∧
      (s.blocks.time.state ≠ .locked → Told m .timeBase .timeState) ∧
      (discipline m).time.state = .locked ∧ (discipline m).time.rate = q ∧ (discipline m).time.run = m.time.run ∧
      (discipline m).time.lastEdge = some (s.blocks.ownUs + d)) ∧
  (∀ (s : State) (d e n : Nat), s.blocks.time.pending = none → s.blocks.time.lastEdge = some e →
    n = min 1999999 (s.blocks.ownUs + d - e) → (n < 999800 ∨ 1000200 < n) →
    ∃ t : State, exec (.pulseEdge d) s = .next t ∧ t.port = s.port ∧ t.blocks.time.run = [] ∧ t.blocks.time.frozen = true ∧
      t.blocks.time.rate = s.blocks.time.rate ∧ t.blocks.time.now = s.blocks.time.now ∧
      t.blocks.time.interval = (if s.blocks.time.frozen then s.blocks.time.interval else n) ∧
      t.blocks.time.bad = (if s.blocks.time.frozen then min 255 (s.blocks.time.bad + 1) else s.blocks.time.bad) ∧
      t.blocks.time.state = (if s.blocks.time.state = .locked then .holdover else s.blocks.time.state) ∧
      ((s.blocks.time.frozen = false ∨ s.blocks.time.state = .locked) → Told t.blocks .timeBase .timeState) ∧
      (s.blocks.time.frozen = true → s.blocks.time.state ≠ .locked → t.blocks.notices = s.blocks.notices) ∧
      t.blocks.bookings = s.blocks.bookings ∧ t.blocks.active = s.blocks.active ∧ t.blocks.holding = s.blocks.holding)

/-- The discipline of an edge (R115, R116): the phase error is recorded; no error changes nothing more, an error up to 250 ms
withholds or inserts one tick, and a larger one steps civil time to a whole second. A step of civil time (R45, R46, R117): a
backward one starts and ends nothing and keeps every entry, active record and booking; a forward one ends Completed what has
reached its end, disposes as Missed of an entry whose whole window has passed, starts an entry that is due inside its window at
new now − start, arms the entries it brings within their lead, and prunes on a later day. -/
def Obligations.DisciplineSlewsOrSteps : Prop :=
  (∀ (b : Blocks) (now e : Int), b.time.now = some now → 0 ≤ now → now < 5662310399000 → e = phaseError now →
    -500 ≤ e ∧ e < 500 ∧ (now - e) % 1000 = 0 ∧
    (discipline b).time.phase = some e ∧
    (e = 0 → discipline b = { b with time := { b.time with phase := some 0, slew := 0 } }) ∧
    (0 < e → e ≤ 250 → discipline b = { b with time := { b.time with phase := some e, slew := e - 1, withhold := true } }) ∧
    (-250 ≤ e → e < 0 → (discipline b).time.now = some (now + 1) ∧ (discipline b).time.slew = e + 1) ∧
    ((e < -250 ∨ 250 < e) →
      discipline b = stepTo (now - e) { b with time := { b.time with phase := some e, slew := 0 } } ∧
      (discipline b).time.now = some (now - e) ∧ (discipline b).time.slew = 0 ∧
      (discipline b).time.lastStep = some (-e, now - e))) ∧
  (∀ (b t : Blocks) (old new : Int), b.time.now = some old → new ≤ 5662310399999 → t = stepTo new b →
    t.time = { b.time with now := some new, lastStep := some (new - old, new) } ∧ Told t .timeBase .stepped ∧
    (new = old → t = { b with time := t.time, notices := t.notices }) ∧
    (new < old → t.bookings = b.bookings ∧ t.upcoming = b.upcoming ∧ t.active = b.active ∧ t.holding = b.holding ∧
      t.almanac = b.almanac ∧ t.feeders = b.feeders) ∧
    (old < new →
      t.almanac = (if old / 86400000 < new / 86400000 then
        b.almanac.filter (fun e => decide (new / 86400000 - 7 ≤ (e.day : Int))) else b.almanac) ∧
      ((∀ o ∈ b.active, new < o.finish) → (∀ e ∈ b.upcoming, new < e.start) → (b.upcoming.map (fun e => e.number)).Nodup →
        t.bookings = b.bookings ∧ t.active = b.active ∧ t.holding = b.holding ∧
        t.upcoming = b.upcoming.map (fun e =>
          { e with armed := e.armed || decide (e.start - (b.armLead : Int) * 1000 ≤ new) })) ∧
      (∀ (e : UpcomingEntry) (es : List UpcomingEntry) (k : Booking), (∀ o ∈ b.active, new < o.finish) → b.upcoming = e :: es →
        (∀ x ∈ es, new < x.start ∧ x.number ≠ e.number) → b.booking? e.number = some k → e.start ≤ new →
        (∀ (w : Window) (bd : Option Instant), e.finish ≤ new →
          search b.almanac b.time.base new k.fields (some e.finish) = ⟨.window w, bd, false⟩ → new < w.start →
          t.active = b.active ∧
          t.booking? e.number =
            some { k with state := .scheduled, lastOutcome := .missed, boundary := some e.finish, marks := w.marks } ∧
          (∃ x ∈ t.upcoming, x.number = e.number ∧ x.day = w.day ∧ x.start = w.start ∧ x.finish = w.finish) ∧
          (ChangeKind.ended ∈ b.mask → ∃ x ∈ t.notices,
            x.record = .booking e.number ∧ ChangeKind.ended ∈ x.changes ∧ x.outcome = some .missed)) ∧
        (new < e.finish → b.active.length < 32 → t.active.length = b.active.length + 1 ∧
          (∀ x ∈ t.upcoming, x.number ≠ e.number) ∧
          ∃ o ∈ t.active, o.number = e.number ∧ o.tier = e.tier ∧ o.start = e.start ∧ o.finish = e.finish ∧
            (k.fields.follow = none → o.position = min 2147483647 (new - e.start)) ∧ Told t (.booking e.number) .started)) ∧
      (∀ (o : Occurrence) (k : Booking) (w : Window) (bd : Option Instant), o ∈ b.active → o.finish ≤ new →
        (∀ p ∈ b.active, p ≠ o → new < p.finish ∧ p.number ≠ o.number ∧ p.id ≠ o.id) → (∀ e ∈ b.upcoming, new < e.start) →
        b.booking? o.number = some k → b.upcoming? o.number = none →
        search b.almanac b.time.base new k.fields (some o.finish) = ⟨.window w, bd, false⟩ → new < w.start →
        (∀ p ∈ t.active, p.id ≠ o.id) ∧
        t.booking? o.number =
          some { k with
            state := .scheduled, lastOutcome := .completed, runCount := min 65535 (k.runCount + 1)
            boundary := some o.finish, marks := w.marks } ∧
        (∃ x ∈ t.upcoming, x.number = o.number ∧ x.day = w.day ∧ x.start = w.start ∧ x.finish = w.finish) ∧
        (ChangeKind.ended ∈ b.mask → ∃ x ∈ t.notices,
          x.record = .booking o.number ∧ ChangeKind.ended ∈ x.changes ∧ x.outcome = some .completed))))

/-- HOLDOVER_TIMEOUT and EDGE_COUNTER_SATURATION (R112, R113): Locked becomes Holdover, the rate is kept and the slew ended; the
unfrozen interval count shows 1,999,999. The own counts e + 1,500,000 and e + 1,999,999 at which the two rows stand are the model's
choice (assumption logs 2 and 18), and so is 1,999,999 where no interval has ended yet (log 52). -/
def Obligations.SilentPulseInput : Prop :=
  (∀ (s : State) (e : Nat), s.blocks.time.lastEdge = some e → s.blocks.time.state = .locked →
    ∃ t : State, exec .holdoverTimeout s = .next t ∧ t.port = s.port ∧
      t.blocks.time = { s.blocks.time with state := .holdover, slew := 0 } ∧
      t.blocks.ownUs = max s.blocks.ownUs (e + 1500000) ∧
      t.blocks = { (s.blocks.report .timeBase .timeState) with ownUs := t.blocks.ownUs, time := t.blocks.time }) ∧
  (∀ (s : State) (e : Nat), s.blocks.time.lastEdge = some e →
    exec .edgeCounterSaturation s = .next { s with blocks := { s.blocks with
      ownUs := max s.blocks.ownUs (e + 1999999)
      time := { s.blocks.time with interval := if s.blocks.time.frozen then s.blocks.time.interval else 1999999 } } })

/-- MARK_TIME, PULSE_EDGE with a mark pending, and PENDING_MARK_EXPIRY (R118, R119). Now: the value is applied at once, the state is
Free, and the measurement starts anew. Next Pulse: the mark is stored and nothing else changes. At the next edge its value is
applied, and at its expiry its value plus 1,500. An application to a set civil time is a step. The first setting places every Held
booking in one batch (R33): it places each without starting any, and then takes the due entries from the head of the list. That
the edge of a pending mark ends no interval (assumption log 12), that the expiry stands at 1,500 ms of own count after the taking and
an edge d microseconds after the count before it (logs 2 and 18), that a mark drops a tick still to be withheld (log 17), and that one
applied in Free reports no TimeState (log 16) are the model's choices, and so is the rising booking number of the batch's first part
(log 20). A day above 65,535, a time of day of 86,400,000 or more and an
unknown mode are refused with OutOfRange. -/
def Obligations.MarksSetNow : Prop :=
  (∀ (s : State) (r : Request) (day tod : Nat) (mode : Code MarkMode), AsksFor s r (.markTime day tod mode) →
    (65535 < day ∨ 86400000 ≤ tod ∨ mode = .unknown) →
    exec .markTime s = .next (replied s r s.blocks (refuse .outOfRange))) ∧
  (∀ (b m : Blocks) (v : Int) (edge : Option Nat), v ≤ 5662310399999 →
    m = { b with
      time := { b.time with
        state := .free
        slew := if b.time.state = .locked then 0 else b.time.slew
        pending := none, lastEdge := edge, run := [], interval := 0, lastInterval := 0, frozen := false, bad := 0
        tickFrom := b.ownUs, ticks := 0, withhold := false }
      notices := (if b.time.state = .free then b else b.report .timeBase .timeState).notices } →
    (∀ old, b.time.now = some old → applyMark v edge b = stepTo v m) ∧
    (b.time.now = none →
      applyMark v edge b = firstSetting { m with time := { m.time with now := some v } } ∧
      (∀ k ∈ (applyMark v edge b).bookings, k.state ≠ .held) ∧
      ((b.bookings.map (fun k => k.number)).Nodup → b.upcoming = [] →
        (∀ k ∈ b.bookings, k.state = .held → ∃ (w : Window) (bd : Option Instant),
          search b.almanac b.time.base v k.fields k.boundary = ⟨.window w, bd, false⟩ ∧ v < w.start) →
        (applyMark v edge b).active = b.active ∧
        ∀ k ∈ b.bookings, ∀ (w : Window) (bd : Option Instant), k.state = .held →
          search b.almanac b.time.base v k.fields k.boundary = ⟨.window w, bd, false⟩ →
          { k with state := .scheduled, marks := w.marks } ∈ (applyMark v edge b).bookings ∧
          ∃ e ∈ (applyMark v edge b).upcoming, e.number = k.number ∧ e.tier = k.fields.tier ∧ e.day = w.day ∧
            e.start = w.start ∧ e.finish = w.finish))) ∧
  (∀ (quiet : Bool) (ns : List Nat) (b m : Blocks), m = forEach ns (placeOnly quiet) b →
    m.active = b.active ∧ m.holding = b.holding ∧ placeBatch quiet ns b = drain false m.drainFuel m ∧
    (∀ (e : UpcomingEntry) (es : List UpcomingEntry) (now : Int) (fuel : Nat), m.upcoming = e :: es → m.time.now = some now →
      drain false (fuel + 1) m = if e.start ≤ now then drain false fuel (startOnce e.number m) else m)) ∧
  (∀ (s : State) (d : Nat) (p : PendingMark), s.blocks.time.pending = some p →
    ∃ t : State, exec (.pulseEdge d) s = .next t ∧ t.port = s.port ∧
      t.blocks = applyMark ((p.day : Int) * 86400000 + p.timeOfDay) (some (s.blocks.ownUs + d))
        { s.blocks with ownUs := s.blocks.ownUs + d } ∧
      t.blocks.time.now = some (min 5662310399999 ((p.day : Int) * 86400000 + p.timeOfDay)) ∧
      t.blocks.time.state = .free ∧ t.blocks.time.pending = none ∧ t.blocks.time.lastEdge = some (s.blocks.ownUs + d) ∧
      t.blocks.time.run = [] ∧ t.blocks.time.interval = 0 ∧ t.blocks.time.frozen = false ∧
      t.blocks.time.phase = s.blocks.time.phase ∧ t.blocks.time.rate = s.blocks.time.rate) ∧
  (∀ (s : State) (r : Request) (day tod : Nat), AsksFor s r (.markTime day tod (.known .now)) → day ≤ 65535 → tod < 86400000 →
    ∃ b : Blocks,
      exec .markTime s = .next (replied s r b (okWith (.marked .free (some ((day : Int) * 86400000 + tod)) b.time.lastStep none))) ∧
      b = applyMark ((day : Int) * 86400000 + tod) none s.blocks ∧
      b.time.now = some ((day : Int) * 86400000 + tod) ∧ b.time.state = .free ∧ b.time.pending = none ∧ b.time.run = [] ∧
      b.time.interval = 0 ∧ b.time.frozen = false ∧ b.time.bad = 0 ∧ b.time.lastEdge = none ∧ b.time.rate = s.blocks.time.rate ∧
      b.time.lastStep = (match s.blocks.time.now with
        | none => s.blocks.time.lastStep
        | some old => some ((day : Int) * 86400000 + tod - old, (day : Int) * 86400000 + tod)) ∧
      b.cue = s.blocks.cue ∧ b.risers = s.blocks.risers ∧ b.programs = s.blocks.programs) ∧
  (∀ (s : State) (r : Request) (day tod : Nat), AsksFor s r (.markTime day tod (.known .nextPulse)) → day ≤ 65535 →
    tod < 86400000 →
    exec .markTime s = .next (replied s r
      { s.blocks with time := { s.blocks.time with pending := some ⟨day, tod, s.blocks.ownUs⟩ } }
      (okWith (.marked s.blocks.time.state s.blocks.time.now s.blocks.time.lastStep (some ⟨day, tod, s.blocks.ownUs⟩))))) ∧
  (∀ (s : State) (m : PendingMark), s.blocks.time.pending = some m →
    ∃ t : State, exec .pendingMarkExpiry s = .next t ∧ t.port = s.port ∧
      t.blocks.time.now = some (min 5662310399999 ((m.day : Int) * 86400000 + m.timeOfDay + 1500)) ∧
      t.blocks.time.state = .free ∧ t.blocks.time.pending = none ∧ t.blocks.time.lastEdge = none ∧ t.blocks.time.run = [] ∧
      t.blocks.ownUs = max s.blocks.ownUs (m.taken + 1500000) ∧ t.blocks.time.rate = s.blocks.time.rate)

/-- TIME_REPORT (R122): the reply shows the record as it stood, and then a frozen interval count is released. -/
def Obligations.TimeReportReleasesTheCount : Prop :=
  ∀ (s : State) (r : Request), AsksFor s r .timeReport →
    exec .timeReport s = .next (replied s r
      { s.blocks with time := { s.blocks.time with
          frozen := false
          bad := if s.blocks.time.frozen then 0 else s.blocks.time.bad
          interval := if s.blocks.time.frozen then s.blocks.time.lastInterval else s.blocks.time.interval } }
      (okWith (.time s.blocks.timeView)))

/-- LOAD_ALMANAC (R124, R125): more than 16 entries are Malformed and a value out of range is OutOfRange. Every entry but those
below today − 7 is stored, the last sent of a day standing for it, and every other day of the almanac is kept. Then the bookings
that are Stalled, and those Scheduled by a Sunset or Sunrise whose entry is estimated or whose entry's day or the day after was
stored, lose their entries and are placed again in one batch (R33), its first part in rising booking number by the model's choice
(assumption log 20). The reply counts what was stored, passed over, held, placed again and left Stalled. With too little room the
load is refused and nothing changes. -/
def Obligations.LoadAlmanacStoresTheDays : Prop :=
  (∀ (s : State) (r : Request) (days : List AlmanacDay), AsksFor s r (.loadAlmanac days) → 16 < days.length →
    exec .loadAlmanac s = .next (replied s r s.blocks (refuse .malformed))) ∧
  (∀ (s : State) (r : Request) (days : List AlmanacDay), AsksFor s r (.loadAlmanac days) → days.length ≤ 16 →
    (∃ e ∈ days, 65535 < e.day ∨ 86400000 ≤ e.sunset ∨ 86400000 ≤ e.sunrise) →
    exec .loadAlmanac s = .next (replied s r s.blocks (refuse .outOfRange))) ∧
  (∀ (s : State) (r : Request) (days stored : List AlmanacDay), AsksFor s r (.loadAlmanac days) → days.length ≤ 16 →
    (∀ e ∈ days, e.day ≤ 65535 ∧ e.sunset < 86400000 ∧ e.sunrise < 86400000) → stored = s.blocks.toStore days →
    s.blocks.almanac.length + (s.blocks.newDays stored).length ≤ 400 →
    ∃ (b : Blocks) (ns : List Nat),
      exec .loadAlmanac s = .next (replied s r b (okWith (.almanac stored.length (days.length - stored.length) b.almanac.length
        (b.almanac.head?.map (fun e => e.day)) (b.almanac.getLast?.map (fun e => e.day)) ns.length
        (b.bookings.filter (fun k => decide (k.number ∈ ns) && decide (k.state = .stalled))).length))) ∧
      (∀ d : Nat, b.almanac.find? (fun e => e.day == d) =
        ((stored.reverse.find? (fun e => e.day == d)) <|> (s.blocks.almanac.find? (fun e => e.day == d)))) ∧
      (∀ e ∈ days, e ∈ stored ↔ ∀ now, s.blocks.time.now = some now → now / 86400000 - 7 ≤ (e.day : Int)) ∧
      ns.Pairwise (· < ·) ∧
      (∀ n, n ∈ ns ↔ ∃ k ∈ s.blocks.bookings, k.number = n ∧
        (k.state = .stalled ∨ (k.state = .scheduled ∧
          ((∀ t, k.fields.start ≠ .clock t) ∨ ∃ a, k.fields.finish = .anchored a ∧ ∀ t, a ≠ .clock t) ∧
          ∃ e, s.blocks.upcoming? n = some e ∧ (e.estimated = true ∨ ∃ x ∈ stored, x.day = e.day ∨ x.day = e.day + 1)))) ∧
      b = placeBatch true ns (forEach ns removeEntry { s.blocks with almanac := b.almanac }) ∧
      b.time = s.blocks.time ∧ b.cue = s.blocks.cue) ∧
  (∀ (s : State) (r : Request) (days : List AlmanacDay), AsksFor s r (.loadAlmanac days) → days.length ≤ 16 →
    (∀ e ∈ days, e.day ≤ 65535 ∧ e.sunset < 86400000 ∧ e.sunrise < 86400000) →
    400 < s.blocks.almanac.length + (s.blocks.newDays (s.blocks.toStore days)).length →
    exec .loadAlmanac s = .next (replied s r s.blocks (refuseWith .tableFull (.almanacHeld s.blocks.almanac.length))))

/-! ## The Cue Clock Receiver -/

/-- CUE_WORD (R127 to R130, R132): a word with a bad check value or a time out of range is only counted; a valid one is stored,
reports a change of the running flag, moves the state by its advance, reports a change of the state, and in Locked sets every
Following position; with neither changed nothing is reported. -/
def Obligations.CueWordsMoveTheReceiver : Prop :=
  (∀ (s : State) (ok : Bool) (time : Nat) (running : Bool), (ok = false ∨ 86400000 ≤ time) →
    exec (.cueWord ok time running) s = .next { s with blocks := { s.blocks with
      cue := { s.blocks.cue with rejected := min 65535 (s.blocks.cue.rejected + 1) } } }) ∧
  (∀ (s : State) (time : Nat) (running : Bool), time < 86400000 →
    ∃ t : State, exec (.cueWord true time running) s = .next t ∧ t.port = s.port ∧ t.blocks.cue.last = some time ∧
      t.blocks.cue.ticks = 0 ∧ t.blocks.cue.silentFrom = some s.blocks.ownUs ∧ t.blocks.cue.running = running ∧
      t.blocks.time = s.blocks.time ∧ t.blocks.bookings = s.blocks.bookings ∧ t.blocks.holding = s.blocks.holding ∧
      (s.blocks.cue.running ≠ running → ChangeKind.cuePause ∈ s.blocks.mask →
        ∃ e ∈ t.blocks.notices, e.record = .cueClock ∧ ChangeKind.cuePause ∈ e.changes) ∧
      (t.blocks.cue.state ≠ s.blocks.cue.state → Told t.blocks .cueClock .cueState) ∧
      (t.blocks.cue.state = s.blocks.cue.state → s.blocks.cue.running = running → t.blocks.notices = s.blocks.notices) ∧
      (s.blocks.cue.state = .silent → t.blocks.cue.state = .acquiring ∧ t.blocks.cue.run = 1 ∧
        t.blocks.active = s.blocks.active) ∧
      (s.blocks.cue.state = .acquiring → s.blocks.cue.run = 1 →
        (∃ l, s.blocks.cue.last = some l ∧ l ≤ time ∧ time ≤ l + 250) →
        t.blocks.cue.state = .acquiring ∧ t.blocks.cue.run = 2 ∧ t.blocks.active = s.blocks.active) ∧
      (s.blocks.cue.state = .acquiring → s.blocks.cue.run ≠ 1 →
        (∃ l, s.blocks.cue.last = some l ∧ l ≤ time ∧ time ≤ l + 250) →
        t.blocks.cue.state = .locked ∧ t.blocks.cue.run = 3 ∧ t.blocks.active = s.blocks.active.map (fun o =>
          if o.follow = .awaiting ∨ o.follow = .following then
            { o with follow := .following, position := (time : Int) - s.blocks.offsetOf o.number } else o)) ∧
      (s.blocks.cue.state = .acquiring →
        (∀ l, s.blocks.cue.last = some l → time < l ∨ l + 250 < time) →
        t.blocks.cue.state = .acquiring ∧ t.blocks.cue.run = 1 ∧ t.blocks.active = s.blocks.active) ∧
      (s.blocks.cue.state = .locked → t.blocks.cue.state = .locked ∧ t.blocks.active = s.blocks.active.map (fun o =>
        if o.follow = .following then { o with position := (time : Int) - s.blocks.offsetOf o.number } else o) ∧
        t.blocks.cue.jumps = (match s.blocks.cue.last with
          | some l => if l ≤ time ∧ time ≤ l + 250 then s.blocks.cue.jumps else min 65535 (s.blocks.cue.jumps + 1)
          | none => min 65535 (s.blocks.cue.jumps + 1))))

/-- SILENCE_TIMEOUT (R128, R133): the receiver becomes Silent with run 0 and the timer stopped, and CueState is reported; if it was Locked every Following
occurrence is set Free, keeps its position, and reports FollowLost. That the row stands at own count t0 + 250,000 is the model's
choice (assumption logs 2 and 18). -/
def Obligations.SilenceLosesLock : Prop :=
  ∀ (s : State) (t0 : Nat), s.blocks.cue.silentFrom = some t0 → s.blocks.cue.state ≠ .silent →
    ∃ t : State, exec .silenceTimeout s = .next t ∧ t.port = s.port ∧
      t.blocks.cue = { s.blocks.cue with state := .silent, run := 0, silentFrom := none } ∧ Told t.blocks .cueClock .cueState ∧
      t.blocks.ownUs = max s.blocks.ownUs (t0 + 250000) ∧
      t.blocks.active = (if s.blocks.cue.state = .locked then s.blocks.active.map (fun o =>
        if o.follow = .following then { o with follow := .free } else o) else s.blocks.active) ∧
      (s.blocks.cue.state = .locked → ChangeKind.followLost ∈ s.blocks.mask →
        ∀ o ∈ s.blocks.active, o.follow = .following →
          ∃ e ∈ t.blocks.notices, e.record = .booking o.number ∧ ChangeKind.followLost ∈ e.changes) ∧
      t.blocks.bookings = s.blocks.bookings ∧ t.blocks.holding = s.blocks.holding ∧ t.blocks.time = s.blocks.time

/-- FOLLOW_AGAIN (R134): with the cue Locked, a Running booking's occurrence becomes Following at the cue estimate less its
offset; with the cue not Locked the request is refused with NotLocked. A number that names no booking is OutOfRange, one of a free
slot NoSuchRecord, and a booking that is not Running or has no Follow field WrongState. -/
def Obligations.FollowAgainTiesTheOccurrence : Prop :=
  (∀ (s : State) (r : Request) (n : Nat) (a : ReplyBody), AsksFor s r (.followAgain n) →
    a = .followRefused ((s.blocks.active? n).map (fun o => o.follow)) s.blocks.cue.state →
    ((n = 0 ∨ 65534 < n) → exec .followAgain s = .next (replied s r s.blocks (refuseWith .outOfRange a))) ∧
    (1 ≤ n → n ≤ 65534 → s.blocks.booking? n = none →
      exec .followAgain s = .next (replied s r s.blocks (refuseWith .noSuchRecord a))) ∧
    (∀ k, 1 ≤ n → n ≤ 65534 → s.blocks.booking? n = some k →
      (s.blocks.active? n = none ∨ k.fields.follow = none ∨ k.state ≠ .running) →
      exec .followAgain s = .next (replied s r s.blocks (refuseWith .wrongState a)))) ∧
  ∀ (s : State) (r : Request) (n off : Nat) (k : Booking) (o : Occurrence), AsksFor s r (.followAgain n) → 1 ≤ n → n ≤ 65534 →
    s.blocks.booking? n = some k → s.blocks.active? n = some o → k.fields.follow = some off → k.state = .running →
    (s.blocks.cue.state = .locked →
      exec .followAgain s = .next (replied s r
        { s.blocks with active := s.blocks.active.map (fun x => if x.number = n then
            { x with follow := .following, position := ((s.blocks.cue.estimate.getD 0 : Nat) : Int) - off } else x) }
        (okWith (.followed .following (((s.blocks.cue.estimate.getD 0 : Nat) : Int) - off) (s.blocks.cue.estimate.getD 0))))) ∧
    (s.blocks.cue.state ≠ .locked →
      exec .followAgain s =
        .next (replied s r s.blocks (refuseWith .notLocked (.followRefused (some o.follow) s.blocks.cue.state))))

/-! ## Programs and the render -/

/-- PROGRAM_OPEN and PROGRAM_STEPS (R73, R75, R76). An Empty slot becomes Loading with its declared steps taken from the pool; a
value out of its range is refused with OutOfRange, a load that is open with Busy, a slot that is not Empty with WrongState, and too
few free steps with PoolFull. Steps in their ranges with offsets that do not fall are appended in order as they were sent; a step
at fault has the request refused whole with the position of the first. More than 16 steps are Malformed, a program number above 63
or more steps than declared OutOfRange, and a slot that is not Loading WrongState. That more steps than declared are refused
without a position is the model's choice (assumption log 48). -/
def Obligations.ProgramLoadsTakeSteps : Prop :=
  (∀ (length previous position : Nat) (xs : List StepBody),
    (∀ ys : List Step, stepsOf length previous position xs = .inr ys ↔
      xs = ys.map carriedStep ∧ (∀ y ∈ ys, StepFits length y ∧ previous ≤ y.offset) ∧
        (ys.map (fun y => y.offset)).Pairwise (· ≤ ·)) ∧
    (∀ i : Nat, stepsOf length previous position xs = .inl i ↔
      ∃ (ys : List Step) (x : StepBody) (rest : List StepBody), xs = ys.map carriedStep ++ x :: rest ∧ i = position + ys.length ∧
        stepsOf length previous position (ys.map carriedStep) = .inr ys ∧
        ∀ zs, stepsOf length previous position (ys.map carriedStep ++ [x]) ≠ .inr zs)) ∧
  (∀ (s : State) (r : Request) (n steps length : Nat) (ea : Code EndAction) (fb : Levels),
    AsksFor s r (.programOpen n steps length ea fb) →
    (64 ≤ n ∨ steps = 0 ∨ 512 < steps ∨ length < 1000 ∨ 21600000 < length ∨ ¬Capped 1000 fb ∨ ea = .unknown) →
    exec .programOpen s = .next (replied s r s.blocks (refuseWith .outOfRange (.freeCount s.blocks.freeCount)))) ∧
  (∀ (s : State) (r : Request) (n : Nat) (xs : List StepBody) (c : Option (Nat × Nat)), AsksFor s r (.programSteps n xs) →
    c = (match s.blocks.program n with
      | .loading p => some (p.steps.length, p.declared)
      | .ready p => some (p.steps.length, p.declared)
      | .empty => none) →
    (16 < xs.length → exec .programSteps s = .next (replied s r s.blocks (refuseWith .malformed (.appended c none)))) ∧
    (xs.length ≤ 16 → 64 ≤ n →
      exec .programSteps s = .next (replied s r s.blocks (refuseWith .outOfRange (.appended c none)))) ∧
    (xs.length ≤ 16 → n < 64 → (∀ p, s.blocks.program n ≠ .loading p) →
      exec .programSteps s = .next (replied s r s.blocks (refuseWith .wrongState (.appended c none)))) ∧
    (∀ p, xs.length ≤ 16 → n < 64 → s.blocks.program n = .loading p → p.declared < p.steps.length + xs.length →
      exec .programSteps s = .next (replied s r s.blocks (refuseWith .outOfRange (.appended c none))))) ∧
  (∀ (s : State) (r : Request) (n steps length : Nat) (ea : EndAction) (fb : Levels),
    AsksFor s r (.programOpen n steps length (.known ea) fb) → n < 64 → 1 ≤ steps → steps ≤ 512 → 1000 ≤ length →
    length ≤ 21600000 → Capped 1000 fb → s.blocks.programs.length = 64 →
    (s.blocks.loadOpen = true →
      exec .programOpen s = .next (replied s r s.blocks (refuseWith .busy (.freeCount s.blocks.freeCount)))) ∧
    (s.blocks.loadOpen = false → s.blocks.program n ≠ .empty →
      exec .programOpen s = .next (replied s r s.blocks (refuseWith .wrongState (.freeCount s.blocks.freeCount)))) ∧
    (s.blocks.loadOpen = false → s.blocks.program n = .empty → s.blocks.freeCount < steps →
      exec .programOpen s = .next (replied s r s.blocks (refuseWith .poolFull (.freeCount s.blocks.freeCount)))) ∧
    (s.blocks.loadOpen = false → s.blocks.program n = .empty → steps ≤ s.blocks.freeCount →
      exec .programOpen s = .next (replied s r
        { s.blocks with programs := s.blocks.programs.set n (.loading ⟨length, ea, fb, steps, []⟩) }
        (okWith (.freeCount (s.blocks.freeCount - steps)))))) ∧
  (∀ (s : State) (r : Request) (n : Nat) (xs : List StepBody) (p : ProgramData), AsksFor s r (.programSteps n xs) → n < 64 →
    xs.length ≤ 16 → s.blocks.program n = .loading p → p.steps.length + xs.length ≤ p.declared →
    (∀ ys, stepsOf p.length (lastOffset p) 1 xs = .inr ys →
      ys.length = xs.length ∧
      exec .programSteps s = .next (replied s r
        { s.blocks with programs := s.blocks.programs.set n (.loading { p with steps := p.steps ++ ys }) }
        (okWith (.appended (some (p.steps.length + xs.length, p.declared)) none)))) ∧
    (∀ i, stepsOf p.length (lastOffset p) 1 xs = .inl i →
      1 ≤ i ∧ i ≤ xs.length ∧
      exec .programSteps s = .next (replied s r s.blocks
        (refuseWith .outOfRange (.appended (some (p.steps.length, p.declared)) (some i))))))

/-- PROGRAM_CLOSE and PROGRAM_REMOVE (R77, R78): a complete load becomes Ready and a short one is discarded with OutOfRange; a
Loading slot or an unreferenced Ready one is emptied, and a referenced one is refused with InUse. A number above 63 is OutOfRange;
a Close of a slot that is not Loading is WrongState, and a Remove of an Empty slot NoSuchRecord. -/
def Obligations.ProgramCloseAndRemove : Prop :=
  (∀ (s : State) (r : Request) (n : Nat), AsksFor s r (.programClose n) →
    (64 ≤ n → exec .programClose s =
      .next (replied s r s.blocks (refuseWith .outOfRange (.closed none s.blocks.freeCount)))) ∧
    (n < 64 → (∀ p, s.blocks.program n ≠ .loading p) → exec .programClose s =
      .next (replied s r s.blocks (refuseWith .wrongState (.closed none s.blocks.freeCount))))) ∧
  (∀ (s : State) (r : Request) (n : Nat), AsksFor s r (.programRemove n) →
    (64 ≤ n → exec .programRemove s =
      .next (replied s r s.blocks (refuseWith .outOfRange (.freeCount s.blocks.freeCount)))) ∧
    (n < 64 → s.blocks.program n = .empty → exec .programRemove s =
      .next (replied s r s.blocks (refuseWith .noSuchRecord (.freeCount s.blocks.freeCount))))) ∧
  (∀ (s : State) (r : Request) (n : Nat) (p : ProgramData), AsksFor s r (.programClose n) → n < 64 →
    s.blocks.program n = .loading p → p.steps.length = p.declared →
    ∃ b : Blocks, b = { s.blocks with programs := s.blocks.programs.set n (.ready p) } ∧
      exec .programClose s = .next (replied s r b (okWith (.closed none b.freeCount)))) ∧
  (∀ (s : State) (r : Request) (n : Nat) (p : ProgramData), AsksFor s r (.programClose n) → n < 64 →
    s.blocks.program n = .loading p → p.steps.length ≠ p.declared →
    ∃ b : Blocks, b = { s.blocks with programs := s.blocks.programs.set n .empty } ∧
      exec .programClose s =
        .next (replied s r b (refuseWith .outOfRange (.closed (some (p.steps.length, p.declared)) b.freeCount)))) ∧
  (∀ (s : State) (r : Request) (n : Nat) (p : ProgramData), AsksFor s r (.programRemove n) → n < 64 →
    (s.blocks.program n = .loading p ∨ (s.blocks.program n = .ready p ∧ ∀ k ∈ s.blocks.bookings, k.fields.program ≠ n)) →
    ∃ b : Blocks, b = { s.blocks with programs := s.blocks.programs.set n .empty } ∧
      exec .programRemove s = .next (replied s r b (okWith (.freeCount b.freeCount)))) ∧
  (∀ (s : State) (r : Request) (n : Nat) (p : ProgramData) (k : Booking), AsksFor s r (.programRemove n) → n < 64 →
    s.blocks.program n = .ready p → k ∈ s.blocks.bookings → k.fields.program = n →
    exec .programRemove s = .next (replied s r s.blocks
      (refuseWith .inUse (.references (s.blocks.bookings.filter (fun k => k.fields.program == n)).length s.blocks.freeCount))))

/-- A chase (R87): the head, the band for Up and for Down, dark outside it, the token None, and roles a period apart alike. Beside
it the other looks: the effective position (R82); dark before the first applicable step, and else the last applicable step reached
(R84), replaced by the program's fallback look when its kind is not available to the zone or barred (R89, R90); the from-colour and
the fade of a Static step (R85), the Pulse (R86), and the tokens of Sparkle and Sweep (R88). -/
def Obligations.ChaseLightsItsBand : Prop :=
  (∀ (p : ProgramData) (position : Int), 1 ≤ p.length →
    (p.endAction = .hold → (effectivePosition p position : Int) = max 0 (min position p.length)) ∧
    (p.endAction = .loop → 0 ≤ position → (effectivePosition p position : Int) = position % p.length) ∧
    (p.endAction = .loop → position < 0 → effectivePosition p position = 0)) ∧
  (∀ (p : ProgramData) (position : Int) (role q : Nat) (permitted local_ barred : List StepKind),
    q = effectivePosition p position →
    ((∀ y ∈ p.steps, y.low ≤ role → role ≤ y.high → q < y.offset) →
      lookOf p position role permitted local_ barred = ⟨⟨0, 0, 0, 0⟩, .plain⟩) ∧
    (∀ (pre post : List Step) (y : Step) (k : StepKind), p.steps = pre ++ y :: post → y.low ≤ role → role ≤ y.high →
      y.offset ≤ q → (∀ x ∈ post, x.low ≤ role → role ≤ x.high → q < x.offset) → k = effectKind y.effect →
      ((k ∈ barred ∨ (k ∈ [StepKind.pulse, .chase] ∧ k ∉ permitted) ∨ (k ∈ [StepKind.sparkle, .sweep] ∧ k ∉ local_)) →
        lookOf p position role permitted local_ barred = ⟨p.fallback, .plain⟩) ∧
      (k ∉ barred → (k ∈ [StepKind.pulse, .chase] → k ∈ permitted) → (k ∈ [StepKind.sparkle, .sweep] → k ∈ local_) →
        lookOf p position role permitted local_ barred = renderStep y (fromColour p role q) (q - y.offset) role ∧
        (∀ (pre' : List Step) (x : Step) (mid : List Step), pre = pre' ++ x :: mid → x.low ≤ role → role ≤ x.high →
          x.offset ≤ q → (∀ m ∈ mid, m.low ≤ role → role ≤ m.high → q < m.offset) → fromColour p role q = x.colour) ∧
        ((∀ x ∈ pre, x.low ≤ role → role ≤ x.high → q < x.offset) →
          (p.endAction = .hold → fromColour p role q = ⟨0, 0, 0, 0⟩) ∧
          (p.endAction = .loop → ∀ (pre' : List Step) (z : Step) (post' : List Step), p.steps = pre' ++ z :: post' →
            z.low ≤ role → role ≤ z.high → (∀ x ∈ post', x.low ≤ role → x.high < role) → fromColour p role q = z.colour))))) ∧
  (∀ (at_ low high t role : Nat) (colour from_ : Levels),
    let look := fun (e : Effect) => renderStep ⟨at_, low, high, e, colour⟩ from_ t role
    (∀ fade, fade ≤ t → look (.static fade) = ⟨colour, .plain⟩) ∧
    (∀ fade, t < fade → (look (.static fade)).token = .plain ∧ ∀ g ∈ [Levels.r, Levels.g, Levels.b, Levels.w],
      (g (look (.static fade)).levels : Int) = g from_ + Int.tdiv (((g colour : Int) - g from_) * t) fade) ∧
    (∀ on off, t % (on + off) < on → look (.pulse on off) = ⟨colour, .plain⟩) ∧
    (∀ on off, on ≤ t % (on + off) → look (.pulse on off) = ⟨⟨0, 0, 0, 0⟩, .plain⟩) ∧
    (∀ density, look (.sparkle density) = ⟨colour, .sparkle density⟩) ∧
    (∀ cycle, look (.sweep cycle) = ⟨colour, .sweep cycle⟩)) ∧
  ∀ (at_ low high period width speed q role : Nat) (colour from_ : Levels), 2 ≤ period → at_ ≤ q →
    let h := (q - at_) * speed / 1000 % period
    let look := fun (d : Direction) (r : Nat) => renderStep ⟨at_, low, high, .chase period width speed d, colour⟩ from_ (q - at_) r
    (((role : Int) - h) % period < width → look .up role = ⟨colour, .plain⟩) ∧
    (¬((role : Int) - h) % period < width → look .up role = ⟨⟨0, 0, 0, 0⟩, .plain⟩) ∧
    (((h : Int) - role) % period < width → look .down role = ⟨colour, .plain⟩) ∧
    (¬((h : Int) - role) % period < width → look .down role = ⟨⟨0, 0, 0, 0⟩, .plain⟩) ∧
    (∀ d, look d (role + period) = look d role)

/-- The conversion to a node's layout (R97): the layout is the joint profile's, and the physical channels carry its levels. Beside
it the other stages of a zone: ceiling and trim (R95), gain (R96), curfew ceiling (R98), handover (R99), the classes of a zone
(R92), and the order of the stages in a Lit zone. Stage 1 gives the hold look under Panel Hold, dark without a
holder, and the look of a holder's program as it stands (R81, R94), with the kinds that the curfew bars unless the booking is exempt
(R90); with the slot of the holder's booking freed it gives dark (R94), which the model chooses over R81 for a program not yet removed,
and chooses for a slot freed by retirement (assumption log 46). -/
def Obligations.LayoutConversion : Prop :=
  (∀ (ceiling trim gain k : Nat) (l : Levels) (isOpen exempt : Bool), ∀ g ∈ [Levels.r, Levels.g, Levels.b, Levels.w],
    g (stageCeilingTrim ceiling trim l) = g l * ceiling / 1000 * trim / 1000 ∧
    g (stageGain gain l) = min 1000 ((g l * gain + 512) / 1024) ∧
    g (stageCurfew isOpen exempt k l) = (if isOpen = true ∧ exempt = false then min (g l) k else g l)) ∧
  (∀ (instant : Nat) (layout : Layout) (l : Levels),
    stageHandover instant none layout l = (l, false) ∧
    ∀ h : Handover, h.start ≤ instant →
      (h.layout ≠ layout → stageHandover instant (some h) layout l = (l, true)) ∧
      (h.layout = layout → (stageHandover instant (some h) layout l).2 = false) ∧
      (h.layout = layout → h.length ≤ instant - h.start → (stageHandover instant (some h) layout l).1 = l) ∧
      (h.layout = layout → instant - h.start < h.length → ∀ g ∈ [Levels.r, Levels.g, Levels.b, Levels.w],
        (g (stageHandover instant (some h) layout l).1 : Int) =
          g h.from_ + Int.tdiv (((g l : Int) - g h.from_) * ((instant - h.start : Nat) : Int)) h.length)) ∧
  (∀ (b : Blocks) (taken : Option TakenHolder) (c : Zone),
    let shown := fun (t : TakenHolder) (p : ProgramData) (ceiling : Nat) (exempt : Bool) =>
      (⟨lookOf p t.position c.role c.permitted ((c.profile.map (fun x => x.local_)).getD [])
          (if b.chain.windowOpen = true ∧ exempt = false then (b.chain.curfew.map (fun x => x.barred)).getD [] else []),
        ceiling, some t⟩ : SourceLook)
    let black : SourceLook := ⟨⟨⟨0, 0, 0, 0⟩, .plain⟩, 1000, none⟩
    stageLook b true taken c = ⟨⟨b.chain.holdLook, .plain⟩, 1000, none⟩ ∧
    stageLook b false none c = black ∧
    (∀ (t : TakenHolder) (k : Booking), b.booking? t.number = some k → k.uid = t.uid →
      (∀ p, b.program k.fields.program = .ready p →
        stageLook b false (some t) c = shown t p k.fields.ceiling k.fields.exempt) ∧
      ((∀ p, b.program k.fields.program ≠ .ready p) → stageLook b false (some t) c = black)) ∧
    (∀ t : TakenHolder, (∀ k, b.booking? t.number = some k → k.uid ≠ t.uid) → stageLook b false (some t) c = black)) ∧
  (∀ (b : Blocks) (fl : Flight) (z : Nat) (c : Zone),
    ((c.isProtected = true ∨ c.node.live = false) → renderZone b fl z c = .noLevels) ∧
    (c.isProtected = false → c.node.live = true → (b.feeder c.feeder).tripped = true → renderZone b fl z c = .tripped) ∧
    (∀ (src : SourceLook) (l6 : Levels) (h : Levels × Bool), c.isProtected = false → c.node.live = true →
      (b.feeder c.feeder).tripped = false → src = stageLook b fl.panelHold ((fl.holders[z]?).join) c →
      l6 = stageCurfew b.chain.windowOpen (b.takenExempt src.source) b.curfewCeiling
        (stageLayout c.layout (stageGain (b.face c.face).gain (stageCeilingTrim src.ceiling c.trim src.look.levels))) →
      h = stageHandover fl.instant ((fl.handovers[z]?).join) c.layout l6 →
      renderZone b fl z c = .lit h.1 c.layout src.look.token c.feeder c.watts src.source h.2)) ∧
  ∀ (l watts : Levels) (c : Zone) (p : Profile),
    (c.profile = some p → c.layout = p.layout) ∧
    stageLayout .rgbw l = l ∧
    (physicalChannels .rgbw (stageLayout .rgbw l) watts).map (fun x => x.1) = [l.r, l.g, l.b, l.w] ∧
    (physicalChannels .rgb (stageLayout .rgb l) watts).map (fun x => x.1) =
      [min 1000 (l.r + l.w), min 1000 (l.g + l.w), min 1000 (l.b + l.w)] ∧
    (physicalChannels .mono (stageLayout .mono l) watts).map (fun x => x.1) = [max (max l.r l.g) (max l.b l.w)]

/-- RENDER_START and RENDER_TIMER_EXPIRY_LOST (R91): a render takes the holders, Panel Hold and the handover records at the
expiry; an expiry with a render in flight starts nothing. The own counts of the expiries, the first among them, are the model's
choice (assumption logs 2 and 13), and so is the list of zones whose handover record is rewritten, which is the model's own. -/
def Obligations.RenderStartTakesItsFacts : Prop :=
  (∀ (s : State) (e : Nat), s.blocks.chain.flight = none → e = s.blocks.nextExpiry →
    s.blocks.chain.lastExpiry + 5000 ≤ e ∧ s.blocks.ownUs ≤ e ∧
    exec .renderStart s = .next { s with blocks := { s.blocks with
      ownUs := e
      chain := { s.blocks.chain with
        lastExpiry := e
        flight := some
          { instant := e / 1000
            holders := allZones.map s.blocks.takeHolder
            panelHold := s.blocks.panelHold
            handovers := allZones.map (fun z => (s.blocks.zone? z).bind (fun c => c.handover))
            rewritten := []
            nextZone := 0
            results := List.replicate 96 none } } } }) ∧
  (∀ (s : State) (fl : Flight), s.blocks.chain.flight = some fl →
    exec .renderTimerExpiryLost s = .next { s with blocks := { s.blocks with
      ownUs := s.blocks.nextExpiry
      chain := { s.blocks.chain with lastExpiry := s.blocks.nextExpiry } } })

/-- RENDER_COMPLETION (R93, R99, R100, R104): the render leaves flight and every riser is told of a new render. Each feeder's scale
and load follow the four cases of R100: no Lit zone, budget 0, a demand within the budget, and a demand above it, where the scale is
the largest that fits; no load exceeds its budget, and ScalingChanged is reported exactly when a feeder begins or ceases to be
scaling. A Lit zone shows its levels under its feeder's scale, lowered to K under an open window unless its source is exempt, a
Tripped zone is dark. Each zone's last dispatched levels become those of the latest render, dark for no levels; its handover is
cleared at its length, and by a change of layout when it is the record the render took, and is kept otherwise; nothing else changes.
The model's choices: the zones not yet reached are reached at the completion, with the records as they then stand (assumption log 3);
stage 8 is taken there, with the budgets of now (log 47), over the zones reached after a Reclose too (log 24); and the source whose
exemption counts is the one that the render took, also where another holder has replaced it since (log 53). -/
def Obligations.RenderCompletionKeepsBudgetAndCurfew : Prop :=
  ∀ (s : State) (fl : Flight) (rs : List (Option ZoneResult)), s.blocks.chain.flight = some fl → TablesSized s.blocks →
    rs = allZones.map (fun z =>
      if (s.blocks.zone? z).isSome then ((reachMany s.blocks (96 - fl.nextZone) fl).results[z]?).join else none) →
    ∃ t : State, exec .renderCompletion s = .next t ∧ t.port = s.port ∧
      t.blocks = { s.blocks with
        zones := t.blocks.zones
        risers := s.blocks.risers.map (fun r => { r with newRender := true })
        feeders := t.blocks.feeders
        notices := t.blocks.notices
        chain := { s.blocks.chain with flight := none, latest := t.blocks.chain.latest } } ∧
      (∀ f < 4, ∀ (was now : Feeder) (channels : List (Nat × Nat)) (demand : Nat), was = s.blocks.feeder f → now = t.blocks.feeder f →
        channels = feederChannels rs f → demand = loadAt 1024 channels →
        now = { was with scale := now.scale, load := now.load } ∧ now.load ≤ was.budget ∧ now.scale ≤ 1024 ∧
        (hasLit rs f = false → now.scale = 1024 ∧ now.load = 0) ∧
        (hasLit rs f = true → was.budget = 0 → now.scale = 0 ∧ now.load = 0) ∧
        (hasLit rs f = true → 0 < was.budget → demand ≤ was.budget → now.scale = 1024 ∧ now.load = demand) ∧
        (hasLit rs f = true → 0 < was.budget → was.budget < demand →
          now.scale ≤ was.budget * 1024 / demand ∧ now.load = loadAt now.scale channels ∧
          ∀ n ≤ was.budget * 1024 / demand, loadAt n channels ≤ was.budget → n ≤ now.scale) ∧
        (decide (now.scale < 1024) ≠ decide (was.scale < 1024) → Told t.blocks (.feeder f) .scalingChanged)) ∧
      ((∀ f < 4, decide ((t.blocks.feeder f).scale < 1024) = decide ((s.blocks.feeder f).scale < 1024)) →
        t.blocks.notices = s.blocks.notices) ∧
      (∀ (n : Nat) (channels : List (Nat × Nat)),
        loadAt n channels = (channels.map (fun p => p.1 * n / 1024 * p.2 / 1000)).sum) ∧
      (∀ f, hasLit rs f = true ↔
        ∃ (z : Nat) (l watts : Levels) (layout : Layout) (tok : Token) (src : Option TakenHolder) (ended : Bool),
          rs[z]? = some (some (ZoneResult.lit l layout tok f watts src ended))) ∧
      (∀ (z f : Nat) (l watts : Levels) (layout : Layout) (tok : Token) (src : Option TakenHolder) (ended : Bool), f < 4 →
        rs[z]? = some (some (ZoneResult.lit l layout tok f watts src ended)) →
        ∃ l' : Levels, t.blocks.latestOf z = .levels l' tok ∧ ∀ g ∈ [Levels.r, Levels.g, Levels.b, Levels.w],
          g l' = if s.blocks.chain.windowOpen = true ∧ s.blocks.takenExempt src = false
            then min (g l * (t.blocks.feeder f).scale / 1024) s.blocks.curfewCeiling
            else g l * (t.blocks.feeder f).scale / 1024) ∧
      (∀ z, rs[z]? = some (some .tripped) → t.blocks.latestOf z = .levels ⟨0, 0, 0, 0⟩ .plain) ∧
      (∀ z, rs[z]? = some (some .noLevels) → t.blocks.latestOf z = .noLevels) ∧
      (s.blocks.chain.windowOpen = true → (∀ k ∈ s.blocks.bookings, k.fields.exempt = false) →
        ∀ (z : Nat) (l : Levels) (tok : Token), t.blocks.latestOf z = .levels l tok → Capped s.blocks.curfewCeiling l) ∧
      (∀ z, s.blocks.zone? z = none → z < 96 → t.blocks.zone? z = none ∧ t.blocks.latestOf z = .absent) ∧
      (∀ (z : Nat) (c : Zone), s.blocks.zone? z = some c →
        ∃ d : Zone, t.blocks.zone? z = some d ∧ d = { c with last := d.last, handover := d.handover } ∧
          (∀ l tok, t.blocks.latestOf z = .levels l tok → d.last = l) ∧
          (t.blocks.latestOf z = .noLevels → d.last = ⟨0, 0, 0, 0⟩) ∧ (t.blocks.latestOf z = .absent → d.last = c.last) ∧
          (c.handover = none → d.handover = none) ∧
          (∀ h, c.handover = some h → h.start + h.length ≤ fl.instant → d.handover = none) ∧
          (∀ h, c.handover = some h → fl.instant < h.start + h.length →
            (z ∈ fl.rewritten → d.handover = some h) ∧
            ((∀ (l watts : Levels) (layout : Layout) (tok : Token) (f : Nat) (src : Option TakenHolder),
              rs[z]? ≠ some (some (ZoneResult.lit l layout tok f watts src true))) → d.handover = some h) ∧
            (z ∉ fl.rewritten → (∃ (l watts : Levels) (layout : Layout) (tok : Token) (f : Nat) (src : Option TakenHolder),
              rs[z]? = some (some (ZoneResult.lit l layout tok f watts src true))) →
              d.handover = none))) ∧
      (∀ (z : Nat) (c : Zone), fl.nextZone = 0 → fl.results.length = 96 → s.blocks.zone? z = some c →
        rs[z]? = some (some (renderZone s.blocks fl z c)) ∧
        ((c.isProtected = true ∨ c.node.live = false) → t.blocks.latestOf z = .noLevels) ∧
        (∀ h, c.handover = some h → fl.instant < h.start + h.length →
          (∀ x, fl.handovers[z]? = some (some x) → x.layout = c.layout) →
          ∃ d, t.blocks.zone? z = some d ∧ d.handover = some h) ∧
        (c.isProtected = false → c.node.live = true → ∃ l tok, t.blocks.latestOf z = .levels l tok ∧
          ((s.blocks.feeder c.feeder).tripped = true → l = ⟨0, 0, 0, 0⟩) ∧
          (s.blocks.chain.windowOpen = true →
            (fl.panelHold = true ∨ s.blocks.takenExempt ((fl.holders[z]?).join) = false) → Capped s.blocks.curfewCeiling l) ∧
          (∀ h, (s.blocks.feeder c.feeder).tripped = false → fl.handovers[z]? = some (some h) → h.layout ≠ c.layout →
            z ∉ fl.rewritten → t.blocks.zone? z = some { c with last := l, handover := none })))

/-! ## The Level Chain's settings, the curfew and Panel Hold -/

/-- CURFEW_OPENING (R103): every configured non-protected zone whose source is not exempt is lowered to K in the latest render,
the last dispatched levels and the handover's from-levels; every other zone keeps its record; Curfew Active follows. -/
def Obligations.CurfewOpeningLowersTheFacade : Prop :=
  ∀ s : State, s.blocks.windowDue = true → s.blocks.chain.windowOpen = false → TablesSized s.blocks →
    ∃ t : State, exec .curfewOpening s = .next t ∧ t.port = s.port ∧ t.blocks.chain.windowOpen = true ∧
      (∀ (z : Nat) (c : Zone), t.blocks.zone? z = some c → c.isProtected = false → s.blocks.sourceExempt z = false →
        Capped s.blocks.curfewCeiling c.last ∧
        (∀ h, c.handover = some h → Capped s.blocks.curfewCeiling h.from_) ∧
        (∀ l tok, t.blocks.latestOf z = .levels l tok → Capped s.blocks.curfewCeiling l)) ∧
      (∀ z, (s.blocks.showable z = false ∨ s.blocks.sourceExempt z = true) →
        t.blocks.zone? z = s.blocks.zone? z ∧ t.blocks.latestOf z = s.blocks.latestOf z) ∧
      (∀ (z : Nat) (c : Zone), s.blocks.zone? z = some c → c.isProtected = false → s.blocks.sourceExempt z = false →
        t.blocks.zone? z = some { c with
          last := capLevels s.blocks.curfewCeiling c.last
          handover := c.handover.map (fun h => { h with from_ := capLevels s.blocks.curfewCeiling h.from_ }) } ∧
        t.blocks.latestOf z = (s.blocks.latestOf z).cap s.blocks.curfewCeiling) ∧
      (∀ (k : Nat) (l : Levels), capLevels k l = ⟨min l.r k, min l.g k, min l.b k, min l.w k⟩) ∧
      t.blocks = { s.blocks with
        zones := t.blocks.zones
        chain := { s.blocks.chain with windowOpen := true, latest := t.blocks.chain.latest }
        curfewActive := { s.blocks.curfewActive with
          output := match s.blocks.curfewActive.source with | .schedule => true | .operator => s.blocks.curfewActive.command } }

/-- PANEL_HOLD_ASSERTION, PANEL_HOLD_RELEASE, CURFEW_CLOSING and SET_HOLD_LOOK (R63, R65, R103, R108): every configured
non-protected zone that the event names gets a handover of the schedule default from its last dispatched levels, lowered to K with
its latest render where the window is open and the new source not exempt (R101); a render in flight no longer has those records as
it took them (R99); the closing deasserts Curfew Active under Schedule; no holding, occurrence or notice changes. -/
def Obligations.FacadeWideHandovers : Prop :=
  (∀ (s : State) (b : Blocks), s.blocks.panelHold = false → TablesSized s.blocks → b = { s.blocks with panelHold := true } →
    ∃ t : State, exec .panelHoldAssertion s = .next t ∧ t.port = s.port ∧ (∀ z, t.blocks.zone? z = handedOver? b z) ∧
      (∀ z, t.blocks.latestOf z =
        if b.showable z = true ∧ b.chain.windowOpen = true then (b.latestOf z).cap b.curfewCeiling else b.latestOf z) ∧
      t.blocks = { b with
        zones := t.blocks.zones
        chain := { b.chain with
          latest := t.blocks.chain.latest
          flight := b.chain.flight.map (fun fl =>
            { fl with rewritten := (allZones.filter b.showable).reverse ++ fl.rewritten }) } }) ∧
  (∀ (s : State) (b : Blocks), s.blocks.panelHold = true → TablesSized s.blocks → b = { s.blocks with panelHold := false } →
    ∃ t : State, exec .panelHoldRelease s = .next t ∧ t.port = s.port ∧ (∀ z, t.blocks.zone? z = handedOver? b z) ∧
      (∀ z, t.blocks.latestOf z =
        if b.showable z = true ∧ b.chain.windowOpen = true ∧ b.sourceExempt z = false
          then (b.latestOf z).cap b.curfewCeiling else b.latestOf z) ∧
      t.blocks = { b with
        zones := t.blocks.zones
        chain := { b.chain with
          latest := t.blocks.chain.latest
          flight := b.chain.flight.map (fun fl =>
            { fl with rewritten := (allZones.filter b.showable).reverse ++ fl.rewritten }) } }) ∧
  (∀ (s : State) (b : Blocks), s.blocks.windowDue = false → s.blocks.chain.windowOpen = true → TablesSized s.blocks →
    b = { s.blocks with chain := { s.blocks.chain with windowOpen := false } } →
    ∃ t : State, exec .curfewClosing s = .next t ∧ t.port = s.port ∧ t.blocks.chain.windowOpen = false ∧
      (∀ z, t.blocks.zone? z = (if s.blocks.sourceExempt z then s.blocks.zone? z else handedOver? b z)) ∧
      t.blocks = { b with
        zones := t.blocks.zones
        chain := { b.chain with flight := b.chain.flight.map (fun fl =>
          { fl with rewritten :=
              (allZones.filter (fun z => s.blocks.showable z && !s.blocks.sourceExempt z)).reverse ++ fl.rewritten }) }
        curfewActive := { s.blocks.curfewActive with
          output := match s.blocks.curfewActive.source with | .schedule => false | .operator => s.blocks.curfewActive.command } }) ∧
  (∀ (s : State) (r : Request) (l : Levels) (b : Blocks), AsksFor s r (.setHoldLook l) → Capped 1000 l → TablesSized s.blocks →
    b = { s.blocks with chain := { s.blocks.chain with holdLook := l } } →
    ∃ b' : Blocks, exec .setHoldLook s = .next (replied s r b' (okWith .empty)) ∧
      (∀ z, b'.zone? z = (if s.blocks.panelHold then handedOver? b z else s.blocks.zone? z)) ∧
      (∀ z, b'.latestOf z =
        if s.blocks.panelHold = true ∧ b.showable z = true ∧ b.chain.windowOpen = true
          then (b.latestOf z).cap b.curfewCeiling else b.latestOf z) ∧
      b' = { b with
        zones := b'.zones
        chain := { b.chain with
          latest := b'.chain.latest
          flight := if s.blocks.panelHold then b.chain.flight.map (fun fl =>
            { fl with rewritten := (allZones.filter b.showable).reverse ++ fl.rewritten }) else b.chain.flight } }) ∧
  (∀ (s : State) (r : Request) (l : Levels), AsksFor s r (.setHoldLook l) → ¬Capped 1000 l →
    exec .setHoldLook s = .next (replied s r s.blocks (refuse .outOfRange)))

/-- SET_CURFEW, SET_AMBIENT and CONFIGURE_SCHEDULE (R35, R102, R103, R107, R109): a field out of its range is refused with OutOfRange
and changes nothing. Accepted curfew settings are stored and the window is open exactly when now and the new settings put it so; an
opening, and a lower K under a window that stays open, lowers the zones whose source is not exempt to K, a closing hands them over,
and Curfew Active follows; the reply shows the window. Accepted ambient settings are stored, the gains are clamped to changed limits
and Resettle reloads the settle counts. An accepted arm lead and default handover are stored, and a changed arm lead arms what lies
within it. -/
def Obligations.LevelChainSettings : Prop :=
  (∀ (s : State) (r : Request) (a e k : Nat) (barred : List StepKind), AsksFor s r (.setCurfew (.window a e k barred)) →
    a ≤ 1439 → e ≤ 1439 → k ≤ 1000 → StepKind.static ∉ barred → TablesSized s.blocks →
    ∃ (b : Blocks) (c : Curfew), exec .setCurfew s = .next (replied s r b (okWith (.curfewWindow b.chain.windowOpen))) ∧
      c.startMinute = a ∧ c.endMinute = e ∧ c.ceiling = k ∧ (∀ x, x ∈ c.barred ↔ x ∈ barred) ∧
      CurfewStored s.blocks b (some c) ∧
      (b.chain.windowOpen = true ↔ ∃ now, s.blocks.time.now = some now ∧
        ((a < e ∧ (a : Int) * 60000 ≤ now % 86400000 ∧ now % 86400000 < (e : Int) * 60000) ∨
          (e < a ∧ ((a : Int) * 60000 ≤ now % 86400000 ∨ now % 86400000 < (e : Int) * 60000))))) ∧
  (∀ (s : State) (r : Request), AsksFor s r (.setCurfew .off) → TablesSized s.blocks →
    ∃ b : Blocks, exec .setCurfew s = .next (replied s r b (okWith (.curfewWindow false))) ∧ b.chain.windowOpen = false ∧
      CurfewStored s.blocks b none) ∧
  (∀ (s : State) (r : Request) (a e k : Nat) (barred : List StepKind), AsksFor s r (.setCurfew (.window a e k barred)) →
    (1439 < a ∨ 1439 < e ∨ 1000 < k ∨ StepKind.static ∈ barred) →
    exec .setCurfew s = .next (replied s r s.blocks (refuse .outOfRange))) ∧
  (∀ a : Ambient, ambientInRange a = true ↔ 128 ≤ a.gmin ∧ a.gmin ≤ a.gmax ∧ a.gmax ≤ 4096 ∧ a.aref ≤ 4095 ∧
    1 ≤ a.sFast ∧ a.sFast ≤ 255 ∧ 1 ≤ a.sSlow ∧ a.sSlow ≤ 255 ∧ a.settle ≤ 255) ∧
  (∀ (s : State) (r : Request) (x : AmbientBody) (a : Ambient), AsksFor s r (.setAmbient x) →
    a = ⟨x.gmin.getD s.blocks.chain.ambient.gmin, x.gmax.getD s.blocks.chain.ambient.gmax,
      x.aref.getD s.blocks.chain.ambient.aref, x.sFast.getD s.blocks.chain.ambient.sFast,
      x.sSlow.getD s.blocks.chain.ambient.sSlow, x.settle.getD s.blocks.chain.ambient.settle⟩ →
    (ambientInRange a = false → exec .setAmbient s = .next (replied s r s.blocks (refuse .outOfRange))) ∧
    (ambientInRange a = true →
      ∃ b : Blocks, exec .setAmbient s = .next (replied s r b (okWith (.gains (b.chain.faces.map (fun f => f.gain))))) ∧
        b = { s.blocks with chain := { s.blocks.chain with ambient := a, faces := s.blocks.chain.faces.map (fun f =>
          { f with
            gain := if a.gmin = s.blocks.chain.ambient.gmin ∧ a.gmax = s.blocks.chain.ambient.gmax then f.gain
              else min (max f.gain a.gmin) a.gmax
            settle := if x.resettle then a.settle else f.settle }) } })) ∧
  (∀ (s : State) (r : Request) (lead handover : Option Nat), AsksFor s r (.configureSchedule lead handover) →
    ((∃ x, lead = some x ∧ 120 < x) ∨ ∃ x, handover = some x ∧ 5000 < x) →
    exec .configureSchedule s = .next (replied s r s.blocks (refuse .outOfRange))) ∧
  (∀ (s : State) (r : Request) (lead handover : Option Nat) (l h : Nat), AsksFor s r (.configureSchedule lead handover) →
    l = lead.getD s.blocks.armLead → h = handover.getD s.blocks.chain.defaultHandover → (∀ x, lead = some x → x ≤ 120) →
    (∀ x, handover = some x → x ≤ 5000) →
    ∃ b : Blocks, exec .configureSchedule s = .next (replied s r b (okWith (.schedule l h))) ∧ b.armLead = l ∧
      b.chain = { s.blocks.chain with defaultHandover := h } ∧ b.bookings = s.blocks.bookings ∧ b.active = s.blocks.active ∧
      b.upcoming.map (fun e => { e with armed := true }) = s.blocks.upcoming.map (fun e => { e with armed := true }) ∧
      (∀ e ∈ s.blocks.upcoming, e.armed = true → e ∈ b.upcoming) ∧
      (l = s.blocks.armLead → b.upcoming = s.blocks.upcoming) ∧
      (l ≠ s.blocks.armLead → ∀ now, s.blocks.time.now = some now →
        ∀ e ∈ b.upcoming, e.start - (l : Int) * 1000 ≤ now → now < e.start → e.armed = true))

/-! ## Bookings, windows and occurrences -/

/-- BOOK (R2, R3, R7, R13 to R15, section 11.6): the body's bits give the booking's fields in their normal form; before civil time
is set a booking that passes every check fills a slot and is Held; once it is set, a window found later than now makes it Scheduled
with an Upcoming entry, armed at once within its lead, a due one Running, a day without almanac time Stalled, and none left
Retiring, given up at once with Retired masked; the warnings are those of R15; the checks 1 to 6 refuse in their order and change
nothing. The model's choices: a weekday byte with bit 7 set lies outside its range (assumption log 9), and so does a flag other than 0
and 1 (log 51); and an active occurrence whose end lies at or before the test instant casts no shadow (log 35). -/
def Obligations.BookFillsASlot : Prop :=
  (∀ (x : BookingBody) (f : BookingFields), bookFields x = some f →
    f.tier.rank = x.tier.toNat ∧ f.program = x.program.toNat ∧ f.program < 64 ∧ f.ceiling = x.ceiling.toNat ∧ f.ceiling ≤ 1000 ∧
    f.exempt = decide (x.exempt = 1) ∧ (f.exempt = true → f.tier = .civic ∨ f.tier = .urgent) ∧ f.zones ≠ [] ∧
    (∀ z, z ∈ f.zones ↔ z < 96 ∧ x.zones.getLsbD z = true) ∧
    f.follow = (if x.followFlag = 1 then some x.follow.toNat else none) ∧
    f.handover = (if x.handoverFlag = 1 then some x.handover.toNat else none) ∧
    (∀ d, d ∈ f.skip ↔ d ∈ ([x.skip1, x.skip2, x.skip3, x.skip4].take x.skipCount.toNat).map (fun d => d.toNat)) ∧
    f.skip.Pairwise (· < ·) ∧
    (x.kind.toNat = 0 → f.pattern = ⟨.once, x.first.toNat, x.first.toNat, []⟩) ∧
    (x.kind.toNat = 1 → f.pattern = ⟨.daily, x.first.toNat, x.last.toNat, []⟩) ∧
    (x.kind.toNat = 2 → f.pattern = ⟨.weekly, x.first.toNat, x.last.toNat, f.pattern.weekdays⟩ ∧
      ∀ i, i ∈ f.pattern.weekdays ↔ i < 7 ∧ x.weekdays.getLsbD i = true) ∧
    (x.startKind.toNat = 0 → f.start = .clock x.startValue.toNat) ∧
    (x.startKind.toNat = 1 → f.start = .sunset x.startValue.toInt) ∧
    (x.startKind.toNat = 2 → f.start = .sunrise x.startValue.toInt) ∧
    (x.endKind.toNat = 0 → f.finish = .duration x.endValue.toNat) ∧
    (x.endKind.toNat = 1 → f.finish = .anchored (.clock x.endValue.toNat)) ∧
    (x.endKind.toNat = 2 → f.finish = .anchored (.sunset x.endValue.toInt)) ∧
    (x.endKind.toNat = 3 → f.finish = .anchored (.sunrise x.endValue.toInt))) ∧
  (∀ x : BookingBody, (bookFields x).isSome = true ↔ BodyFits x) ∧
  (∀ (s : State) (r : Request) (x : BookingBody), Asks s r → r.kind = 1 → r.body = .bytes (encodeBookingBody x) →
    (4 < x.skipCount.toNat → exec .book s = .next (replied s r s.blocks (refuse .malformed))) ∧
    (x.skipCount.toNat ≤ 4 → (x.number.toNat = 0 ∨ 65534 < x.number.toNat ∨ ¬BodyFits x) →
      exec .book s = .next (replied s r s.blocks (refuse .outOfRange)))) ∧
  (∀ (s : State) (r : Request) (x : BookingBody) (f : BookingFields) (n : Nat), Asks s r → r.kind = 1 →
    r.body = .bytes (encodeBookingBody x) → n = x.number.toNat → x.skipCount.toNat ≤ 4 → 1 ≤ n → n ≤ 65534 →
    bookFields x = some f →
    (s.blocks.namesProtected f.zones = true → exec .book s = .next (replied s r s.blocks (refuse .isProtected))) ∧
    (s.blocks.namesProtected f.zones = false → (s.blocks.program f.program).isReady = false →
      exec .book s = .next (replied s r s.blocks (refuse .noProgram))) ∧
    (s.blocks.namesProtected f.zones = false → (s.blocks.program f.program).isReady = true →
      (∃ k ∈ s.blocks.bookings, k.number = n) → exec .book s = .next (replied s r s.blocks (refuse .duplicate))) ∧
    (s.blocks.namesProtected f.zones = false → (s.blocks.program f.program).isReady = true →
      (∀ k ∈ s.blocks.bookings, k.number ≠ n) → 256 ≤ s.blocks.bookings.length →
      exec .book s = .next (replied s r s.blocks (refuse .tableFull))) ∧
    (s.blocks.namesProtected f.zones = false → (s.blocks.program f.program).isReady = true →
      (∀ k ∈ s.blocks.bookings, k.number ≠ n) → s.blocks.bookings.length < 256 → s.blocks.upcoming? n = none →
      s.blocks.active? n = none →
      (s.blocks.time.now = none →
        ∃ b : Blocks,
          exec .book s = .next (replied s r b (okWith (.placed .held .noOutcome none))) ∧
          b = { s.blocks with
            bookings := b.bookings, notices := b.notices, nextId := s.blocks.nextId + 1, lastFreed := none } ∧
          (∀ k, k ∈ b.bookings ↔ k = ⟨n, f, .held, none, .noOutcome, 0, s.blocks.nextId, ⟨false, false⟩⟩ ∨ k ∈ s.blocks.bookings) ∧
          (s.blocks.bookings.length + s.blocks.closedCount < 256 → b.notices = s.blocks.notices)) ∧
      (∀ (now : Int) (w : Window) (bd : Option Instant), s.blocks.time.now = some now →
        search s.blocks.almanac s.blocks.time.base now f none = ⟨.window w, bd, false⟩ → now < w.start →
        ∃ (b : Blocks) (a : Answer), exec .book s = .next (replied s r b a) ∧ a.status = .ok ∧
          a.body = .placed .scheduled .noOutcome (b.upcoming? n) ∧ a.warnings.estimated = w.estimated ∧
          a.warnings.noOccurrence = false ∧ a.warnings.stalled = false ∧
          (a.warnings.shadowed = true ↔ ∀ z ∈ f.zones,
            (∃ o ∈ s.blocks.active, f.tier.rank < o.tier.rank ∧ o.start ≤ w.start ∧ w.start < o.finish ∧
              z ∈ s.blocks.zonesOf o.number) ∨
            ∃ e ∈ s.blocks.upcoming, f.tier.rank < e.tier.rank ∧ e.start ≤ w.start ∧ w.start < e.finish ∧
              z ∈ s.blocks.zonesOf e.number) ∧
          (w.estimated = true → Told b (.booking n) .estimated) ∧
          b.booking? n = some ⟨n, f, .scheduled, none, .noOutcome, 0, s.blocks.nextId, w.marks⟩ ∧
          (∀ e, e ∈ b.upcoming ↔ e ∈ s.blocks.upcoming ∨
            e = ⟨n, f.tier, w.day, w.start, w.finish, w.estimated,
              decide (w.start - (s.blocks.armLead : Int) * 1000 ≤ now)⟩) ∧
          b.active = s.blocks.active ∧ b.holding = s.blocks.holding ∧ b.zones = s.blocks.zones ∧ b.time = s.blocks.time) ∧
      (∀ (now : Int) (w : Window) (bd : Option Instant), s.blocks.time.now = some now →
        search s.blocks.almanac s.blocks.time.base now f none = ⟨.window w, bd, false⟩ → w.start ≤ now →
        s.blocks.active.length < 32 →
        ∃ (b : Blocks) (a : Answer), exec .book s = .next (replied s r b a) ∧ a.status = .ok ∧
          a.body = .placed .running .noOutcome none ∧ a.warnings.estimated = w.estimated ∧ a.warnings.noOccurrence = false ∧
          a.warnings.stalled = false ∧ b.upcoming = s.blocks.upcoming ∧
          b.booking? n = some ⟨n, f, .running, none, .noOutcome, 0, s.blocks.nextId, w.marks⟩ ∧
          Told b (.booking n) .started ∧
          ∃ o ∈ b.active, o.number = n ∧ o.tier = f.tier ∧ o.day = w.day ∧ o.start = w.start ∧ o.finish = w.finish ∧
            (f.follow = none → o.position = min 2147483647 (now - w.start))) ∧
      (∀ (now : Int) (bd : Option Instant), s.blocks.time.now = some now →
        search s.blocks.almanac s.blocks.time.base now f none = ⟨.stalled, bd, false⟩ →
        ∃ b : Blocks,
          exec .book s = .next (replied s r b ⟨.ok, ⟨false, false, false, true⟩, .placed .stalled .noOutcome none⟩) ∧
          b.booking? n = some ⟨n, f, .stalled, none, .noOutcome, 0, s.blocks.nextId, ⟨false, false⟩⟩ ∧
          Told b (.booking n) .stalled ∧ b.upcoming = s.blocks.upcoming ∧ b.active = s.blocks.active) ∧
      (∀ (now : Int) (bd : Option Instant), s.blocks.time.now = some now →
        search s.blocks.almanac s.blocks.time.base now f none = ⟨.noneLeft, bd, false⟩ →
        ∃ b : Blocks,
          exec .book s = .next (replied s r b ⟨.ok, ⟨false, true, false, false⟩, .placed .retiring .noOutcome none⟩) ∧
          (ChangeKind.retired ∈ s.blocks.mask → Told b (.booking n) .retired ∧
            b.booking? n = some ⟨n, f, .retiring, none, .noOutcome, 0, s.blocks.nextId, ⟨false, false⟩⟩) ∧
          (ChangeKind.retired ∉ s.blocks.mask → b.booking? n = none) ∧ b.upcoming = s.blocks.upcoming ∧
          b.active = s.blocks.active)))

/-- AMEND and WITHDRAW (R16 to R19, R21, R104): an Amend of a Held booking lays the carried fields over its own; a Scheduled or
Stalled one loses its entry and is placed again with its boundary. Of a Running one, a tier or zone set re-resolves the zones of the
old set and the new, Exempt no in an open window lowers what it holds, Follow moves the follow status, and an End after now moves
the end, one at or before now ends it Cut Short, and one without almanac time is stored with the Stalled warning; nothing else
changes. The checks refuse in their order. A withdrawn booking leaves the table, the Upcoming List, the Active Table and its open
entry. The model's choices: mask bits 11 to 15 are passed over (assumption log 25), a moved end is not held to the last day
(log 37), and the end's estimated mark is kept with it (logs 8 and 32). -/
def Obligations.AmendAndWithdrawAct : Prop :=
  (∀ (s : State) (r : Request) (mask : BitVec 16) (x : BookingBody) (k : Booking) (n : Nat), Asks s r → r.kind = 2 →
    r.body = .bytes (beBytes16 mask ++ encodeBookingBody x) → n = x.number.toNat →
    (mask.getLsbD 2 = true → x.skipCount.toNat ≤ 4) → 1 ≤ n → n ≤ 65534 → s.blocks.booking? n = some k →
    (k.state = .retiring → exec .amend s = .next (replied s r s.blocks (refuse .wrongState))) ∧
    (∀ f : BookingFields, k.state ≠ .retiring → layFields mask x k.fields = some f →
      (s.blocks.namesProtected f.zones = true → exec .amend s = .next (replied s r s.blocks (refuse .isProtected))) ∧
      (s.blocks.namesProtected f.zones = false → mask.getLsbD 5 = true → (s.blocks.program f.program).isReady = false →
        exec .amend s = .next (replied s r s.blocks (refuse .noProgram))) ∧
      (s.blocks.namesProtected f.zones = false → (mask.getLsbD 5 = true → (s.blocks.program f.program).isReady = true) →
        k.state = .running → f.program ≠ k.fields.program →
        exec .amend s = .next (replied s r s.blocks (refuse .inUse)))) ∧
    (k.state ≠ .retiring → layFields mask x k.fields = none → exec .amend s = .next (replied s r s.blocks (refuse .outOfRange))) ∧
    (∀ f : BookingFields, k.state = .held → s.blocks.time.now = none → layFields mask x k.fields = some f →
      s.blocks.namesProtected f.zones = false →
      (mask.getLsbD 5 = true → (s.blocks.program f.program).isReady = true) → s.blocks.upcoming? n = none →
      s.blocks.active? n = none →
      exec .amend s = .next (replied s r
        { s.blocks with
          bookings := s.blocks.bookings.map (fun b => if b.number = n then { b with fields := f, state := .held } else b)
          lastFreed := none }
        (okWith (.placed .held k.lastOutcome none)))) ∧
    (∀ (f : BookingFields) (now : Int) (w : Window) (bd : Option Instant), (k.state = .scheduled ∨ k.state = .stalled) →
      s.blocks.active? n = none → s.blocks.time.now = some now → layFields mask x k.fields = some f →
      s.blocks.namesProtected f.zones = false → (mask.getLsbD 5 = true → (s.blocks.program f.program).isReady = true) →
      search s.blocks.almanac s.blocks.time.base now f k.boundary = ⟨.window w, bd, false⟩ → now < w.start →
      ∃ (b : Blocks) (a : Answer), exec .amend s = .next (replied s r b a) ∧ a.status = .ok ∧
        a.body = .placed .scheduled k.lastOutcome (b.upcoming? n) ∧ a.warnings.estimated = w.estimated ∧
        b.booking? n = some { k with fields := f, state := .scheduled, marks := w.marks } ∧
        (∀ e, e ∈ b.upcoming ↔ (e ∈ s.blocks.upcoming ∧ e.number ≠ n) ∨
          e = ⟨n, f.tier, w.day, w.start, w.finish, w.estimated,
            decide (w.start - (s.blocks.armLead : Int) * 1000 ≤ now)⟩) ∧
        b.active = s.blocks.active ∧ b.holding = s.blocks.holding ∧ b.zones = s.blocks.zones ∧ b.time = s.blocks.time) ∧
    (∀ (f : BookingFields) (o : Occurrence), (mask.getLsbD 0 = true ∨ mask.getLsbD 6 = true) → mask.getLsbD 4 = false →
      mask.getLsbD 9 = false → k.state = .running → s.blocks.active? n = some o → layFields mask x k.fields = some f →
      s.blocks.namesProtected f.zones = false → (mask.getLsbD 5 = true → (s.blocks.program f.program).isReady = true) →
      f.program = k.fields.program → TablesSized s.blocks →
      ∃ (b : Blocks) (a : Answer), exec .amend s = .next (replied s r b a) ∧ a.status = .ok ∧
        a.body = .placed .running k.lastOutcome (s.blocks.upcoming? n) ∧
        b.bookings = s.blocks.bookings.map (fun m => if m.number = n then { m with fields := f } else m) ∧
        b.active = s.blocks.active.map (fun p =>
          { p with tier := if p.number = n then f.tier else p.tier, held := b.countHeld p.id }) ∧
        (∀ z < 96, (z ∈ k.fields.zones ∨ z ∈ f.zones) → b.holdingOf z = b.resolvedEntry z) ∧
        (∀ z, z ∉ k.fields.zones → z ∉ f.zones → b.holdingOf z = s.blocks.holdingOf z) ∧ b.upcoming = s.blocks.upcoming ∧
        b.time = s.blocks.time) ∧
    (∀ o : Occurrence, mask = 256 → k.state = .running → s.blocks.active? n = some o → x.exempt = 0 → k.fields.exempt = true →
      s.blocks.chain.windowOpen = true → s.blocks.namesProtected k.fields.zones = false → TablesSized s.blocks →
      ∃ (b : Blocks) (a : Answer), exec .amend s = .next (replied s r b a) ∧ a.status = .ok ∧
        (∀ (z : Nat) (c : Zone), s.blocks.zone? z = some c → (s.blocks.holder? z).map (fun h => h.number) = some n →
          b.zone? z = some { c with
            last := capLevels s.blocks.curfewCeiling c.last
            handover := c.handover.map (fun h => { h with from_ := capLevels s.blocks.curfewCeiling h.from_ }) } ∧
          b.latestOf z = (s.blocks.latestOf z).cap s.blocks.curfewCeiling) ∧
        (∀ z, (s.blocks.holder? z).map (fun h => h.number) ≠ some n →
          b.zone? z = s.blocks.zone? z ∧ b.latestOf z = s.blocks.latestOf z) ∧
        b = { s.blocks with
          bookings := s.blocks.bookings.map (fun m =>
            if m.number = n then { m with fields := { k.fields with exempt := false } } else m)
          zones := b.zones
          chain := { s.blocks.chain with latest := b.chain.latest }
          lastFreed := none }) ∧
    (∀ (o : Occurrence) (fo : Option Nat), mask = 512 → k.state = .running → s.blocks.active? n = some o →
      exemptSuits k.fields = true → s.blocks.namesProtected k.fields.zones = false →
      ((x.followFlag = 0 ∧ fo = none) ∨ (x.followFlag = 1 ∧ fo = some x.follow.toNat ∧ x.follow.toNat ≤ 86399999)) →
      ∃ a : Answer, a.status = .ok ∧ a.body = .placed .running k.lastOutcome (s.blocks.upcoming? n) ∧
        exec .amend s = .next (replied s r
          { s.blocks with
            bookings := s.blocks.bookings.map (fun m =>
              if m.number = n then { m with fields := { k.fields with follow := fo } } else m)
            active := s.blocks.active.map (fun p => if p.number = n then
              (match k.fields.follow, fo with
                | none, none => p
                | none, some off => if s.blocks.cue.state = .locked
                    then { p with follow := .following, position := ((s.blocks.cue.estimate.getD 0 : Nat) : Int) - off }
                    else { p with follow := .awaiting }
                | some _, none => { p with follow := .unfollowed }
                | some _, some off => if p.follow = .following
                    then { p with position := ((s.blocks.cue.estimate.getD 0 : Nat) : Int) - off } else p) else p)
            lastFreed := none } a)) ∧
    (∀ (o : Occurrence) (e : EndField) (now : Int) (l : Blocks), mask = 16 → k.state = .running →
      s.blocks.active? n = some o → endOf x.endKind.toNat x.endValue = some e → exemptSuits k.fields = true →
      s.blocks.namesProtected k.fields.zones = false → s.blocks.time.now = some now → TablesSized s.blocks →
      (endInstant s.blocks.almanac o.day o.start e = .noValidEnd ∨
        ∃ finish est, endInstant s.blocks.almanac o.day o.start e = .ends finish est ∧ finish ≤ now) →
      l = leave o .cutShort (some now) { s.blocks with
        bookings := s.blocks.bookings.map (fun m =>
          if m.number = n then { m with fields := { k.fields with finish := e } } else m)
        lastFreed := none } →
      ∃ a : Answer, exec .amend s = .next (replied s r (place n l) a) ∧ a.status = .ok ∧ (∀ p ∈ l.active, p.id ≠ o.id) ∧
        l.bookings = s.blocks.bookings.map (fun m => if m.number = n then
          { m with
            fields := { k.fields with finish := e }, lastOutcome := .cutShort, runCount := min 65535 (m.runCount + 1)
            boundary := some now } else m) ∧
        (∀ z < 96, z ∈ k.fields.zones → l.holdingOf z = l.resolvedEntry z) ∧
        (ChangeKind.ended ∈ l.mask → ∃ y ∈ l.notices, y.record = .booking n ∧ ChangeKind.ended ∈ y.changes ∧
          y.outcome = some .cutShort)) ∧
    (∀ (o : Occurrence) (e : EndField), mask = 16 → k.state = .running → s.blocks.active? n = some o →
      endOf x.endKind.toNat x.endValue = some e → exemptSuits k.fields = true →
      s.blocks.namesProtected k.fields.zones = false → endInstant s.blocks.almanac o.day o.start e = .noTime →
      ∃ a : Answer, a.status = .ok ∧ a.warnings.stalled = true ∧ a.warnings.estimated = false ∧
        a.body = .placed .running k.lastOutcome (s.blocks.upcoming? n) ∧
        exec .amend s = .next (replied s r
          { s.blocks with
            bookings := s.blocks.bookings.map (fun m =>
              if m.number = n then { m with fields := { k.fields with finish := e } } else m)
            lastFreed := none } a)) ∧
    (∀ (o : Occurrence) (e : EndField) (finish : Instant) (est : Bool), mask = 16 → k.state = .running →
      s.blocks.active? n = some o → endOf x.endKind.toNat x.endValue = some e → exemptSuits k.fields = true →
      s.blocks.namesProtected k.fields.zones = false → endInstant s.blocks.almanac o.day o.start e = .ends finish est →
      (∀ now, s.blocks.time.now = some now → now < finish) → s.blocks.time.now ≠ none →
      ∃ a : Answer,
        exec .amend s = .next (replied s r
          { s.blocks with
            bookings := s.blocks.bookings.map (fun b => if b.number = n then
              { b with fields := { k.fields with finish := e }, marks := { b.marks with finish := est } } else b)
            active := s.blocks.active.map (fun p => if p.number = n then { p with finish := finish } else p)
            lastFreed := none } a) ∧
        a.status = .ok ∧ a.warnings.estimated = est ∧ a.warnings.stalled = false ∧ a.warnings.noOccurrence = false ∧
        a.body = .placed .running k.lastOutcome (s.blocks.upcoming? n))) ∧
  (∀ (s : State) (r : Request) (mask : BitVec 16) (x : BookingBody), Asks s r → r.kind = 2 →
    r.body = .bytes (beBytes16 mask ++ encodeBookingBody x) →
    (mask.getLsbD 2 = true → 4 < x.skipCount.toNat → exec .amend s = .next (replied s r s.blocks (refuse .malformed))) ∧
    ((mask.getLsbD 2 = true → x.skipCount.toNat ≤ 4) → (x.number.toNat = 0 ∨ 65534 < x.number.toNat) →
      exec .amend s = .next (replied s r s.blocks (refuse .outOfRange))) ∧
    ((mask.getLsbD 2 = true → x.skipCount.toNat ≤ 4) → 1 ≤ x.number.toNat → x.number.toNat ≤ 65534 →
      s.blocks.booking? x.number.toNat = none → exec .amend s = .next (replied s r s.blocks (refuse .noSuchRecord)))) ∧
  (∀ (s : State) (r : Request) (n : Nat), AsksFor s r (.withdraw n) → (n = 0 ∨ 65534 < n) →
    exec .withdraw s = .next (replied s r s.blocks (refuse .outOfRange))) ∧
  (∀ (s : State) (r : Request) (n : Nat) (k : Booking), AsksFor s r (.withdraw n) → 1 ≤ n → n ≤ 65534 →
    s.blocks.booking? n = some k →
    ∃ (b : Blocks) (out : LastOutcome) (runs : Nat),
      exec .withdraw s = .next (replied s r b (okWith (.withdrawn out runs))) ∧
      (s.blocks.active? n = none → out = k.lastOutcome ∧ runs = k.runCount ∧ b.active = s.blocks.active ∧
        b.holding = s.blocks.holding ∧ b.zones = s.blocks.zones) ∧
      (∀ o, s.blocks.active? n = some o → out = .cutShort ∧ runs = min 65535 (k.runCount + 1) ∧ ∀ p ∈ b.active, p.id ≠ o.id) ∧
      b.bookings = s.blocks.bookings.filter (fun m => m.number != n) ∧
      b.upcoming = s.blocks.upcoming.filter (fun e => e.number != n) ∧
      (∀ e ∈ b.notices, e.opens (.booking n) = false) ∧ b.time = s.blocks.time ∧ b.risers = s.blocks.risers ∧
      b.programs = s.blocks.programs) ∧
  (∀ (s : State) (r : Request) (n : Nat), AsksFor s r (.withdraw n) → 1 ≤ n → n ≤ 65534 → s.blocks.booking? n = none →
    exec .withdraw s = .next (replied s r s.blocks (refuse .noSuchRecord)))

/-- The search for a booking's next occurrence (R27 to R30): a window found is that of a pattern day that runs, ends after now and no
more than 18 hours after its start, and every window of an earlier such day has ended; with none left every window has; a search
stops at a day without a usable almanac time. -/
def Obligations.SearchFindsTheFirstWindow : Prop :=
  ∀ (alm : List AlmanacDay) (base : Nat) (now : Instant) (f : BookingFields) (bd : Option Instant) (a : SearchAnswer),
    (∀ e ∈ alm, e.sunset < 86400000 ∧ e.sunrise < 86400000) →
    (match f.start with | .clock t => t < 86400000 | .sunset m => -720 ≤ m ∧ m ≤ 720 | .sunrise m => -720 ≤ m ∧ m ≤ 720) →
    (∀ d, f.finish = .duration d → 1 ≤ d) → a = search alm base now f bd →
    (∀ w, a.found = .window w →
      f.pattern.first ≤ w.day ∧ w.day ≤ f.pattern.last ∧ runsOn base f w.day = true ∧
      windowOf alm f a.boundary w.day = .window w ∧ now < w.finish ∧ 0 ≤ w.start ∧ w.start < w.finish ∧
      w.finish ≤ w.start + 64800000 ∧ w.finish ≤ 5662310399999 ∧ (∀ x, bd = some x → x ≤ w.start) ∧
      (∀ d, f.pattern.first ≤ d → d < w.day → runsOn base f d = true →
        ∀ v, windowOf alm f a.boundary d = .window v → v.finish ≤ now)) ∧
    (a.found = .noneLeft → ∀ d, f.pattern.first ≤ d → d ≤ f.pattern.last → runsOn base f d = true →
      ∀ v, windowOf alm f a.boundary d = .window v → v.finish ≤ now) ∧
    (a.found = .stalled → ∃ d, f.pattern.first ≤ d ∧ d ≤ f.pattern.last ∧ runsOn base f d = true ∧
      windowOf alm f a.boundary d = .noTime) ∧
    (a.skipped = false → a.boundary = bd)

/-- Re-resolution (R43, R50, R51, R53, R57, R64, R69, R101): each zone of the set is held by the claimant of highest tier, then
latest start, then lowest number, and by none without a claimant; every other entry stands. A zone whose holder is another record
than before reports HolderChanged and, where it is configured and not protected, starts a handover of the new holder's length, or of
the schedule default, from its last dispatched levels, lowered to K in an open window unless the new source is exempt. Each
occurrence's zones held are counted afresh; at 0 it is Eclipsed, from 0 Regained. Under Panel Hold no handover starts. -/
def Obligations.ResolutionPicksTheWinner : Prop :=
  ∀ (b t : Blocks) (zones : List Nat) (newcomer : Option Nat), TablesSized b → t = resolve zones newcomer b →
    (∀ z < 96, z ∈ zones → (t.holdingOf z).claimants = (b.claimants z).length ∧
      ((t.holdingOf z).holder = none ↔ b.claimants z = []) ∧
      (∀ h, (t.holdingOf z).holder = some h → ∃ o ∈ b.active, z ∈ b.zonesOf o.number ∧ h = ⟨o.id, o.number, o.tier, o.start⟩ ∧
        ∀ p ∈ b.active, z ∈ b.zonesOf p.number →
          p.tier.rank ≤ o.tier.rank ∧
          (p.tier.rank = o.tier.rank → p.start ≤ o.start ∧ (p.start = o.start → o.number ≤ p.number)))) ∧
    (∀ z, z ∉ zones → t.holdingOf z = b.holdingOf z) ∧
    t.active = b.active.map (fun o =>
      { o with held := (t.holding.filter (fun h => h.holder.map (fun k => k.id) == some o.id)).length }) ∧
    (b.panelHold = true → t.zones = b.zones ∧ t.chain = b.chain) ∧
    (∀ z < 96, z ∈ zones → (b.holder? z).map (fun h => h.id) ≠ (t.holder? z).map (fun h => h.id) →
      Told t (.zone z) .holderChanged ∧
      (∀ (c : Zone) (last : Levels) (length : Nat), b.panelHold = false → b.zone? z = some c → c.isProtected = false →
        last = (if b.chain.windowOpen = true ∧ t.sourceExempt z = false then capLevels b.curfewCeiling c.last else c.last) →
        ((t.holder? z = none ∧ length = b.chain.defaultHandover) ∨
          ∃ h k, t.holder? z = some h ∧ b.booking? h.number = some k ∧
            length = k.fields.handover.getD b.chain.defaultHandover) →
        t.zone? z = some { c with
          last := last
          handover := some { from_ := keepLayout c.layout last, layout := c.layout, length := length, start := b.ownUs / 1000 } })) ∧
    (∀ z, (z ∉ zones ∨ (b.holder? z).map (fun h => h.id) = (t.holder? z).map (fun h => h.id)) →
      t.zone? z = b.zone? z ∧ t.latestOf z = b.latestOf z) ∧
    (∀ o ∈ b.active, ∀ held : Nat, held = (t.holding.filter (fun h => h.holder.map (fun k => k.id) == some o.id)).length →
      (held = 0 → (newcomer = some o.id ∨ o.held ≠ 0) → Told t (.booking o.number) .eclipsed) ∧
      (held ≠ 0 → o.held = 0 → newcomer ≠ some o.id → Told t (.booking o.number) .regained)) ∧
    t.bookings = b.bookings ∧ t.upcoming = b.upcoming ∧ t.time = b.time ∧ t.risers = b.risers ∧ t.programs = b.programs ∧
    t.panelHold = b.panelHold

/-- ENTRY_ARMED, OCCURRENCE_START and OCCURRENCE_END (R35, R36, R38 to R42): an entry reached by its lead is armed and its booking
claims its zones' feeders; a due head entry leaves the list and enters the Active Table with its position and follow status. With
the table full the victim is the occupant of lowest tier, then earliest start, then highest number: a newcomer of higher tier
evicts it, and any other is Skipped; either booking is placed again past the boundary of R31. An occurrence at its end leaves
Completed before its booking is placed again. -/
def Obligations.OccurrencesArmStartAndEnd : Prop :=
  (∀ (s : State) (n : Nat) (e : UpcomingEntry) (now : Int), TablesSized s.blocks → s.blocks.upcoming? n = some e →
    s.blocks.time.now = some now → e.start - (s.blocks.armLead : Int) * 1000 ≤ now → now < e.start → e.armed = false →
    ∃ t : State, exec (.entryArmed n) s = .next t ∧ t.port = s.port ∧
      t.blocks = { s.blocks with
        upcoming := s.blocks.upcoming.map (fun x => if x.number = n then { x with armed := true } else x)
        feeders := t.blocks.feeders
        notices := t.blocks.notices } ∧
      (∀ f < 4, ∀ m, m ∈ (t.blocks.feeder f).armClaims ↔ m ∈ (s.blocks.feeder f).armClaims ∨
        (m = n ∧ ∃ z ∈ s.blocks.zonesOf n, ∃ c, s.blocks.zone? z = some c ∧ c.feeder = f))) ∧
  (∀ (s : State) (e : UpcomingEntry) (es : List UpcomingEntry) (k : Booking) (now : Int), TablesSized s.blocks →
    s.blocks.upcoming = e :: es → s.blocks.time.now = some now → e.start ≤ now → s.blocks.active.length < 32 →
    s.blocks.booking? e.number = some k →
    ∃ (t : State) (o : Occurrence), exec .occurrenceStart s = .next t ∧ t.port = s.port ∧
      t.blocks.upcoming = es.filter (fun x => x.number != e.number) ∧ o ∈ t.blocks.active ∧ o.id = s.blocks.nextId ∧
      o.number = e.number ∧ o.tier = e.tier ∧ o.day = e.day ∧ o.start = e.start ∧ o.finish = e.finish ∧
      t.blocks.active.length = s.blocks.active.length + 1 ∧
      (∀ p ∈ s.blocks.active, ∃ p' ∈ t.blocks.active, p' = { p with held := p'.held }) ∧
      (k.fields.follow = none → o.follow = .unfollowed ∧ o.position = min 2147483647 (now - e.start)) ∧
      (∀ off, k.fields.follow = some off → s.blocks.cue.state ≠ .locked →
        o.follow = .awaiting ∧ o.position = min 2147483647 (now - e.start)) ∧
      (∀ off, k.fields.follow = some off → s.blocks.cue.state = .locked →
        o.follow = .following ∧ o.position = ((s.blocks.cue.estimate.getD 0 : Nat) : Int) - off) ∧
      t.blocks.bookings =
        s.blocks.bookings.map (fun b => if b.number = e.number then { b with state := .running } else b) ∧
      (∀ z, z ∉ k.fields.zones → t.blocks.holdingOf z = s.blocks.holdingOf z) ∧
      (∀ z < 96, z ∈ k.fields.zones → t.blocks.holdingOf z = t.blocks.resolvedEntry z) ∧
      Told t.blocks (.booking e.number) .started ∧ t.blocks.time = s.blocks.time) ∧
  (∀ (l : List Occurrence) (v : Occurrence), victim l = some v → v ∈ l ∧ ∀ p ∈ l,
    v.tier.rank < p.tier.rank ∨ (v.tier.rank = p.tier.rank ∧
      (v.start < p.start ∨ (v.start = p.start ∧ p.number ≤ v.number)))) ∧
  (∀ (s : State) (e : UpcomingEntry) (es : List UpcomingEntry) (k kv : Booking) (v : Occurrence) (now : Int) (w : Window)
      (bd : Option Instant), TablesSized s.blocks → s.blocks.upcoming = e :: es → s.blocks.time.now = some now → e.start ≤ now →
    s.blocks.active.length = 32 → victim s.blocks.active = some v → v.tier.rank < e.tier.rank →
    s.blocks.booking? e.number = some k → s.blocks.booking? v.number = some kv → v.number ≠ e.number →
    s.blocks.upcoming? v.number = none → (s.blocks.active.map (fun p => p.id)).Nodup → s.blocks.nextId ≠ v.id →
    search s.blocks.almanac s.blocks.time.base now kv.fields (some now) = ⟨.window w, bd, false⟩ → now < w.start →
    ∃ (t : State) (o : Occurrence), exec .occurrenceStart s = .next t ∧ t.port = s.port ∧ t.blocks.active.length = 32 ∧
      (∀ p ∈ t.blocks.active, p.id ≠ v.id) ∧ o ∈ t.blocks.active ∧ o.number = e.number ∧ o.start = e.start ∧
      o.finish = e.finish ∧ Told t.blocks (.booking e.number) .started ∧
      t.blocks.booking? e.number = some { k with state := .running } ∧
      t.blocks.booking? v.number = some { kv with
        state := .scheduled, lastOutcome := .evicted, runCount := min 65535 (kv.runCount + 1), boundary := some now
        marks := w.marks } ∧
      (∃ x ∈ t.blocks.upcoming, x.number = v.number ∧ x.day = w.day ∧ x.start = w.start ∧ x.finish = w.finish) ∧
      (ChangeKind.ended ∈ s.blocks.mask → ∃ x ∈ t.blocks.notices, x.record = .booking v.number ∧
        ChangeKind.ended ∈ x.changes ∧ x.outcome = some .evicted) ∧
      (∀ z < 96, (z ∈ k.fields.zones ∨ z ∈ kv.fields.zones) → t.blocks.holdingOf z = t.blocks.resolvedEntry z) ∧
      t.blocks.time = s.blocks.time) ∧
  (∀ (s : State) (e : UpcomingEntry) (es : List UpcomingEntry) (k : Booking) (v : Occurrence) (now : Int) (w : Window)
      (bd : Option Instant), TablesSized s.blocks → s.blocks.upcoming = e :: es → s.blocks.time.now = some now → e.start ≤ now →
    s.blocks.active.length = 32 → victim s.blocks.active = some v → e.tier.rank ≤ v.tier.rank →
    s.blocks.booking? e.number = some k →
    search s.blocks.almanac s.blocks.time.base now k.fields (some e.finish) = ⟨.window w, bd, false⟩ → now < w.start →
    ∃ t : State, exec .occurrenceStart s = .next t ∧ t.port = s.port ∧ t.blocks.active = s.blocks.active ∧
      t.blocks.holding = s.blocks.holding ∧ t.blocks.zones = s.blocks.zones ∧
      t.blocks.booking? e.number = some { k with
        state := .scheduled, lastOutcome := .skipped, boundary := some e.finish, marks := w.marks } ∧
      (∃ x ∈ t.blocks.upcoming, x.number = e.number ∧ x.day = w.day ∧ x.start = w.start ∧ x.finish = w.finish) ∧
      (ChangeKind.ended ∈ s.blocks.mask → ∃ x ∈ t.blocks.notices, x.record = .booking e.number ∧
        ChangeKind.ended ∈ x.changes ∧ x.outcome = some .skipped) ∧
      t.blocks.time = s.blocks.time) ∧
  (∀ (s : State) (n : Nat) (o : Occurrence) (now : Int) (l : Blocks), TablesSized s.blocks → s.blocks.active? n = some o →
    s.blocks.time.now = some now → o.finish ≤ now → l = leave o .completed (some o.finish) s.blocks →
    exec (.occurrenceEnd n) s = .next { s with blocks := place n l } ∧ (∀ p ∈ l.active, p.id ≠ o.id) ∧
    l.bookings = s.blocks.bookings.map (fun k => if k.number = n then
      { k with lastOutcome := .completed, runCount := min 65535 (k.runCount + 1), boundary := some o.finish } else k) ∧
    (∀ z < 96, z ∈ s.blocks.zonesOf n → l.holdingOf z = l.resolvedEntry z) ∧ Told l (.booking n) .ended ∧
    (ChangeKind.ended ∈ l.mask → ∃ e ∈ l.notices, e.record = .booking n ∧ e.outcome = some .completed) ∧
    l.upcoming = s.blocks.upcoming ∧ l.time = s.blocks.time)

/-! ## The reports -/

/-- The requests that only read answer Ok with the record as it stands and change nothing (R22, R23, R68, R79, R109, R136, R153,
R164, R173): Look Up carries no zones held (R60), Riser Report shows an exchange by kind, slot and attempt count, and a handover's
elapsed time and a feeder's idle timer are shown in own ms, no further than their ends. A number that names no record is refused
with OutOfRange, and Look Up of a free number with NoSuchRecord. That the ms of a retry timer and an idle timer are the whole
thousandths of the microseconds gone, and a handover's a difference of own ms, is the model's choice (assumption log 18). -/
def Obligations.ReportsChangeNothing : Prop :=
  ∀ (s : State) (r : Request),
    (∀ (n : Nat) (k : Booking), AsksFor s r (.lookUp n) → 1 ≤ n → n ≤ 65534 → s.blocks.booking? n = some k →
      exec .lookUp s = .next (replied s r s.blocks (okWith (.booking
        { number := k.number, fields := k.fields, state := k.state, next := s.blocks.upcoming? k.number,
          active := (s.blocks.active? k.number).map (fun o => ⟨o.day, o.start, o.finish, o.position, o.follow⟩),
          boundary := k.boundary, lastOutcome := k.lastOutcome, runCount := k.runCount })))) ∧
    (∀ n : Nat, AsksFor s r (.lookUp n) →
      ((n = 0 ∨ 65534 < n) → exec .lookUp s = .next (replied s r s.blocks (refuse .outOfRange))) ∧
      (1 ≤ n → n ≤ 65534 → s.blocks.booking? n = none →
        exec .lookUp s = .next (replied s r s.blocks (refuse .noSuchRecord)))) ∧
    (∀ n : Nat, AsksFor s r (.programReport n) → 64 ≤ n →
      exec .programReport s = .next (replied s r s.blocks (refuse .outOfRange))) ∧
    (∀ n : Nat, AsksFor s r (.zoneReport n) → 96 ≤ n →
      exec .zoneReport s = .next (replied s r s.blocks (refuse .outOfRange))) ∧
    (∀ n : Nat, AsksFor s r (.riserReport n) → 4 ≤ n →
      exec .riserReport s = .next (replied s r s.blocks (refuse .outOfRange))) ∧
    (∀ n : Nat, AsksFor s r (.feederReport n) → 4 ≤ n →
      exec .feederReport s = .next (replied s r s.blocks (refuse .outOfRange))) ∧
    (∀ (start n : Nat) (l : List UpcomingEntry), AsksFor s r (.listUpcoming start n) →
      l = s.blocks.upcoming.filter (upcomingBefore (s.blocks.cursorEntry start n)) →
      exec .listUpcoming s = .next (replied s r s.blocks (okWith (.upcoming (l.take 8) (decide (8 < l.length)))))) ∧
    (∀ n : Nat, AsksFor s r (.programReport n) → n < 64 →
      exec .programReport s = .next (replied s r s.blocks (okWith (.program (s.blocks.programView n))))) ∧
    (∀ z : Nat, AsksFor s r (.zoneReport z) → z < 96 →
      exec .zoneReport s = .next (replied s r s.blocks (okWith (.zone
        { zone := z, record := (s.blocks.zone? z).map (fun c => { c with handover := none }),
          holder := (s.blocks.holdingOf z).holder.map (fun h => ⟨h.number, h.tier, h.start⟩),
          claimants := (s.blocks.holdingOf z).claimants,
          handover := ((s.blocks.zone? z).bind (fun c => c.handover)).map
            (fun h => ⟨h.length, min h.length (s.blocks.ownUs / 1000 - h.start)⟩),
          panelHold := s.blocks.panelHold })))) ∧
    (∀ n : Nat, AsksFor s r (.riserReport n) → n < 4 →
      exec .riserReport s = .next (replied s r s.blocks (okWith (.riser (s.blocks.riserView n)))) ∧
      (s.blocks.riserView n).queue.map (fun e => (e.slot, e.attempts)) =
        (s.blocks.riser n).queue.map (fun e => (e.slot, e.attempts)) ∧
      (s.blocks.riserView n).retry =
        (s.blocks.riser n).retryFrom.map (fun t => min 1000 ((s.blocks.ownUs - t) / 1000))) ∧
    (AsksFor s r .cueReport → exec .cueReport s = .next (replied s r s.blocks (okWith (.cue s.blocks.cueView)))) ∧
    (AsksFor s r .chainReport → exec .chainReport s = .next (replied s r s.blocks (okWith (.chain s.blocks.chainView)))) ∧
    (∀ n : Nat, AsksFor s r (.feederReport n) → n < 4 →
      exec .feederReport s = .next (replied s r s.blocks (okWith (.feeder (s.blocks.feederView n)))) ∧
      (s.blocks.feederView n).record.idle =
        (s.blocks.feeder n).idleFrom.map (fun t => min 600000 ((s.blocks.ownUs - t) / 1000)) ∧
      (s.blocks.feederView n).holdingZones = (allZones.filter (s.blocks.zoneClaims n)).length)

/-- FORECAST (R24, R25): the reply ranks exactly the contenders, names the first as the holder, lists 8 more and counts the rest.
A booking contends when its zone set holds the zone and the window of the instant's day or of the day before covers the instant,
the earlier day first; a day counts within first..last, not a skip day, and on a weekday of the set; an active occurrence's own day
has its instants. A zone above 95 and an instant out of reach are OutOfRange. That an active occurrence is estimated when the times
that gave its instants were is the model's choice (assumption log 8). -/
def Obligations.ForecastRanksTheContenders : Prop :=
  (∀ (b : Blocks) (t z : Nat) (k : Booking) (c : Contender), b.contender t z k = some c ↔
    z ∈ k.fields.zones ∧ c.start ≤ t ∧ (t : Int) < c.finish ∧
      ∃ day : Nat, (day = t / 86400000 ∨ day + 1 = t / 86400000) ∧ b.forecastDay k day = some c ∧
        (day = t / 86400000 → ∀ e c', e + 1 = day → b.forecastDay k e = some c' → ¬(c'.start ≤ t ∧ (t : Int) < c'.finish))) ∧
  (∀ (b : Blocks) (k : Booking) (day : Nat) (c : Contender), b.forecastDay k day = some c ↔
    k.fields.pattern.first ≤ day ∧ day ≤ k.fields.pattern.last ∧ day ∉ k.fields.skip ∧
      (k.fields.pattern.kind = .weekly → (b.time.base + day) % 7 ∈ k.fields.pattern.weekdays) ∧
      ((∃ o, b.active? k.number = some o ∧ o.day = day ∧
          c = ⟨k.number, k.fields.tier, day, o.start, o.finish, k.marks.start || k.marks.finish⟩) ∨
        ((∀ o, b.active? k.number = some o → o.day ≠ day) ∧
          ∃ w, windowOf b.almanac k.fields none day = .window w ∧
            c = ⟨k.number, k.fields.tier, day, w.start, w.finish, w.marks.start || w.marks.finish⟩))) ∧
  (∀ (s : State) (r : Request) (t z : Nat), AsksFor s r (.forecast t z) →
    (96 ≤ z ∨ 5662310399999 < t ∨
      ∃ now, s.blocks.time.now = some now ∧ (34560000000 < (t : Int) - now ∨ 34560000000 < now - t)) →
    exec .forecast s = .next (replied s r s.blocks (refuse .outOfRange))) ∧
  ∀ (s : State) (r : Request) (t z : Nat), AsksFor s r (.forecast t z) → z < 96 → t ≤ 5662310399999 →
    (∀ now, s.blocks.time.now = some now → (t : Int) - now ≤ 34560000000 ∧ now - t ≤ 34560000000) →
    ∃ l : List Contender,
      exec .forecast s = .next (replied s r s.blocks (okWith (.forecast l.head? (l.tail.take 8) (l.tail.length - 8)))) ∧
      l.Pairwise (fun x y => ranksBefore y x = false) ∧
      (∀ c, c ∈ l ↔ ∃ k ∈ s.blocks.bookings, s.blocks.contender t z k = some c) ∧
      (∀ c ∈ l, c.start ≤ t ∧ (t : Int) < c.finish)

/-! ## Risers and zone nodes -/

/-- CONFIGURE_RISER with Enabled yes on an Off riser, RISER_RESET and RETRY_TIMER_EXPIRY (R138, R140, R151): the riser enters
Starting with its start-up roll call, and its first frame send is taken at once. By Enabled and by Riser Reset the all-call Reset
makes every zone of the riser that is not Vacant Absent. From Faulted there is none: the queue is kept and the first round joins
behind it. With the line held at the moment of that send the riser is Faulted instead and nothing is sent: no zone ages, the
sequence number stands, and the retry timer starts. The model's choices: the own count t0 + 1,000,000 of the expiry (assumption logs
2 and 18), the record of the directed message sent (log 39), and that whether the line is held then is a free value (log 49). -/
def Obligations.RisersEnterStarting : Prop :=
  (∀ (s : State) (r : Request) (n : Nat) (y : RiserBody) (x : Riser) (held : Bool), AsksFor s r (.configureRiser n y) → n < 4 →
    held = Config.lineHeld n s.blocks.ownUs → TablesSized s.blocks → (s.blocks.riser n).enabled = false →
    formRiser y (s.blocks.riser n) = some x → x.enabled = true →
    ∃ b : Blocks,
      exec .configureRiser s = .next (replied s r b (okWith
        (if held then .riserSettings .faulted x.maxRate x.rate (if x.maxRate = x.rate then none else some x.maxRate) x.lag x.lost
          else .riserSettings .starting x.maxRate x.maxRate none x.lag x.lost))) ∧
      EntersStarting s.blocks b n x held) ∧
  (∀ (s : State) (r : Request) (n : Nat) (held : Bool), AsksFor s r (.riserReset n) → n < 4 → TablesSized s.blocks →
    held = Config.lineHeld n s.blocks.ownUs → (s.blocks.riser n).state ≠ .off →
    ∃ b : Blocks, exec .riserReset s = .next (replied s r b (okWith .empty)) ∧
      EntersStarting s.blocks b n (s.blocks.riser n) held) ∧
  (∀ (s : State) (r : Request) (n : Nat), AsksFor s r (.riserReset n) →
    (3 < n → exec .riserReset s = .next (replied s r s.blocks (refuse .outOfRange))) ∧
    (n < 4 → (s.blocks.riser n).state = .off →
      exec .riserReset s = .next (replied s r s.blocks (refuse .wrongState)))) ∧
  (∀ (s : State) (n : Fin 4) (t0 own : Nat), TablesSized s.blocks → (s.blocks.riser n).state = .faulted →
    (s.blocks.riser n).retryFrom = some t0 → own = max s.blocks.ownUs (t0 + 1000000) →
    ∃ (p : Option Rate) (t : State), RollCallRate s.blocks n (s.blocks.riser n) p ∧ exec (.retryTimerExpiry n) s = .next t ∧
      t.port = s.port ∧ t.pending = s.pending ∧
      (if Config.lineHeld n own then
        t.blocks = { s.blocks with
          ownUs := own
          risers := s.blocks.risers.set n { s.blocks.riser n with
            state := .faulted
            retryFrom := some own
            phase := .idle
            rollCall := .idle
            rounds := 0
            round := .contention
            queue := (s.blocks.riser n).queue.filter (fun e => decide (e.kind ≠ .round))
            pending := p }
          notices := t.blocks.notices } ∧
        Told t.blocks (.riser n) .riserState
      else ∃ (m : Blocks) (f : Frame),
        m = { s.blocks with
          ownUs := own
          risers := s.blocks.risers.set n { s.blocks.riser n with
            state := .starting
            retryFrom := none
            rollCall := .running
            rounds := 0
            round := .contention
            queue := (s.blocks.riser n).queue ++ [⟨.round, 0, 0⟩]
            pending := p }
          notices := m.notices } ∧
        Told m (.riser n) .riserState ∧ FrameSent m t.blocks n f))

/-- CONFIGURE_RISER otherwise, and LINE_FAULT (R139, R151, R161): the settings are taken only within their ranges; a maximum below
the rate to run at next becomes the pending rate; a disabled riser drops its queue, its roll call and its zones; a line fault
ends the roll call, keeps the rest of the queue and starts the retry timer. That Enabled acts before a lower maximum rate, and that a
disabled riser's zones keep their tally status, is the model's choice (assumption log 34). -/
def Obligations.RiserSettingsAndFaults : Prop :=
  (∀ (y : RiserBody) (x : Riser), formRiser y x = none ↔
    (∃ v, y.maxRate = some v ∧ v ≠ 20 ∧ v ≠ 25 ∧ v ≠ 40 ∧ v ≠ 50) ∨ y.policy = some .unknown ∨
      y.lag.getD x.lag < 30 ∨ 200 < y.lag.getD x.lag ∨ y.lost.getD x.lost < y.lag.getD x.lag + 20 ∨
      255 < y.lost.getD x.lost) ∧
  (∀ (s : State) (r : Request) (n : Nat) (y : RiserBody), AsksFor s r (.configureRiser n y) →
    (3 < n ∨ formRiser y (s.blocks.riser n) = none) →
    exec .configureRiser s = .next (replied s r s.blocks (refuse .outOfRange))) ∧
  (∀ (s : State) (r : Request) (n : Nat) (y : RiserBody) (x x' : Riser), AsksFor s r (.configureRiser n y) → n < 4 →
    TablesSized s.blocks → formRiser y (s.blocks.riser n) = some x →
    x.enabled = (s.blocks.riser n).enabled →
    x' = { x with pending :=
      if x.maxRate ≠ (s.blocks.riser n).maxRate ∧ x.maxRate.perSecond < (x.pending.getD x.rate).perSecond then some x.maxRate
      else x.pending } →
    exec .configureRiser s = .next (replied s r { s.blocks with risers := s.blocks.risers.set n x' }
      (okWith (.riserSettings x.state x.maxRate x.rate x'.pending x.lag x.lost)))) ∧
  (∀ (s : State) (r : Request) (n : Nat) (y : RiserBody) (x x' : Riser), AsksFor s r (.configureRiser n y) → n < 4 →
    TablesSized s.blocks → (s.blocks.riser n).enabled = true →
    formRiser y (s.blocks.riser n) = some x → x.enabled = false →
    x' = { x with
      state := .off, phase := .idle, queue := [], rollCall := .idle, round := .contention, retryFrom := none, cursor := 0
      lastFrame := none, newRender := false
      pending := if x.maxRate ≠ (s.blocks.riser n).maxRate ∧ x.maxRate.perSecond < x.rate.perSecond then some x.maxRate
        else none } →
    ∃ b : Blocks,
      exec .configureRiser s =
        .next (replied s r b (okWith (.riserSettings .off x.maxRate x.rate x'.pending x.lag x.lost))) ∧
      OnlyRisers s.blocks b ∧ b.ownUs = s.blocks.ownUs ∧ b.risers = s.blocks.risers.set n x' ∧
      (∀ z, b.zone? z = (s.blocks.zone? z).map (fun c => if c.riser = n then addressDropped false c else c)) ∧
      Told b (.riser n) .riserState) ∧
  (∀ (s : State) (n : Fin 4) (x : Riser), TablesSized s.blocks → x = s.blocks.riser n →
    (x.state = .starting ∨ x.state = .running) →
    ∃ t : State, exec (.lineFault n) s = .next t ∧
      t = { s with blocks := { s.blocks with
        notices := t.blocks.notices
        risers := s.blocks.risers.set n { x with
          state := .faulted
          phase := .idle
          retryFrom := some s.blocks.ownUs
          rollCall := .idle
          round := if x.rollCall = .running then .contention else x.round
          queue := if x.rollCall = .running then x.queue.filter (fun e => decide (e.kind ≠ .round)) else x.queue } } } ∧
      Told t.blocks (.riser n) .riserState)

/-- FRAME_SEND (R141 to R145): the pending rate is applied, the live zones age and are marked, the first live slot after the cursor
is the target, and the frame carries a slot's levels from the latest render, in the places of the node's layout and 0 in the others,
exactly when a zone that is not protected and whose node is live stands there with levels (`FrameSent`). The own count of the send is
the model's choice (assumption log 2), and so is that no frame is sent while an exchange waits for its reply (log 30). -/
def Obligations.FrameSendBuildsTheFrame : Prop :=
  ∀ (s : State) (n : Fin 4) (x : Riser), TablesSized s.blocks → x = s.blocks.riser n →
    (x.state = .starting ∨ x.state = .running) → x.phase ≠ .exchanging →
    ∃ (t : State) (f : Frame), exec (.frameSend n) s = .next t ∧ t.port = s.port ∧
      FrameSent { s.blocks with ownUs := max s.blocks.ownUs (x.lastSend + x.rate.periodUs) } t.blocks n f

/-- TALLY_REPLY, NOTICE_WINDOW and ROLL_CALL (R146, R147, R158): a good tally makes its zone Ready with age 0 and stores its flags,
and any other reply changes nothing; a notice window queues the winner's Notice Read or starts a roll call, which joins the
queue and has the rate recomputed. ROLL_CALL of a riser above 3 is OutOfRange, of one that is neither Starting nor Running
WrongState, and of one whose roll call runs Busy. The model's choices: the zone that takes a tally is looked up by slot when the
reply is taken (assumption log 27), and a notice window may be passed over in the riser's phase (log 30). -/
def Obligations.TalliesNoticesAndRollCalls : Prop :=
  (∀ (s : State) (n : Fin 4) (f : Frame) (x : Byte) (z : Nat) (c : Zone), TablesSized s.blocks →
    (s.blocks.riser n).phase = .tally → (s.blocks.riser n).lastFrame = some f → f.target ≠ 0 → f.sequence < 256 →
    s.blocks.zoneAt n f.target = some z → s.blocks.zone? z = some c → c.node.live = true →
    ∃ t : State, exec (.tallyReply n (withCheck [BitVec.ofNat 8 f.sequence, x])) s = .next t ∧ t.port = s.port ∧
      OnlyRisers s.blocks t.blocks ∧ t.blocks.ownUs = s.blocks.ownUs ∧
      t.blocks.risers = s.blocks.risers.set n { s.blocks.riser n with phase := .tallied } ∧
      t.blocks.zone? z = some { c with node := .ready, age := 0, tally := ⟨x.getLsbD 0, x.getLsbD 1, x.getLsbD 2⟩ } ∧
      (∀ y, y ≠ z → t.blocks.zone? y = s.blocks.zone? y) ∧ (c.node = .lagging → Told t.blocks (.zone z) .nodeState) ∧
      ((x.getLsbD 0 = true ∧ c.tally.driverFault = false ∨ x.getLsbD 1 = true ∧ c.tally.overheat = false) →
        Told t.blocks (.zone z) .nodeFault) ∧
      (x.getLsbD 2 = true → c.tally.localOverride = false → Told t.blocks (.zone z) .localOverride)) ∧
  (∀ (s : State) (n : Fin 4) (f : Frame) (reply : List Byte), (s.blocks.riser n).lastFrame = some f →
    (readTally f.sequence reply = none ∨ f.target = 0) → exec (.tallyReply n reply) s = .next s) ∧
  (∀ (s : State) (n : Fin 4) (x : Riser) (winner : Option Nat), TablesSized s.blocks → x = s.blocks.riser n →
    (x.phase = .tally ∨ x.phase = .tallied) → x.queue.length < 6 → (∀ e ∈ x.queue, e.kind ≠ .noticeRead) →
    (winner = none ∨ (winner = some 0 ∧ x.rollCall = .running)) →
    exec (.noticeWindow n winner) s = .next { s with blocks := { s.blocks with
      risers := s.blocks.risers.set n { x with phase := .noticed } } }) ∧
  (∀ (s : State) (n : Fin 4) (x : Riser) (slot : Nat), TablesSized s.blocks → x = s.blocks.riser n →
    (x.phase = .tally ∨ x.phase = .tallied) → x.queue.length < 6 → (∀ e ∈ x.queue, e.kind ≠ .noticeRead) →
    1 ≤ slot → slot ≤ 24 →
    exec (.noticeWindow n (some slot)) s = .next { s with blocks := { s.blocks with
      risers := s.blocks.risers.set n { x with phase := .noticed, queue := x.queue ++ [⟨.noticeRead, slot, 0⟩] } } }) ∧
  (∀ (s : State) (n : Fin 4) (x : Riser), TablesSized s.blocks → x = s.blocks.riser n →
    (x.phase = .tally ∨ x.phase = .tallied) → x.queue.length < 6 → (∀ e ∈ x.queue, e.kind ≠ .noticeRead) →
    x.rollCall = .idle →
    ∃ p : Option Rate, RollCallRate s.blocks n x p ∧
      exec (.noticeWindow n (some 0)) s = .next { s with blocks := { s.blocks with
        risers := s.blocks.risers.set n { x with
          phase := .noticed
          rollCall := .running
          rounds := 0
          round := .contention
          queue := x.queue ++ [⟨.round, 0, 0⟩]
          pending := p } } }) ∧
  (∀ (s : State) (r : Request) (n : Nat) (x : Riser), AsksFor s r (.rollCall n) → n < 4 → TablesSized s.blocks →
    x = s.blocks.riser n → (x.state = .starting ∨ x.state = .running) → x.rollCall = .idle →
    ∃ p : Option Rate, RollCallRate s.blocks n x p ∧
      exec .rollCall s = .next (replied s r { s.blocks with
        risers := s.blocks.risers.set n { x with
          rollCall := .running
          rounds := 0
          round := .contention
          queue := x.queue ++ [⟨.round, 0, 0⟩]
          pending := p } } (okWith .empty))) ∧
  (∀ (s : State) (r : Request) (n : Nat), AsksFor s r (.rollCall n) →
    (4 ≤ n → exec .rollCall s = .next (replied s r s.blocks (refuse .outOfRange))) ∧
    (n < 4 → (s.blocks.riser n).state ≠ .starting → (s.blocks.riser n).state ≠ .running →
      exec .rollCall s = .next (replied s r s.blocks (refuse .wrongState))) ∧
    (n < 4 → ((s.blocks.riser n).state = .starting ∨ (s.blocks.riser n).state = .running) →
      (s.blocks.riser n).rollCall = .running → exec .rollCall s = .next (replied s r s.blocks (refuse .busy))))

/-- DIRECTED_WINDOW, DIRECTED_ATTEMPT_FAILED, NOTICE_READ and SET_FALLBACK (R149, R150): the head entry is sent; a failed attempt is
counted, and the third drops the entry, with fault code 255 for a Set Fallback; a good reply drops the entry and writes the zone's
fault code, or none where no zone stands at the slot. The model's choices: a reported code 255 is recorded as it stands (assumption
log 26), the zone is looked up by slot at the reply or the failure (log 27), the message sent is recorded (log 39), and a reply that
is not good changes nothing in its own row, its failure being counted by DIRECTED_ATTEMPT_FAILED (log 31). -/
def Obligations.DirectedExchangesAreServed : Prop :=
  (∀ (s : State) (n : Fin 4) (w : Option SerialWord) (x : Riser), TablesSized s.blocks → x = s.blocks.riser n →
    (x.phase = .tally ∨ x.phase = .tallied ∨ x.phase = .noticed) →
    (x.queue = [] → exec (.directedWindow n w) s = .next { s with blocks := { s.blocks with
      risers := s.blocks.risers.set n { x with phase := .done } } }) ∧
    (∀ slot a q, x.queue = ⟨.noticeRead, slot, a⟩ :: q →
      exec (.directedWindow n w) s = .next { s with blocks := { s.blocks with
        risers := s.blocks.risers.set n { x with sent := some (.noticeRead slot), phase := .exchanging } } }) ∧
    (∀ colour slot a q, x.queue = ⟨.setFallback colour, slot, a⟩ :: q →
      exec (.directedWindow n w) s = .next { s with blocks := { s.blocks with
        risers := s.blocks.risers.set n { x with sent := some (.setFallback slot colour), phase := .exchanging } } }) ∧
    (∀ slot a q, x.queue = ⟨.resetNode, slot, a⟩ :: q →
      exec (.directedWindow n w) s = .next { s with blocks := { s.blocks with
        risers := s.blocks.risers.set n { x with sent := some (.resetNode slot), phase := .done, queue := q } } })) ∧
  (∀ (s : State) (n : Fin 4) (x : Riser) (e : Exchange) (q : List Exchange), TablesSized s.blocks → x = s.blocks.riser n →
    x.phase = .exchanging → x.queue = e :: q → e.kind ≠ .round → e.kind ≠ .resetNode →
    (e.attempts < 2 → exec (.directedAttemptFailed n) s = .next { s with blocks := { s.blocks with
      risers := s.blocks.risers.set n { x with phase := .done, queue := { e with attempts := e.attempts + 1 } :: q } } }) ∧
    (2 ≤ e.attempts → e.kind = .noticeRead → exec (.directedAttemptFailed n) s = .next { s with blocks := { s.blocks with
      risers := s.blocks.risers.set n { x with phase := .done, queue := q } } }) ∧
    (∀ (colour : Levels) (z : Nat) (c : Zone), 2 ≤ e.attempts → e.kind = .setFallback colour →
      s.blocks.zoneAt n e.slot = some z → s.blocks.zone? z = some c →
      ∃ t : State, exec (.directedAttemptFailed n) s = .next t ∧
        t = { s with blocks := { s.blocks with
          risers := s.blocks.risers.set n { x with phase := .done, queue := q }
          zones := s.blocks.zones.set z (some { c with fault := some 255 })
          notices := t.blocks.notices } } ∧
        Told t.blocks (.zone z) .nodeFault) ∧
    (∀ colour : Levels, 2 ≤ e.attempts → e.kind = .setFallback colour → s.blocks.zoneAt n e.slot = none →
      exec (.directedAttemptFailed n) s = .next { s with blocks := { s.blocks with
        risers := s.blocks.risers.set n { x with phase := .done, queue := q } } })) ∧
  (∀ (s : State) (n : Fin 4) (x : Riser) (e : Exchange) (q : List Exchange) (reply : List Byte), TablesSized s.blocks →
    x = s.blocks.riser n → x.phase = .exchanging → x.queue = e :: q →
    (e.kind = .noticeRead → readNotice e.slot reply = none → exec (.noticeRead n reply) s = .next s) ∧
    (∀ colour, e.kind = .setFallback colour → readFallback e.slot reply = false → exec (.setFallback n reply) s = .next s) ∧
    (∀ code : Byte, e.kind = .noticeRead → e.slot < 256 → s.blocks.zoneAt n e.slot = none →
      exec (.noticeRead n (withCheck [BitVec.ofNat 8 e.slot, code])) s = .next { s with blocks := { s.blocks with
        risers := s.blocks.risers.set n { x with phase := .done, queue := q } } }) ∧
    (∀ colour, e.kind = .setFallback colour → e.slot < 256 → s.blocks.zoneAt n e.slot = none →
      exec (.setFallback n (withCheck [BitVec.ofNat 8 e.slot])) s = .next { s with blocks := { s.blocks with
        risers := s.blocks.risers.set n { x with phase := .done, queue := q } } })) ∧
  (∀ (s : State) (n : Fin 4) (x : Riser) (slot a : Nat) (q : List Exchange) (z : Nat) (c : Zone) (code : Byte),
    TablesSized s.blocks → x = s.blocks.riser n → x.phase = .exchanging → x.queue = ⟨.noticeRead, slot, a⟩ :: q → slot < 256 →
    s.blocks.zoneAt n slot = some z → s.blocks.zone? z = some c →
    ∃ t : State, exec (.noticeRead n (withCheck [BitVec.ofNat 8 slot, code])) s = .next t ∧
      t = { s with blocks := { s.blocks with
        risers := s.blocks.risers.set n { x with phase := .done, queue := q }
        zones := s.blocks.zones.set z (some { c with fault := if code = 0 then none else some code.toNat })
        notices := t.blocks.notices } } ∧
      (c.fault ≠ (if code = 0 then none else some code.toNat) → Told t.blocks (.zone z) .nodeFault)) ∧
  (∀ (s : State) (n : Fin 4) (x : Riser) (colour : Levels) (slot a : Nat) (q : List Exchange) (z : Nat) (c : Zone),
    TablesSized s.blocks → x = s.blocks.riser n → x.phase = .exchanging → x.queue = ⟨.setFallback colour, slot, a⟩ :: q →
    slot < 256 → s.blocks.zoneAt n slot = some z → s.blocks.zone? z = some c →
    ∃ t : State, exec (.setFallback n (withCheck [BitVec.ofNat 8 slot])) s = .next t ∧
      t = { s with blocks := { s.blocks with
        risers := s.blocks.risers.set n { x with phase := .done, queue := q }
        zones := s.blocks.zones.set z (some { c with fault := if c.fault = some 255 then none else c.fault })
        notices := t.blocks.notices } } ∧
      (c.fault = some 255 → Told t.blocks (.zone z) .nodeFault))

/-- DIRECTED_WINDOW of a round before its decision, OFFER and OFFER_MISSING_OR_NOT_GOOD (R159, R161): the contention's winner is
held, the Offer Request is sent, a good offer is stored, and a contention with no winner ends the roll call. The first and second
failed offers raise the entry's attempt count to 1 and 2; the third leaves it there, within R148's 0..2, and takes the round to its
decision with no offer: that the third does not show is the model's choice (assumption log 50), and so is that an offer that is not
good changes nothing in its own row (log 31). -/
def Obligations.RoundsFindAWinner : Prop :=
  ∀ (s : State) (n : Fin 4) (x : Riser) (slot a : Nat) (q : List Exchange), TablesSized s.blocks → x = s.blocks.riser n →
    x.queue = ⟨.round, slot, a⟩ :: q →
    (∀ w : SerialWord, (x.phase = .tally ∨ x.phase = .tallied ∨ x.phase = .noticed) → x.round = .contention →
      exec (.directedWindow n (some w)) s = .next { s with blocks := { s.blocks with
        risers := s.blocks.risers.set n { x with sent := some .rollCall, phase := .done, round := .offering w.toNat } } }) ∧
    ((x.phase = .tally ∨ x.phase = .tallied ∨ x.phase = .noticed) → x.round = .contention →
      ∃ t : State, exec (.directedWindow n none) s = .next t ∧
        t = { s with blocks := { s.blocks with
          risers := s.blocks.risers.set n { x with
            sent := some .rollCall
            phase := .done
            rollCall := .idle
            queue := q.filter (fun e => decide (e.kind ≠ .round))
            state := if x.state = .starting then .running else x.state }
          notices := t.blocks.notices } } ∧
        Told t.blocks (.riser n) .rollCallDone ∧ (x.state = .starting → Told t.blocks (.riser n) .riserState)) ∧
    (∀ (w : Option SerialWord) (v : Nat), (x.phase = .tally ∨ x.phase = .tallied ∨ x.phase = .noticed) →
      x.round = .offering v →
      exec (.directedWindow n w) s = .next { s with blocks := { s.blocks with
        risers := s.blocks.risers.set n { x with sent := some .offerRequest, phase := .exchanging } } }) ∧
    (∀ (w : SerialWord) (layout effects rates class_ : Byte) (l : Layout) (k : NodeClass), x.phase = .exchanging →
      x.round = .offering w.toNat → layoutOf layout = some l → classOf class_ = some k → effects.toNat < 4 → rates.toNat < 16 →
      exec (.offer n (withCheck ([layout, effects, rates, class_] ++ beBytes48 w))) s =
        .next { s with blocks := { s.blocks with
          risers := s.blocks.risers.set n { x with
            phase := .done
            round := .deciding w.toNat (some ⟨l, effectsOf effects, ratesOf rates, k, w.toNat⟩) } } }) ∧
    (∀ (v : Nat) (reply : List Byte), x.phase = .exchanging → x.round = .offering v → readOffer v reply = none →
      exec (.offer n reply) s = .next s) ∧
    (∀ v : Nat, x.phase = .exchanging → x.round = .offering v → a < 2 →
      exec (.offerMissingOrNotGood n) s = .next { s with blocks := { s.blocks with
        risers := s.blocks.risers.set n { x with phase := .done, queue := ⟨.round, slot, a + 1⟩ :: q } } }) ∧
    (∀ v : Nat, x.phase = .exchanging → x.round = .offering v → 2 ≤ a →
      exec (.offerMissingOrNotGood n) s = .next { s with blocks := { s.blocks with
        risers := s.blocks.risers.set n { x with phase := .done, round := .deciding v none } } })

/-- DIRECTED_WINDOW at a round's decision (R160, R162): a winner that no zone of the riser expects, or without an offer, is stood by;
the zone that expects it is assigned, with its joint profile Accepted or Refused, its fault code cleared and each change of its node
state and fault code reported, and a Lost zone stays Lost. -/
def Obligations.DecisionsAssignOrStandBy : Prop :=
  ∀ (s : State) (n : Fin 4) (w : Option SerialWord) (x : Riser) (v slot a : Nat) (q : List Exchange) (offer : Option Offer),
    TablesSized s.blocks → x = s.blocks.riser n → (x.phase = .tally ∨ x.phase = .tallied ∨ x.phase = .noticed) →
    x.queue = ⟨.round, slot, a⟩ :: q → x.round = .deciding v offer →
    ((offer = none ∨ s.blocks.expecting n v = none) →
      ∃ t : State, exec (.directedWindow n w) s = .next t ∧
        t = { s with blocks := { s.blocks with
          risers := s.blocks.risers.set n { x with
            sent := some (.standBy v)
            phase := .done
            stranger := some v
            rounds := x.rounds + 1
            round := .contention
            queue := q ++ [⟨.round, 0, 0⟩] }
          notices := t.blocks.notices } } ∧
        Told t.blocks (.riser n) .stranger) ∧
    (∀ (o : Offer) (z : Nat) (c : Zone), offer = some o → s.blocks.expecting n v = some z → s.blocks.zone? z = some c →
      ∃ (t : State) (p : Option Rate), exec (.directedWindow n w) s = .next t ∧ t.port = s.port ∧ OnlyRisers s.blocks t.blocks ∧
        t.blocks.ownUs = s.blocks.ownUs ∧ c.serial = some v ∧ c.riser = n.val ∧
        t.blocks.risers = s.blocks.risers.set n { x with
          sent := some (.assign v c.slot)
          phase := .done
          rounds := x.rounds + 1
          round := .contention
          queue := q ++ [⟨.setFallback c.fallback, c.slot, 0⟩, ⟨.round, 0, 0⟩]
          pending := p } ∧
        (∀ y, y ≠ z → t.blocks.zone? y = s.blocks.zone? y) ∧
        (c.node = .lost → p = x.pending ∧ t.blocks.zone? z = some c) ∧
        (c.node ≠ .lost → ∃ j : Profile,
          t.blocks.zone? z = some { c with
            node := if j.refused = none then .ready else .refused
            profile := some j
            age := 0
            tally := ⟨false, false, false⟩
            fault := none } ∧
          (c.node ≠ (if j.refused = none then NodeState.ready else .refused) → Told t.blocks (.zone z) .nodeState) ∧
          (c.fault ≠ none → Told t.blocks (.zone z) .nodeFault) ∧
          j.layout = o.layout ∧ j.offered = o.effects ∧ j.rates = o.rates ∧ j.class_ = o.class_ ∧
          (∀ k, k ∈ j.local_ ↔ k ∈ o.effects ∧ k ∈ c.permitted) ∧
          (j.refused = some .class_ ↔ o.class_ ≠ (if c.isProtected then .beacon else .facade)) ∧
          (x.policy = .keep → (j.refused = some .rate →
            x.pending.getD x.rate ∉ o.rates) ∧ (j.refused = none → x.pending.getD x.rate ∈ o.rates) ∧ p = x.pending) ∧
          (x.policy = .lower → j.refused ≠ some .class_ →
            (j.refused = none ↔ ∃ m ∈ o.rates, RateOfAll s.blocks n (some z) m ∧
              m.perSecond ≤ (x.pending.getD x.rate).perSecond) ∧
            ((j.refused ≠ none ∨ (x.pending.getD x.rate ∈ o.rates ∧ RateOfAll s.blocks n (some z) (x.pending.getD x.rate))) →
              p = x.pending) ∧
            (j.refused = none → ¬(x.pending.getD x.rate ∈ o.rates ∧ RateOfAll s.blocks n (some z) (x.pending.getD x.rate)) →
              ∃ m ∈ o.rates, RateOfAll s.blocks n (some z) m ∧ p = some m ∧
                m.perSecond < (x.pending.getD x.rate).perSecond ∧
                ∀ m' ∈ o.rates, RateOfAll s.blocks n (some z) m' → m'.perSecond ≤ (x.pending.getD x.rate).perSecond →
                  m'.perSecond ≤ m.perSecond)) ∧
          (j.refused = some .class_ → p = x.pending)))

/-- CONFIGURE_ZONE and CLEAR_NODE (R154 to R156, R163): a new zone takes the carried fields over the first values and is Absent
exactly with an expected serial; settings and a fallback colour are stored, the colour sent to a node that is there; Remove empties
the record. The five checks of R155 refuse in their order: a zone whose node is present keeps its riser, slot, serial and protected
flag, and its record, until Clear Node has made it Absent. On a zone that is not present a change of the serial moves the node
state, and a change of the permitted effects recomputes the joint profile's. CLEAR_NODE is refused for a zone out of range, not
configured or not present, a round's winner, and a full queue. That a carried fallback colour equal to the one stored is sent too is
the model's choice (assumption log 33). -/
def Obligations.ZonesAreConfiguredAndCleared : Prop :=
  (∀ (s : State) (r : Request) (z : Nat) (y : ZoneBody), AsksFor s r (.configureZone z y) →
    (y.remove = true → zoneBodyCarries y = true → exec .configureZone s = .next (replied s r s.blocks (refuse .malformed))) ∧
    ((y.remove = true → zoneBodyCarries y = false) → (96 ≤ z ∨ zoneBodyInRange y = false) →
      exec .configureZone s = .next (replied s r s.blocks (refuse .outOfRange))) ∧
    (z < 96 → s.blocks.zone? z = none → zoneBodyInRange y = true →
      ((y.remove = true ∧ zoneBodyCarries y = false) ∨
        (y.remove = false ∧ (y.riser = none ∨ y.slot = none ∨ y.face = none ∨ y.feeder = none))) →
      exec .configureZone s = .next (replied s r s.blocks (refuse .outOfRange))) ∧
    (zoneBodyInRange y = true ↔
      (∀ v, y.riser = some v → v ≤ 3) ∧ (∀ v, y.slot = some v → 1 ≤ v ∧ v ≤ 24) ∧ (∀ v, y.face = some v → v ≤ 3) ∧
      (∀ v, y.feeder = some v → v ≤ 3) ∧ (∀ v, y.role = some v → v ≤ 255) ∧
      (∀ v, y.serial = some (some v) → v ≤ 281474976710655) ∧ (∀ l, y.permitted = some l → StepKind.static ∉ l) ∧
      (∀ v, y.trim = some v → v ≤ 1000) ∧ (∀ v, y.watts = some v → Capped 5000 v) ∧
      (∀ v, y.fallback = some v → Capped 1000 v)) ∧
    (∀ c : Zone, z < 96 → y.remove = false → zoneBodyInRange y = true → s.blocks.zone? z = some c → c.node ≠ .vacant →
      c.node ≠ .absent →
      ((∃ v, y.riser = some v ∧ v ≠ c.riser) ∨ (∃ v, y.slot = some v ∧ v ≠ c.slot) ∨
        (∃ v, y.serial = some v ∧ v ≠ c.serial) ∨ ∃ v, y.isProtected = some v ∧ v ≠ c.isProtected) →
      exec .configureZone s = .next (replied s r s.blocks (refuseWith .inUse (.nodeState c.node)))) ∧
    (∀ m : Zone, z < 96 → y.remove = false → zoneBodyInRange y = true → formZone y (s.blocks.zone? z) = some m →
      (∀ c, s.blocks.zone? z = some c → c.node = .vacant ∨ c.node = .absent) →
      ((y.isProtected = some true ∧ ∃ k ∈ s.blocks.bookings, z ∈ k.fields.zones) ∨
        ∃ w d, w < 96 ∧ w ≠ z ∧ s.blocks.zone? w = some d ∧
          ((d.riser = m.riser ∧ d.slot = m.slot) ∨ ∃ v, m.serial = some v ∧ d.serial = some v)) →
      exec .configureZone s = .next (replied s r s.blocks (refuse .inUse)))) ∧
  (∀ (s : State) (r : Request) (z : Nat) (y : ZoneBody) (c m : Zone), AsksFor s r (.configureZone z y) → z < 96 →
    TablesSized s.blocks → s.blocks.zone? z = some c → (c.node = .vacant ∨ c.node = .absent) → y.remove = false →
    y.fallback = none → zoneBodyInRange y = true →
    m = { c with
      riser := y.riser.getD c.riser, slot := y.slot.getD c.slot, face := y.face.getD c.face, feeder := y.feeder.getD c.feeder
      role := y.role.getD c.role, serial := y.serial.getD c.serial, isProtected := y.isProtected.getD c.isProtected
      permitted := y.permitted.getD c.permitted, trim := y.trim.getD c.trim, watts := y.watts.getD c.watts } →
    (y.isProtected = some true → ∀ k ∈ s.blocks.bookings, z ∉ k.fields.zones) → s.blocks.collides z m = false →
    ∃ (b : Blocks) (d : Zone), exec .configureZone s = .next (replied s r b (okWith (.zoneConfigured (some d) false))) ∧
      OnlyRisers s.blocks b ∧ b.ownUs = s.blocks.ownUs ∧ b.risers = s.blocks.risers ∧ b.zones = s.blocks.zones.set z (some d) ∧
      d = { m with permitted := d.permitted, profile := d.profile, node := d.node } ∧
      (∀ k, k ∈ d.permitted ↔ k ∈ m.permitted) ∧
      (y.permitted = none → d.profile = c.profile) ∧
      (y.permitted ≠ none → d.profile = c.profile.map (fun p =>
        { p with local_ := p.offered.filter (fun k => decide (k ∈ m.permitted)) })) ∧
      d.node = (if m.serial = none then .vacant else .absent) ∧ (d.node ≠ c.node → Told b (.zone z) .nodeState)) ∧
  (∀ (s : State) (r : Request) (z : Nat), AsksFor s r (.clearNode z) →
    (96 ≤ z → exec .clearNode s = .next (replied s r s.blocks (refuse .outOfRange))) ∧
    (z < 96 → s.blocks.zone? z = none → exec .clearNode s = .next (replied s r s.blocks (refuse .wrongState))) ∧
    (∀ c, z < 96 → s.blocks.zone? z = some c →
      (c.node = .vacant ∨ c.node = .absent ∨ 6 ≤ (s.blocks.riser c.riser).queue.length ∨
        ∃ v o, c.serial = some v ∧ (s.blocks.riser c.riser).rollCall = .running ∧
          ((s.blocks.riser c.riser).round = .offering v ∨ (s.blocks.riser c.riser).round = .deciding v o)) →
      exec .clearNode s = .next (replied s r s.blocks (refuse .wrongState)))) ∧
  (∀ (s : State) (r : Request) (z rr sl fa fe : Nat) (y : ZoneBody), AsksFor s r (.configureZone z y) → z < 96 →
    TablesSized s.blocks → s.blocks.zone? z = none → y.remove = false → zoneBodyInRange y = true → y.riser = some rr →
    y.slot = some sl → y.face = some fa → y.feeder = some fe →
    (y.isProtected = some true → ∀ k ∈ s.blocks.bookings, z ∉ k.fields.zones) →
    (∀ m d, s.blocks.zone? m = some d →
      ¬(d.riser = rr ∧ d.slot = sl) ∧ ∀ v, y.serial = some (some v) → d.serial ≠ some v) →
    ∃ (b : Blocks) (c : Zone), exec .configureZone s = .next (replied s r b (okWith (.zoneConfigured (some c) false))) ∧
      OnlyRisers s.blocks b ∧ b.ownUs = s.blocks.ownUs ∧ b.risers = s.blocks.risers ∧ b.zones = s.blocks.zones.set z (some c) ∧
      c = { riser := rr, slot := sl, face := fa, feeder := fe, role := y.role.getD 0, serial := y.serial.getD none,
            isProtected := y.isProtected.getD false, permitted := c.permitted, trim := y.trim.getD 1000,
            watts := y.watts.getD ⟨0, 0, 0, 0⟩, fallback := y.fallback.getD ⟨0, 0, 0, 0⟩,
            node := if (y.serial.getD none).isSome then .absent else .vacant, profile := none, age := 0,
            tally := ⟨false, false, false⟩, fault := none, last := ⟨0, 0, 0, 0⟩, handover := none } ∧
      (∀ k, k ∈ c.permitted ↔ k ∈ y.permitted.getD []) ∧
      ((y.serial.getD none).isSome = true → Told b (.zone z) .nodeState)) ∧
  (∀ (s : State) (r : Request) (z : Nat) (c : Zone) (role trim : Option Nat) (watts : Option Levels),
    AsksFor s r (.configureZone z ⟨none, none, none, none, role, none, none, none, trim, watts, none, false⟩) → z < 96 →
    TablesSized s.blocks → s.blocks.zone? z = some c → s.blocks.collides z c = false → nodeBySerial c = c.node →
    (∀ v, role = some v → v ≤ 255) → (∀ v, trim = some v → v ≤ 1000) → (∀ v, watts = some v → Capped 5000 v) →
    ∃ d : Zone, d = { c with role := role.getD c.role, trim := trim.getD c.trim, watts := watts.getD c.watts } ∧
      exec .configureZone s = .next (replied s r { s.blocks with zones := s.blocks.zones.set z (some d) }
        (okWith (.zoneConfigured (some d) false)))) ∧
  (∀ (s : State) (r : Request) (z : Nat) (c : Zone) (l : Levels),
    AsksFor s r (.configureZone z ⟨none, none, none, none, none, none, none, none, none, none, some l, false⟩) → z < 96 →
    TablesSized s.blocks → s.blocks.zone? z = some c → s.blocks.collides z c = false → nodeBySerial c = c.node →
    Capped 1000 l → c.riser < 4 →
    ((c.node.live = true ∨ c.node = .refused) → (s.blocks.riser c.riser).queue.length < 6 →
      exec .configureZone s = .next (replied s r { s.blocks with
        zones := s.blocks.zones.set z (some { c with fallback := l })
        risers := s.blocks.risers.set c.riser { s.blocks.riser c.riser with
          queue := (s.blocks.riser c.riser).queue ++ [⟨.setFallback l, c.slot, 0⟩] } }
        (okWith (.zoneConfigured (some { c with fallback := l }) true)))) ∧
    ((c.node.live = true ∨ c.node = .refused) → 6 ≤ (s.blocks.riser c.riser).queue.length →
      ∃ b : Blocks, exec .configureZone s =
          .next (replied s r b (okWith (.zoneConfigured (some { c with fallback := l, fault := some 255 }) false))) ∧
        b = { s.blocks with
          zones := s.blocks.zones.set z (some { c with fallback := l, fault := some 255 })
          notices := b.notices } ∧
        Told b (.zone z) .nodeFault) ∧
    (c.node.live = false → c.node ≠ .refused →
      exec .configureZone s = .next (replied s r { s.blocks with
        zones := s.blocks.zones.set z (some { c with fallback := l }) }
        (okWith (.zoneConfigured (some { c with fallback := l }) false))))) ∧
  (∀ (s : State) (r : Request) (z : Nat) (c : Zone),
    AsksFor s r (.configureZone z ⟨none, none, none, none, none, none, none, none, none, none, none, true⟩) → z < 96 →
    TablesSized s.blocks → s.blocks.zone? z = some c →
    ((c.node = .vacant ∨ c.node = .absent) →
      ∃ b : Blocks, exec .configureZone s = .next (replied s r b (okWith (.zoneConfigured none false))) ∧
        b.zones = s.blocks.zones.set z none ∧ b.latestOf z = .absent ∧
        (∀ m, m ≠ z → b.latestOf m = s.blocks.latestOf m) ∧ b.risers = s.blocks.risers ∧ b.holding = s.blocks.holding ∧
        b.bookings = s.blocks.bookings ∧ b.active = s.blocks.active ∧ b.time = s.blocks.time ∧
        (c.node = .absent → Told b (.zone z) .nodeState)) ∧
    (c.node ≠ .vacant → c.node ≠ .absent →
      exec .configureZone s = .next (replied s r s.blocks (refuseWith .inUse (.nodeState c.node))))) ∧
  (∀ (s : State) (r : Request) (z : Nat) (c : Zone), AsksFor s r (.clearNode z) → z < 96 → TablesSized s.blocks →
    s.blocks.zone? z = some c → c.node ≠ .vacant → c.node ≠ .absent → c.riser < 4 →
    (s.blocks.riser c.riser).queue.length < 6 →
    (∀ v o, c.serial = some v → (s.blocks.riser c.riser).rollCall = .running →
      (s.blocks.riser c.riser).round ≠ .offering v ∧ (s.blocks.riser c.riser).round ≠ .deciding v o) →
    ∃ b : Blocks, exec .clearNode s = .next (replied s r b (okWith .empty)) ∧ OnlyRisers s.blocks b ∧
      b.ownUs = s.blocks.ownUs ∧
      b.zones = s.blocks.zones.set z (some { c with node := .absent, age := 0, tally := ⟨false, false, false⟩, profile := none }) ∧
      b.risers = s.blocks.risers.set c.riser { s.blocks.riser c.riser with
        queue := (s.blocks.riser c.riser).queue ++ [⟨.resetNode, c.slot, 0⟩] } ∧
      Told b (.zone z) .nodeState)

/-! ## Sensors and feeders -/

/-- READ_CHANNEL (R166): the channel's latest code, its age and whether the scan calibrates, with no code while it does; a channel
outside 0..7 is refused with OutOfRange; nothing changes, and a scan reports no notice of its own (Feeder Control reports a trip).
-/
def Obligations.ReadChannelShowsTheChannel : Prop :=
  (∀ (s : State) (r : Request) (c : Nat) (ch : Channel), AsksFor s r (.readChannel c) → s.blocks.scan.channels[c]? = some ch →
    c ≤ 7 →
    exec .readChannel s = .next (replied s r s.blocks (okWith (.channel ch.latest ch.age s.blocks.scan.calibrating)))) ∧
  (∀ (s : State) (r : Request) (c : Nat) (ch : Channel), AsksFor s r (.readChannel c) → s.blocks.scan.channels[c]? = some ch →
    c ≤ 7 → CalibrationHoldsNoCode s.blocks → s.blocks.scan.calibrating = true →
    exec .readChannel s = .next (replied s r s.blocks (okWith (.channel none ch.age true)))) ∧
  (∀ (s : State) (r : Request) (c : Nat), AsksFor s r (.readChannel c) → 7 < c →
    exec .readChannel s = .next (replied s r s.blocks (refuse .outOfRange))) ∧
  (∀ (s t : State) (c : Fin 8) (x y : BitVec 12), TablesSized s.blocks → exec (.sensorScan c x y) s = .next t →
    (4 ≤ c.val → (t.blocks.feeder (c.val - 4)).tripped = (s.blocks.feeder (c.val - 4)).tripped) →
    t.blocks.notices = s.blocks.notices)

/-- CALIBRATION_END and SENSOR_SCAN (R105, R165, R168): scanning begins 2 s after the full reset; two conversions more than 16
apart only age the channel; a sample of an ambient channel joins its face's accumulation, and the 16th moves the face's gain, but
under glare; a current sample at or below the trip mark clears the over count, the first and second above it raise it, and one of a
Tripped feeder is not counted. The own count of 2,000,000 and those of the scans, 250,000 apart, are the model's choice (assumption
logs 2 and 23). -/
def Obligations.ScansTakeSamples : Prop :=
  (∀ s : State, s.blocks.scan.calibrating = true →
    exec .calibrationEnd s = .next { s with blocks := { s.blocks with
      ownUs := max s.blocks.ownUs 2000000
      scan := { calibrating := false, channels := s.blocks.scan.channels.map (fun ch =>
        { ch with nextScan := max s.blocks.ownUs 2000000 }) } } }) ∧
  (∀ (s : State) (c : Fin 8) (x y : BitVec 12) (ch : Channel) (own : Nat), s.blocks.scan.calibrating = false →
    s.blocks.scan.channels[c.val]? = some ch → own = max s.blocks.ownUs ch.nextScan →
    (x.toNat + 16 < y.toNat ∨ y.toNat + 16 < x.toNat) →
    exec (.sensorScan c x y) s = .next { s with blocks := { s.blocks with
      ownUs := own
      scan := { s.blocks.scan with
        channels := s.blocks.scan.channels.set c.val { ch with age := min 255 (ch.age + 1), nextScan := own + 250000 } } } }) ∧
  (∀ (s : State) (c : Fin 8) (x y : BitVec 12) (ch : Channel) (f : Face) (own : Nat), s.blocks.scan.calibrating = false →
    s.blocks.scan.channels[c.val]? = some ch → c.val < 4 → s.blocks.chain.faces[c.val]? = some f → f.count < 15 →
    own = max s.blocks.ownUs ch.nextScan → x.toNat ≤ y.toNat + 16 → y.toNat ≤ x.toNat + 16 →
    exec (.sensorScan c x y) s = .next { s with blocks := { s.blocks with
      ownUs := own
      scan := { s.blocks.scan with
        channels := s.blocks.scan.channels.set c.val ⟨some ((x.toNat + y.toNat) / 2), 0, own + 250000⟩ }
      chain := { s.blocks.chain with
        faces := s.blocks.chain.faces.set c.val { f with sum := f.sum + (x.toNat + y.toNat) / 2, count := f.count + 1 } } } }) ∧
  (∀ (s : State) (c : Fin 8) (x y : BitVec 12) (ch : Channel) (own : Nat), s.blocks.scan.calibrating = false →
    s.blocks.scan.channels[c.val]? = some ch → 4 ≤ c.val → (s.blocks.feeder (c.val - 4)).tripped = false →
    own = max s.blocks.ownUs ch.nextScan → x.toNat ≤ y.toNat + 16 → y.toNat ≤ x.toNat + 16 →
    (x.toNat + y.toNat) / 2 ≤ (s.blocks.feeder (c.val - 4)).tripMark →
    exec (.sensorScan c x y) s = .next { s with blocks := { s.blocks with
      ownUs := own
      scan := { s.blocks.scan with
        channels := s.blocks.scan.channels.set c.val ⟨some ((x.toNat + y.toNat) / 2), 0, own + 250000⟩ }
      feeders := s.blocks.feeders.set (c.val - 4) { s.blocks.feeder (c.val - 4) with overCount := 0 } } }) ∧
  (∀ (s : State) (c : Fin 8) (x y : BitVec 12) (ch : Channel) (f : Face) (a : Ambient) (own code average : Nat) (g : Int),
    s.blocks.scan.calibrating = false → s.blocks.scan.channels[c.val]? = some ch → c.val < 4 →
    s.blocks.chain.faces[c.val]? = some f → f.count = 15 → own = max s.blocks.ownUs ch.nextScan → x.toNat ≤ y.toNat + 16 →
    y.toNat ≤ x.toNat + 16 → code = (x.toNat + y.toNat) / 2 → average = (f.sum + code) / 16 → a = s.blocks.chain.ambient →
    g = (f.gain : Int) + Int.tdiv (((average : Int) - a.aref) * (if 0 < f.settle then a.sFast else a.sSlow)) 256 →
    exec (.sensorScan c x y) s = .next { s with blocks := { s.blocks with
      ownUs := own
      scan := { s.blocks.scan with channels := s.blocks.scan.channels.set c.val ⟨some code, 0, own + 250000⟩ }
      chain := { s.blocks.chain with
        faces := s.blocks.chain.faces.set c.val
          (if 4000 ≤ average then { f with sum := 0, count := 0 }
            else { gain := (min (max g a.gmin) a.gmax).toNat, settle := f.settle - 1, sum := 0, count := 0 }) } } }) ∧
  (∀ (s : State) (c : Fin 8) (x y : BitVec 12) (ch : Channel) (own : Nat), s.blocks.scan.calibrating = false →
    s.blocks.scan.channels[c.val]? = some ch → 4 ≤ c.val → own = max s.blocks.ownUs ch.nextScan → x.toNat ≤ y.toNat + 16 →
    y.toNat ≤ x.toNat + 16 →
    ((s.blocks.feeder (c.val - 4)).tripped = false → (s.blocks.feeder (c.val - 4)).overCount < 2 →
      (s.blocks.feeder (c.val - 4)).tripMark < (x.toNat + y.toNat) / 2 →
      exec (.sensorScan c x y) s = .next { s with blocks := { s.blocks with
        ownUs := own
        scan := { s.blocks.scan with
          channels := s.blocks.scan.channels.set c.val ⟨some ((x.toNat + y.toNat) / 2), 0, own + 250000⟩ }
        feeders := s.blocks.feeders.set (c.val - 4) { s.blocks.feeder (c.val - 4) with
          overCount := (s.blocks.feeder (c.val - 4)).overCount + 1 } } }) ∧
    ((s.blocks.feeder (c.val - 4)).tripped = true →
      exec (.sensorScan c x y) s = .next { s with blocks := { s.blocks with
        ownUs := own
        scan := { s.blocks.scan with
          channels := s.blocks.scan.channels.set c.val ⟨some ((x.toNat + y.toNat) / 2), 0, own + 250000⟩ } } })) ∧
  (∀ (a : Ambient) (average : Nat) (f : Face), a.gmin ≤ a.gmax → a.gmin ≤ f.gain → f.gain ≤ a.gmax →
    a.gmin ≤ (ambientUpdate a average f).gain ∧ (ambientUpdate a average f).gain ≤ a.gmax ∧
    (ambientUpdate a average f).count = 0)

/-- A third current sample above the trip mark trips a feeder (R168): Tripped with its contactor Open and its idle timer stopped,
Tripped and a change of the contactor reported, every configured zone on it that has levels dark, and so the zones that a render in
flight has made Lit on it, which it then makes dark. That a zone Lit in the render counts by the feeder it was reached on, and that
its result no longer says that its handover was found at its end, are the model's choices (assumption log 24). -/
def Obligations.ThirdOverSampleTrips : Prop :=
  ∀ (s : State) (c : Fin 8) (x y : BitVec 12) (f : Nat), TablesSized s.blocks → s.blocks.scan.calibrating = false →
    c.val = f + 4 → (s.blocks.feeder f).tripped = false → 2 ≤ (s.blocks.feeder f).overCount →
    x.toNat ≤ y.toNat + 16 → y.toNat ≤ x.toNat + 16 → (s.blocks.feeder f).tripMark < (x.toNat + y.toNat) / 2 →
    ∃ t : State, exec (.sensorScan c x y) s = .next t ∧ t.port = s.port ∧
      t.blocks.feeder f = { s.blocks.feeder f with
        tripped := true
        closed := false
        idleFrom := none
        overCount := (s.blocks.feeder f).overCount + 1 } ∧
      Told t.blocks (.feeder f) .tripped ∧
      ((s.blocks.feeder f).closed = true → Told t.blocks (.feeder f) .contactorChanged) ∧
      t.blocks.chain = { s.blocks.chain with
        latest := t.blocks.chain.latest
        flight := s.blocks.chain.flight.map (fun fl => { fl with results := fl.results.map (Option.map (tripResult f)) }) } ∧
      (∀ (l w : Levels) (lay : Layout) (k : Token) (g : Nat) (src : Option TakenHolder) (e : Bool),
        tripResult f (.lit l lay k g w src e) = if g = f then .tripped else .lit l lay k g w src e) ∧
      tripResult f .noLevels = .noLevels ∧ tripResult f .tripped = .tripped ∧
      (∀ g < 4, g ≠ f → t.blocks.feeder g = s.blocks.feeder g) ∧
      (∀ (z : Nat) (d : Zone), s.blocks.zone? z = some d → d.feeder = f → (s.blocks.latestOf z).hasLevels = true →
        t.blocks.zone? z = some { d with last := ⟨0, 0, 0, 0⟩ } ∧ t.blocks.latestOf z = .levels ⟨0, 0, 0, 0⟩ .plain) ∧
      (∀ z, (∀ d, s.blocks.zone? z = some d → d.feeder ≠ f) →
        t.blocks.zone? z = s.blocks.zone? z ∧ t.blocks.latestOf z = s.blocks.latestOf z) ∧
      t.blocks.holding = s.blocks.holding ∧ t.blocks.active = s.blocks.active ∧ t.blocks.bookings = s.blocks.bookings

/-- IDLE_TIMER_EXPIRY, RECLOSE_FEEDER, CONFIGURE_FEEDER and SET_OUTPUT (R169, R171 to R173). The idle timer's end opens the
contactor. A Reclose clears the trip, starts a handover of the schedule default on each unprotected zone of the feeder, and drives
the contactor by its source. Configure Feeder stores what it carries and replies with the record, its idle timer in own ms. Set
Output stores the source and the command that it carries: under Operator a line takes the command, a Tripped feeder's contactor
excepted, and the idle timer stops; a line returned to Schedule follows its claims or its condition. A changed contactor is
reported. Out of range, Reclose of a feeder that is not Tripped, and a command that does not suit its line are refused. That the
idle timer ends at own count t0 + 600,000,000 is the model's choice (assumption logs 2 and 18). -/
def Obligations.FeederCommands : Prop :=
  (∀ (s : State) (f : Fin 4) (t0 : Nat), s.blocks.feeders.length = 4 → (s.blocks.feeder f).idleFrom = some t0 →
    ∃ t : State, exec (.idleTimerExpiry f) s = .next t ∧ t.port = s.port ∧
      t.blocks.feeder f = { s.blocks.feeder f with closed := false, idleFrom := none } ∧
      t.blocks.ownUs = max s.blocks.ownUs (t0 + 600000000) ∧
      ((s.blocks.feeder f).closed = true → Told t.blocks (.feeder f) .contactorChanged) ∧
      (∀ g < 4, g ≠ f.val → t.blocks.feeder g = s.blocks.feeder g) ∧
      t.blocks.zones = s.blocks.zones ∧ t.blocks.bookings = s.blocks.bookings) ∧
  (∀ (s : State) (r : Request) (f : Nat), AsksFor s r (.recloseFeeder f) → f ≤ 3 → s.blocks.feeders.length = 4 →
    (s.blocks.feeder f).tripped = true →
    ∃ b : Blocks, exec .recloseFeeder s = .next (replied s r b (okWith (.contactor (b.feeder f).closed))) ∧
      (b.feeder f).tripped = false ∧ (b.feeder f).overCount = 0 ∧
      (b.feeder f).closed = (match (s.blocks.feeder f).source with
        | .operator => (s.blocks.feeder f).commandClosed
        | .schedule => s.blocks.claimed f) ∧
      (TablesSized s.blocks → ∀ z, b.zone? z =
        if s.blocks.onFeeder f z then handedOver? s.blocks z else s.blocks.zone? z) ∧
      ((b.feeder f).closed ≠ (s.blocks.feeder f).closed → Told b (.feeder f) .contactorChanged) ∧
      (∀ g < 4, g ≠ f → b.feeder g = s.blocks.feeder g) ∧ b.holding = s.blocks.holding ∧ b.bookings = s.blocks.bookings) ∧
  (∀ (s : State) (r : Request) (f : Nat), AsksFor s r (.recloseFeeder f) → f ≤ 3 → (s.blocks.feeder f).tripped = false →
    exec .recloseFeeder s = .next (replied s r s.blocks (refuse .wrongState))) ∧
  (∀ (s : State) (r : Request) (f : Nat), AsksFor s r (.recloseFeeder f) → 4 ≤ f →
    exec .recloseFeeder s = .next (replied s r s.blocks (refuse .outOfRange))) ∧
  (∀ (s : State) (r : Request) (f : Nat) (p m : Option Nat), AsksFor s r (.configureFeeder f p m) →
    (4 ≤ f ∨ (∃ v, p = some v ∧ 1000000 < v) ∨ ∃ v, m = some v ∧ 4095 < v) →
    exec .configureFeeder s = .next (replied s r s.blocks (refuse .outOfRange))) ∧
  (∀ (s : State) (r : Request) (f : Nat) (p m : Option Nat) (x : Feeder), AsksFor s r (.configureFeeder f p m) → f ≤ 3 →
    s.blocks.feeders.length = 4 → (∀ v, p = some v → v ≤ 1000000) → (∀ v, m = some v → v ≤ 4095) →
    x = { s.blocks.feeder f with
      budget := p.getD (s.blocks.feeder f).budget, tripMark := m.getD (s.blocks.feeder f).tripMark } →
    exec .configureFeeder s =
      .next (replied s r { s.blocks with feeders := s.blocks.feeders.set f x } (okWith (.feederRecord
        { budget := x.budget, tripMark := x.tripMark, source := x.source, commandClosed := x.commandClosed, closed := x.closed,
          tripped := x.tripped, overCount := x.overCount, armClaims := x.armClaims,
          idle := x.idleFrom.map (fun t => min 600000 ((s.blocks.ownUs - t) / 1000)), load := x.load, scale := x.scale })))) ∧
  (∀ (s : State) (r : Request) (l : Code OutputLine) (so : Option (Code OutputSource)) (co : Option (Code OutputCommand)),
    AsksFor s r (.setOutput l so co) →
    ((l = .unknown ∨ so = some .unknown ∨ co = some .unknown ∨
        ∃ o c, l = .known o ∧ co = some (.known c) ∧
          ((∃ f, o = .contactor f) ↔ (c = .asserted ∨ c = .deasserted))) →
      exec .setOutput s = .next (replied s r s.blocks (refuse .outOfRange))) ∧
    (∀ o, l = .known o → so = none → co = none →
      exec .setOutput s = .next (replied s r s.blocks (okWith (.output (s.blocks.outputView o)))))) ∧
  (∀ (s : State) (r : Request) (f : Fin 4) (so : Option OutputSource) (co : Option Bool) (x : Feeder),
    AsksFor s r (.setOutput (.known (.contactor f)) (so.map .known)
      (co.map (fun c => .known (if c then .closed else .open_)))) →
    (so ≠ none ∨ co ≠ none) → s.blocks.feeders.length = 4 → s.blocks.deferral = none →
    x = { s.blocks.feeder f with
      source := so.getD (s.blocks.feeder f).source, commandClosed := co.getD (s.blocks.feeder f).commandClosed } →
    ∃ b : Blocks, exec .setOutput s = .next (replied s r b (okWith (.output (b.outputView (.contactor f))))) ∧
      (x.source = .operator → b.feeder f = { x with
        idleFrom := none, closed := if x.tripped then x.closed else x.commandClosed }) ∧
      (x.source = .schedule → ((s.blocks.feeder f).source = .schedule ∨ x.tripped = true) → b.feeder f = x) ∧
      (x.source = .schedule → (s.blocks.feeder f).source = .operator → x.tripped = false →
        b.feeder f = (if s.blocks.claimed f then { x with closed := true, idleFrom := none }
          else if x.closed then { x with idleFrom := some (x.idleFrom.getD s.blocks.ownUs) } else x)) ∧
      ((b.feeder f).closed ≠ (s.blocks.feeder f).closed → Told b (.feeder f) .contactorChanged) ∧
      b = { s.blocks with feeders := s.blocks.feeders.set f (b.feeder f), notices := b.notices }) ∧
  (∀ (s : State) (r : Request) (so : Option OutputSource) (co : Option Bool) (i j : Indicator),
    AsksFor s r (.setOutput (.known .showLive) (so.map .known)
      (co.map (fun c => .known (if c then .asserted else .deasserted)))) →
    (so ≠ none ∨ co ≠ none) → i = s.blocks.showLive → j.source = so.getD i.source → j.command = co.getD i.command →
    (j.source = .operator → j.output = j.command) →
    (j.source = .schedule → (j.output = true ↔
      ∃ o ∈ s.blocks.active, 0 < o.tier.rank ∧ ∃ h ∈ s.blocks.holding, h.holder.map (fun k => k.id) = some o.id)) →
    exec .setOutput s = .next (replied s r { s.blocks with showLive := j } (okWith (.output
      ⟨.showLive, j.source, if j.command then .asserted else .deasserted, if j.output then .asserted else .deasserted⟩)))) ∧
  (∀ (s : State) (r : Request) (so : Option OutputSource) (co : Option Bool) (i j : Indicator),
    AsksFor s r (.setOutput (.known .curfewActive) (so.map .known)
      (co.map (fun c => .known (if c then .asserted else .deasserted)))) →
    (so ≠ none ∨ co ≠ none) → i = s.blocks.curfewActive → j.source = so.getD i.source → j.command = co.getD i.command →
    (j.source = .operator → j.output = j.command) → (j.source = .schedule → j.output = s.blocks.chain.windowOpen) →
    exec .setOutput s = .next (replied s r { s.blocks with curfewActive := j } (okWith (.output
      ⟨.curfewActive, j.source, if j.command then .asserted else .deasserted,
        if j.output then .asserted else .deasserted⟩)))) ∧
  (∀ (s : State) (r : Request) (c : Bool) (f : Fin 4),
    AsksFor s r (.setOutput (.known (.contactor f)) (some (.known .operator))
      (some (.known (if c then .closed else .open_)))) →
    s.blocks.feeders.length = 4 →
    ∃ b : Blocks, exec .setOutput s = .next (replied s r b (okWith (.output (b.outputView (.contactor f))))) ∧
      b.feeder f = { s.blocks.feeder f with
        source := .operator
        commandClosed := c
        idleFrom := none
        closed := if (s.blocks.feeder f).tripped then (s.blocks.feeder f).closed else c } ∧
      (∀ g < 4, g ≠ f.val → b.feeder g = s.blocks.feeder g) ∧ b.zones = s.blocks.zones ∧ b.bookings = s.blocks.bookings) ∧
  (∀ (s : State) (r : Request) (so : OutputSource) (c : Bool) (i : Indicator),
    AsksFor s r (.setOutput (.known .curfewActive) (some (.known so))
      (some (.known (if c then .asserted else .deasserted)))) →
    i = ⟨so, c, match so with | .schedule => s.blocks.chain.windowOpen | .operator => c⟩ →
    exec .setOutput s = .next (replied s r { s.blocks with curfewActive := i } (okWith (.output
      ⟨.curfewActive, so, if c then .asserted else .deasserted, if i.output then .asserted else .deasserted⟩))))
end

