-- ==== Sys2Proof/Laws/State.lean ====
section
/-! SUPPORT. One lemma per field for each update of one record of the blocks, so that no proof unfolds a record update. -/

namespace Sys2Proof.Machine

variable (b : Blocks)

/-! ## setZone -/

@[simp] theorem setZone_ownUs (z : Nat) (c : Option Zone) : (b.setZone z c).ownUs = b.ownUs := rfl
@[simp] theorem setZone_nextId (z : Nat) (c : Option Zone) : (b.setZone z c).nextId = b.nextId := rfl
@[simp] theorem setZone_time (z : Nat) (c : Option Zone) : (b.setZone z c).time = b.time := rfl
@[simp] theorem setZone_almanac (z : Nat) (c : Option Zone) : (b.setZone z c).almanac = b.almanac := rfl
@[simp] theorem setZone_cue (z : Nat) (c : Option Zone) : (b.setZone z c).cue = b.cue := rfl
@[simp] theorem setZone_programs (z : Nat) (c : Option Zone) : (b.setZone z c).programs = b.programs := rfl
@[simp] theorem setZone_bookings (z : Nat) (c : Option Zone) : (b.setZone z c).bookings = b.bookings := rfl
@[simp] theorem setZone_upcoming (z : Nat) (c : Option Zone) : (b.setZone z c).upcoming = b.upcoming := rfl
@[simp] theorem setZone_active (z : Nat) (c : Option Zone) : (b.setZone z c).active = b.active := rfl
@[simp] theorem setZone_armLead (z : Nat) (c : Option Zone) : (b.setZone z c).armLead = b.armLead := rfl
@[simp] theorem setZone_lastFreed (z : Nat) (c : Option Zone) : (b.setZone z c).lastFreed = b.lastFreed := rfl
@[simp] theorem setZone_holding (z : Nat) (c : Option Zone) : (b.setZone z c).holding = b.holding := rfl
@[simp] theorem setZone_panelHold (z : Nat) (c : Option Zone) : (b.setZone z c).panelHold = b.panelHold := rfl
@[simp] theorem setZone_zones (z : Nat) (c : Option Zone) : (b.setZone z c).zones = b.zones.set z c := rfl
@[simp] theorem setZone_risers (z : Nat) (c : Option Zone) : (b.setZone z c).risers = b.risers := rfl
@[simp] theorem setZone_chain (z : Nat) (c : Option Zone) : (b.setZone z c).chain = b.chain := rfl
@[simp] theorem setZone_scan (z : Nat) (c : Option Zone) : (b.setZone z c).scan = b.scan := rfl
@[simp] theorem setZone_feeders (z : Nat) (c : Option Zone) : (b.setZone z c).feeders = b.feeders := rfl
@[simp] theorem setZone_showLive (z : Nat) (c : Option Zone) : (b.setZone z c).showLive = b.showLive := rfl
@[simp] theorem setZone_curfewActive (z : Nat) (c : Option Zone) : (b.setZone z c).curfewActive = b.curfewActive := rfl
@[simp] theorem setZone_deferral (z : Nat) (c : Option Zone) : (b.setZone z c).deferral = b.deferral := rfl
@[simp] theorem setZone_notices (z : Nat) (c : Option Zone) : (b.setZone z c).notices = b.notices := rfl
@[simp] theorem setZone_mask (z : Nat) (c : Option Zone) : (b.setZone z c).mask = b.mask := rfl

/-! ## updateZone -/

@[simp] theorem updateZone_ownUs (z : Nat) (g : Zone → Zone) : (b.updateZone z g).ownUs = b.ownUs := rfl
@[simp] theorem updateZone_nextId (z : Nat) (g : Zone → Zone) : (b.updateZone z g).nextId = b.nextId := rfl
@[simp] theorem updateZone_time (z : Nat) (g : Zone → Zone) : (b.updateZone z g).time = b.time := rfl
@[simp] theorem updateZone_almanac (z : Nat) (g : Zone → Zone) : (b.updateZone z g).almanac = b.almanac := rfl
@[simp] theorem updateZone_cue (z : Nat) (g : Zone → Zone) : (b.updateZone z g).cue = b.cue := rfl
@[simp] theorem updateZone_programs (z : Nat) (g : Zone → Zone) : (b.updateZone z g).programs = b.programs := rfl
@[simp] theorem updateZone_bookings (z : Nat) (g : Zone → Zone) : (b.updateZone z g).bookings = b.bookings := rfl
@[simp] theorem updateZone_upcoming (z : Nat) (g : Zone → Zone) : (b.updateZone z g).upcoming = b.upcoming := rfl
@[simp] theorem updateZone_active (z : Nat) (g : Zone → Zone) : (b.updateZone z g).active = b.active := rfl
@[simp] theorem updateZone_armLead (z : Nat) (g : Zone → Zone) : (b.updateZone z g).armLead = b.armLead := rfl
@[simp] theorem updateZone_lastFreed (z : Nat) (g : Zone → Zone) : (b.updateZone z g).lastFreed = b.lastFreed := rfl
@[simp] theorem updateZone_holding (z : Nat) (g : Zone → Zone) : (b.updateZone z g).holding = b.holding := rfl
@[simp] theorem updateZone_panelHold (z : Nat) (g : Zone → Zone) : (b.updateZone z g).panelHold = b.panelHold := rfl
@[simp] theorem updateZone_zones (z : Nat) (g : Zone → Zone) : (b.updateZone z g).zones = b.zones.set z ((b.zone? z).map g) := rfl
@[simp] theorem updateZone_risers (z : Nat) (g : Zone → Zone) : (b.updateZone z g).risers = b.risers := rfl
@[simp] theorem updateZone_chain (z : Nat) (g : Zone → Zone) : (b.updateZone z g).chain = b.chain := rfl
@[simp] theorem updateZone_scan (z : Nat) (g : Zone → Zone) : (b.updateZone z g).scan = b.scan := rfl
@[simp] theorem updateZone_feeders (z : Nat) (g : Zone → Zone) : (b.updateZone z g).feeders = b.feeders := rfl
@[simp] theorem updateZone_showLive (z : Nat) (g : Zone → Zone) : (b.updateZone z g).showLive = b.showLive := rfl
@[simp] theorem updateZone_curfewActive (z : Nat) (g : Zone → Zone) : (b.updateZone z g).curfewActive = b.curfewActive := rfl
@[simp] theorem updateZone_deferral (z : Nat) (g : Zone → Zone) : (b.updateZone z g).deferral = b.deferral := rfl
@[simp] theorem updateZone_notices (z : Nat) (g : Zone → Zone) : (b.updateZone z g).notices = b.notices := rfl
@[simp] theorem updateZone_mask (z : Nat) (g : Zone → Zone) : (b.updateZone z g).mask = b.mask := rfl

/-! ## updateRiser -/

@[simp] theorem updateRiser_ownUs (r : Nat) (g : Riser → Riser) : (b.updateRiser r g).ownUs = b.ownUs := rfl
@[simp] theorem updateRiser_nextId (r : Nat) (g : Riser → Riser) : (b.updateRiser r g).nextId = b.nextId := rfl
@[simp] theorem updateRiser_time (r : Nat) (g : Riser → Riser) : (b.updateRiser r g).time = b.time := rfl
@[simp] theorem updateRiser_almanac (r : Nat) (g : Riser → Riser) : (b.updateRiser r g).almanac = b.almanac := rfl
@[simp] theorem updateRiser_cue (r : Nat) (g : Riser → Riser) : (b.updateRiser r g).cue = b.cue := rfl
@[simp] theorem updateRiser_programs (r : Nat) (g : Riser → Riser) : (b.updateRiser r g).programs = b.programs := rfl
@[simp] theorem updateRiser_bookings (r : Nat) (g : Riser → Riser) : (b.updateRiser r g).bookings = b.bookings := rfl
@[simp] theorem updateRiser_upcoming (r : Nat) (g : Riser → Riser) : (b.updateRiser r g).upcoming = b.upcoming := rfl
@[simp] theorem updateRiser_active (r : Nat) (g : Riser → Riser) : (b.updateRiser r g).active = b.active := rfl
@[simp] theorem updateRiser_armLead (r : Nat) (g : Riser → Riser) : (b.updateRiser r g).armLead = b.armLead := rfl
@[simp] theorem updateRiser_lastFreed (r : Nat) (g : Riser → Riser) : (b.updateRiser r g).lastFreed = b.lastFreed := rfl
@[simp] theorem updateRiser_holding (r : Nat) (g : Riser → Riser) : (b.updateRiser r g).holding = b.holding := rfl
@[simp] theorem updateRiser_panelHold (r : Nat) (g : Riser → Riser) : (b.updateRiser r g).panelHold = b.panelHold := rfl
@[simp] theorem updateRiser_zones (r : Nat) (g : Riser → Riser) : (b.updateRiser r g).zones = b.zones := rfl
@[simp] theorem updateRiser_risers (r : Nat) (g : Riser → Riser) : (b.updateRiser r g).risers = b.risers.set r (g (b.riser r)) := rfl
@[simp] theorem updateRiser_chain (r : Nat) (g : Riser → Riser) : (b.updateRiser r g).chain = b.chain := rfl
@[simp] theorem updateRiser_scan (r : Nat) (g : Riser → Riser) : (b.updateRiser r g).scan = b.scan := rfl
@[simp] theorem updateRiser_feeders (r : Nat) (g : Riser → Riser) : (b.updateRiser r g).feeders = b.feeders := rfl
@[simp] theorem updateRiser_showLive (r : Nat) (g : Riser → Riser) : (b.updateRiser r g).showLive = b.showLive := rfl
@[simp] theorem updateRiser_curfewActive (r : Nat) (g : Riser → Riser) : (b.updateRiser r g).curfewActive = b.curfewActive := rfl
@[simp] theorem updateRiser_deferral (r : Nat) (g : Riser → Riser) : (b.updateRiser r g).deferral = b.deferral := rfl
@[simp] theorem updateRiser_notices (r : Nat) (g : Riser → Riser) : (b.updateRiser r g).notices = b.notices := rfl
@[simp] theorem updateRiser_mask (r : Nat) (g : Riser → Riser) : (b.updateRiser r g).mask = b.mask := rfl

/-! ## updateFeeder -/

@[simp] theorem updateFeeder_ownUs (f : Nat) (g : Feeder → Feeder) : (b.updateFeeder f g).ownUs = b.ownUs := rfl
@[simp] theorem updateFeeder_nextId (f : Nat) (g : Feeder → Feeder) : (b.updateFeeder f g).nextId = b.nextId := rfl
@[simp] theorem updateFeeder_time (f : Nat) (g : Feeder → Feeder) : (b.updateFeeder f g).time = b.time := rfl
@[simp] theorem updateFeeder_almanac (f : Nat) (g : Feeder → Feeder) : (b.updateFeeder f g).almanac = b.almanac := rfl
@[simp] theorem updateFeeder_cue (f : Nat) (g : Feeder → Feeder) : (b.updateFeeder f g).cue = b.cue := rfl
@[simp] theorem updateFeeder_programs (f : Nat) (g : Feeder → Feeder) : (b.updateFeeder f g).programs = b.programs := rfl
@[simp] theorem updateFeeder_bookings (f : Nat) (g : Feeder → Feeder) : (b.updateFeeder f g).bookings = b.bookings := rfl
@[simp] theorem updateFeeder_upcoming (f : Nat) (g : Feeder → Feeder) : (b.updateFeeder f g).upcoming = b.upcoming := rfl
@[simp] theorem updateFeeder_active (f : Nat) (g : Feeder → Feeder) : (b.updateFeeder f g).active = b.active := rfl
@[simp] theorem updateFeeder_armLead (f : Nat) (g : Feeder → Feeder) : (b.updateFeeder f g).armLead = b.armLead := rfl
@[simp] theorem updateFeeder_lastFreed (f : Nat) (g : Feeder → Feeder) : (b.updateFeeder f g).lastFreed = b.lastFreed := rfl
@[simp] theorem updateFeeder_holding (f : Nat) (g : Feeder → Feeder) : (b.updateFeeder f g).holding = b.holding := rfl
@[simp] theorem updateFeeder_panelHold (f : Nat) (g : Feeder → Feeder) : (b.updateFeeder f g).panelHold = b.panelHold := rfl
@[simp] theorem updateFeeder_zones (f : Nat) (g : Feeder → Feeder) : (b.updateFeeder f g).zones = b.zones := rfl
@[simp] theorem updateFeeder_risers (f : Nat) (g : Feeder → Feeder) : (b.updateFeeder f g).risers = b.risers := rfl
@[simp] theorem updateFeeder_chain (f : Nat) (g : Feeder → Feeder) : (b.updateFeeder f g).chain = b.chain := rfl
@[simp] theorem updateFeeder_scan (f : Nat) (g : Feeder → Feeder) : (b.updateFeeder f g).scan = b.scan := rfl
@[simp] theorem updateFeeder_feeders (f : Nat) (g : Feeder → Feeder) : (b.updateFeeder f g).feeders = b.feeders.set f (g (b.feeder f)) := rfl
@[simp] theorem updateFeeder_showLive (f : Nat) (g : Feeder → Feeder) : (b.updateFeeder f g).showLive = b.showLive := rfl
@[simp] theorem updateFeeder_curfewActive (f : Nat) (g : Feeder → Feeder) : (b.updateFeeder f g).curfewActive = b.curfewActive := rfl
@[simp] theorem updateFeeder_deferral (f : Nat) (g : Feeder → Feeder) : (b.updateFeeder f g).deferral = b.deferral := rfl
@[simp] theorem updateFeeder_notices (f : Nat) (g : Feeder → Feeder) : (b.updateFeeder f g).notices = b.notices := rfl
@[simp] theorem updateFeeder_mask (f : Nat) (g : Feeder → Feeder) : (b.updateFeeder f g).mask = b.mask := rfl

/-! ## updateBooking -/

@[simp] theorem updateBooking_ownUs (n : Nat) (g : Booking → Booking) : (b.updateBooking n g).ownUs = b.ownUs := rfl
@[simp] theorem updateBooking_nextId (n : Nat) (g : Booking → Booking) : (b.updateBooking n g).nextId = b.nextId := rfl
@[simp] theorem updateBooking_time (n : Nat) (g : Booking → Booking) : (b.updateBooking n g).time = b.time := rfl
@[simp] theorem updateBooking_almanac (n : Nat) (g : Booking → Booking) : (b.updateBooking n g).almanac = b.almanac := rfl
@[simp] theorem updateBooking_cue (n : Nat) (g : Booking → Booking) : (b.updateBooking n g).cue = b.cue := rfl
@[simp] theorem updateBooking_programs (n : Nat) (g : Booking → Booking) : (b.updateBooking n g).programs = b.programs := rfl
@[simp] theorem updateBooking_bookings (n : Nat) (g : Booking → Booking) : (b.updateBooking n g).bookings = b.bookings.map (fun k => if k.number = n then g k else k) := rfl
@[simp] theorem updateBooking_upcoming (n : Nat) (g : Booking → Booking) : (b.updateBooking n g).upcoming = b.upcoming := rfl
@[simp] theorem updateBooking_active (n : Nat) (g : Booking → Booking) : (b.updateBooking n g).active = b.active := rfl
@[simp] theorem updateBooking_armLead (n : Nat) (g : Booking → Booking) : (b.updateBooking n g).armLead = b.armLead := rfl
@[simp] theorem updateBooking_lastFreed (n : Nat) (g : Booking → Booking) : (b.updateBooking n g).lastFreed = b.lastFreed := rfl
@[simp] theorem updateBooking_holding (n : Nat) (g : Booking → Booking) : (b.updateBooking n g).holding = b.holding := rfl
@[simp] theorem updateBooking_panelHold (n : Nat) (g : Booking → Booking) : (b.updateBooking n g).panelHold = b.panelHold := rfl
@[simp] theorem updateBooking_zones (n : Nat) (g : Booking → Booking) : (b.updateBooking n g).zones = b.zones := rfl
@[simp] theorem updateBooking_risers (n : Nat) (g : Booking → Booking) : (b.updateBooking n g).risers = b.risers := rfl
@[simp] theorem updateBooking_chain (n : Nat) (g : Booking → Booking) : (b.updateBooking n g).chain = b.chain := rfl
@[simp] theorem updateBooking_scan (n : Nat) (g : Booking → Booking) : (b.updateBooking n g).scan = b.scan := rfl
@[simp] theorem updateBooking_feeders (n : Nat) (g : Booking → Booking) : (b.updateBooking n g).feeders = b.feeders := rfl
@[simp] theorem updateBooking_showLive (n : Nat) (g : Booking → Booking) : (b.updateBooking n g).showLive = b.showLive := rfl
@[simp] theorem updateBooking_curfewActive (n : Nat) (g : Booking → Booking) : (b.updateBooking n g).curfewActive = b.curfewActive := rfl
@[simp] theorem updateBooking_deferral (n : Nat) (g : Booking → Booking) : (b.updateBooking n g).deferral = b.deferral := rfl
@[simp] theorem updateBooking_notices (n : Nat) (g : Booking → Booking) : (b.updateBooking n g).notices = b.notices := rfl
@[simp] theorem updateBooking_mask (n : Nat) (g : Booking → Booking) : (b.updateBooking n g).mask = b.mask := rfl

/-! ## updateActive -/

@[simp] theorem updateActive_ownUs (n : Nat) (g : Occurrence → Occurrence) : (b.updateActive n g).ownUs = b.ownUs := rfl
@[simp] theorem updateActive_nextId (n : Nat) (g : Occurrence → Occurrence) : (b.updateActive n g).nextId = b.nextId := rfl
@[simp] theorem updateActive_time (n : Nat) (g : Occurrence → Occurrence) : (b.updateActive n g).time = b.time := rfl
@[simp] theorem updateActive_almanac (n : Nat) (g : Occurrence → Occurrence) : (b.updateActive n g).almanac = b.almanac := rfl
@[simp] theorem updateActive_cue (n : Nat) (g : Occurrence → Occurrence) : (b.updateActive n g).cue = b.cue := rfl
@[simp] theorem updateActive_programs (n : Nat) (g : Occurrence → Occurrence) : (b.updateActive n g).programs = b.programs := rfl
@[simp] theorem updateActive_bookings (n : Nat) (g : Occurrence → Occurrence) : (b.updateActive n g).bookings = b.bookings := rfl
@[simp] theorem updateActive_upcoming (n : Nat) (g : Occurrence → Occurrence) : (b.updateActive n g).upcoming = b.upcoming := rfl
@[simp] theorem updateActive_active (n : Nat) (g : Occurrence → Occurrence) : (b.updateActive n g).active = b.active.map (fun o => if o.number = n then g o else o) := rfl
@[simp] theorem updateActive_armLead (n : Nat) (g : Occurrence → Occurrence) : (b.updateActive n g).armLead = b.armLead := rfl
@[simp] theorem updateActive_lastFreed (n : Nat) (g : Occurrence → Occurrence) : (b.updateActive n g).lastFreed = b.lastFreed := rfl
@[simp] theorem updateActive_holding (n : Nat) (g : Occurrence → Occurrence) : (b.updateActive n g).holding = b.holding := rfl
@[simp] theorem updateActive_panelHold (n : Nat) (g : Occurrence → Occurrence) : (b.updateActive n g).panelHold = b.panelHold := rfl
@[simp] theorem updateActive_zones (n : Nat) (g : Occurrence → Occurrence) : (b.updateActive n g).zones = b.zones := rfl
@[simp] theorem updateActive_risers (n : Nat) (g : Occurrence → Occurrence) : (b.updateActive n g).risers = b.risers := rfl
@[simp] theorem updateActive_chain (n : Nat) (g : Occurrence → Occurrence) : (b.updateActive n g).chain = b.chain := rfl
@[simp] theorem updateActive_scan (n : Nat) (g : Occurrence → Occurrence) : (b.updateActive n g).scan = b.scan := rfl
@[simp] theorem updateActive_feeders (n : Nat) (g : Occurrence → Occurrence) : (b.updateActive n g).feeders = b.feeders := rfl
@[simp] theorem updateActive_showLive (n : Nat) (g : Occurrence → Occurrence) : (b.updateActive n g).showLive = b.showLive := rfl
@[simp] theorem updateActive_curfewActive (n : Nat) (g : Occurrence → Occurrence) : (b.updateActive n g).curfewActive = b.curfewActive := rfl
@[simp] theorem updateActive_deferral (n : Nat) (g : Occurrence → Occurrence) : (b.updateActive n g).deferral = b.deferral := rfl
@[simp] theorem updateActive_notices (n : Nat) (g : Occurrence → Occurrence) : (b.updateActive n g).notices = b.notices := rfl
@[simp] theorem updateActive_mask (n : Nat) (g : Occurrence → Occurrence) : (b.updateActive n g).mask = b.mask := rfl

/-! ## setProgram -/

@[simp] theorem setProgram_ownUs (p : Nat) (x : ProgramSlot) : (b.setProgram p x).ownUs = b.ownUs := rfl
@[simp] theorem setProgram_nextId (p : Nat) (x : ProgramSlot) : (b.setProgram p x).nextId = b.nextId := rfl
@[simp] theorem setProgram_time (p : Nat) (x : ProgramSlot) : (b.setProgram p x).time = b.time := rfl
@[simp] theorem setProgram_almanac (p : Nat) (x : ProgramSlot) : (b.setProgram p x).almanac = b.almanac := rfl
@[simp] theorem setProgram_cue (p : Nat) (x : ProgramSlot) : (b.setProgram p x).cue = b.cue := rfl
@[simp] theorem setProgram_programs (p : Nat) (x : ProgramSlot) : (b.setProgram p x).programs = b.programs.set p x := rfl
@[simp] theorem setProgram_bookings (p : Nat) (x : ProgramSlot) : (b.setProgram p x).bookings = b.bookings := rfl
@[simp] theorem setProgram_upcoming (p : Nat) (x : ProgramSlot) : (b.setProgram p x).upcoming = b.upcoming := rfl
@[simp] theorem setProgram_active (p : Nat) (x : ProgramSlot) : (b.setProgram p x).active = b.active := rfl
@[simp] theorem setProgram_armLead (p : Nat) (x : ProgramSlot) : (b.setProgram p x).armLead = b.armLead := rfl
@[simp] theorem setProgram_lastFreed (p : Nat) (x : ProgramSlot) : (b.setProgram p x).lastFreed = b.lastFreed := rfl
@[simp] theorem setProgram_holding (p : Nat) (x : ProgramSlot) : (b.setProgram p x).holding = b.holding := rfl
@[simp] theorem setProgram_panelHold (p : Nat) (x : ProgramSlot) : (b.setProgram p x).panelHold = b.panelHold := rfl
@[simp] theorem setProgram_zones (p : Nat) (x : ProgramSlot) : (b.setProgram p x).zones = b.zones := rfl
@[simp] theorem setProgram_risers (p : Nat) (x : ProgramSlot) : (b.setProgram p x).risers = b.risers := rfl
@[simp] theorem setProgram_chain (p : Nat) (x : ProgramSlot) : (b.setProgram p x).chain = b.chain := rfl
@[simp] theorem setProgram_scan (p : Nat) (x : ProgramSlot) : (b.setProgram p x).scan = b.scan := rfl
@[simp] theorem setProgram_feeders (p : Nat) (x : ProgramSlot) : (b.setProgram p x).feeders = b.feeders := rfl
@[simp] theorem setProgram_showLive (p : Nat) (x : ProgramSlot) : (b.setProgram p x).showLive = b.showLive := rfl
@[simp] theorem setProgram_curfewActive (p : Nat) (x : ProgramSlot) : (b.setProgram p x).curfewActive = b.curfewActive := rfl
@[simp] theorem setProgram_deferral (p : Nat) (x : ProgramSlot) : (b.setProgram p x).deferral = b.deferral := rfl
@[simp] theorem setProgram_notices (p : Nat) (x : ProgramSlot) : (b.setProgram p x).notices = b.notices := rfl
@[simp] theorem setProgram_mask (p : Nat) (x : ProgramSlot) : (b.setProgram p x).mask = b.mask := rfl

/-! ## advanceTo -/

@[simp] theorem advanceTo_ownUs (us : Nat) : (b.advanceTo us).ownUs = max b.ownUs us := rfl
@[simp] theorem advanceTo_nextId (us : Nat) : (b.advanceTo us).nextId = b.nextId := rfl
@[simp] theorem advanceTo_time (us : Nat) : (b.advanceTo us).time = b.time := rfl
@[simp] theorem advanceTo_almanac (us : Nat) : (b.advanceTo us).almanac = b.almanac := rfl
@[simp] theorem advanceTo_cue (us : Nat) : (b.advanceTo us).cue = b.cue := rfl
@[simp] theorem advanceTo_programs (us : Nat) : (b.advanceTo us).programs = b.programs := rfl
@[simp] theorem advanceTo_bookings (us : Nat) : (b.advanceTo us).bookings = b.bookings := rfl
@[simp] theorem advanceTo_upcoming (us : Nat) : (b.advanceTo us).upcoming = b.upcoming := rfl
@[simp] theorem advanceTo_active (us : Nat) : (b.advanceTo us).active = b.active := rfl
@[simp] theorem advanceTo_armLead (us : Nat) : (b.advanceTo us).armLead = b.armLead := rfl
@[simp] theorem advanceTo_lastFreed (us : Nat) : (b.advanceTo us).lastFreed = b.lastFreed := rfl
@[simp] theorem advanceTo_holding (us : Nat) : (b.advanceTo us).holding = b.holding := rfl
@[simp] theorem advanceTo_panelHold (us : Nat) : (b.advanceTo us).panelHold = b.panelHold := rfl
@[simp] theorem advanceTo_zones (us : Nat) : (b.advanceTo us).zones = b.zones := rfl
@[simp] theorem advanceTo_risers (us : Nat) : (b.advanceTo us).risers = b.risers := rfl
@[simp] theorem advanceTo_chain (us : Nat) : (b.advanceTo us).chain = b.chain := rfl
@[simp] theorem advanceTo_scan (us : Nat) : (b.advanceTo us).scan = b.scan := rfl
@[simp] theorem advanceTo_feeders (us : Nat) : (b.advanceTo us).feeders = b.feeders := rfl
@[simp] theorem advanceTo_showLive (us : Nat) : (b.advanceTo us).showLive = b.showLive := rfl
@[simp] theorem advanceTo_curfewActive (us : Nat) : (b.advanceTo us).curfewActive = b.curfewActive := rfl
@[simp] theorem advanceTo_deferral (us : Nat) : (b.advanceTo us).deferral = b.deferral := rfl
@[simp] theorem advanceTo_notices (us : Nat) : (b.advanceTo us).notices = b.notices := rfl
@[simp] theorem advanceTo_mask (us : Nat) : (b.advanceTo us).mask = b.mask := rfl

/-! ## submit and report -/

@[simp] theorem submit_ownUs (r : RecordId) (k : ChangeKind) (o : Option LastOutcome) : (b.submit r k o).ownUs = b.ownUs := by
  unfold Blocks.submit; split <;> rfl
@[simp] theorem report_ownUs (r : RecordId) (k : ChangeKind) : (b.report r k).ownUs = b.ownUs := submit_ownUs b r k none
@[simp] theorem reportEnded_ownUs (n : Nat) (o : LastOutcome) : (b.reportEnded n o).ownUs = b.ownUs := submit_ownUs b _ _ _
@[simp] theorem submit_nextId (r : RecordId) (k : ChangeKind) (o : Option LastOutcome) : (b.submit r k o).nextId = b.nextId := by
  unfold Blocks.submit; split <;> rfl
@[simp] theorem report_nextId (r : RecordId) (k : ChangeKind) : (b.report r k).nextId = b.nextId := submit_nextId b r k none
@[simp] theorem reportEnded_nextId (n : Nat) (o : LastOutcome) : (b.reportEnded n o).nextId = b.nextId := submit_nextId b _ _ _
@[simp] theorem submit_time (r : RecordId) (k : ChangeKind) (o : Option LastOutcome) : (b.submit r k o).time = b.time := by
  unfold Blocks.submit; split <;> rfl
@[simp] theorem report_time (r : RecordId) (k : ChangeKind) : (b.report r k).time = b.time := submit_time b r k none
@[simp] theorem reportEnded_time (n : Nat) (o : LastOutcome) : (b.reportEnded n o).time = b.time := submit_time b _ _ _
@[simp] theorem submit_almanac (r : RecordId) (k : ChangeKind) (o : Option LastOutcome) : (b.submit r k o).almanac = b.almanac := by
  unfold Blocks.submit; split <;> rfl
@[simp] theorem report_almanac (r : RecordId) (k : ChangeKind) : (b.report r k).almanac = b.almanac := submit_almanac b r k none
@[simp] theorem reportEnded_almanac (n : Nat) (o : LastOutcome) : (b.reportEnded n o).almanac = b.almanac := submit_almanac b _ _ _
@[simp] theorem submit_cue (r : RecordId) (k : ChangeKind) (o : Option LastOutcome) : (b.submit r k o).cue = b.cue := by
  unfold Blocks.submit; split <;> rfl
@[simp] theorem report_cue (r : RecordId) (k : ChangeKind) : (b.report r k).cue = b.cue := submit_cue b r k none
@[simp] theorem reportEnded_cue (n : Nat) (o : LastOutcome) : (b.reportEnded n o).cue = b.cue := submit_cue b _ _ _
@[simp] theorem submit_programs (r : RecordId) (k : ChangeKind) (o : Option LastOutcome) : (b.submit r k o).programs = b.programs := by
  unfold Blocks.submit; split <;> rfl
@[simp] theorem report_programs (r : RecordId) (k : ChangeKind) : (b.report r k).programs = b.programs := submit_programs b r k none
@[simp] theorem reportEnded_programs (n : Nat) (o : LastOutcome) : (b.reportEnded n o).programs = b.programs := submit_programs b _ _ _
@[simp] theorem submit_bookings (r : RecordId) (k : ChangeKind) (o : Option LastOutcome) : (b.submit r k o).bookings = b.bookings := by
  unfold Blocks.submit; split <;> rfl
@[simp] theorem report_bookings (r : RecordId) (k : ChangeKind) : (b.report r k).bookings = b.bookings := submit_bookings b r k none
@[simp] theorem reportEnded_bookings (n : Nat) (o : LastOutcome) : (b.reportEnded n o).bookings = b.bookings := submit_bookings b _ _ _
@[simp] theorem submit_upcoming (r : RecordId) (k : ChangeKind) (o : Option LastOutcome) : (b.submit r k o).upcoming = b.upcoming := by
  unfold Blocks.submit; split <;> rfl
@[simp] theorem report_upcoming (r : RecordId) (k : ChangeKind) : (b.report r k).upcoming = b.upcoming := submit_upcoming b r k none
@[simp] theorem reportEnded_upcoming (n : Nat) (o : LastOutcome) : (b.reportEnded n o).upcoming = b.upcoming := submit_upcoming b _ _ _
@[simp] theorem submit_active (r : RecordId) (k : ChangeKind) (o : Option LastOutcome) : (b.submit r k o).active = b.active := by
  unfold Blocks.submit; split <;> rfl
@[simp] theorem report_active (r : RecordId) (k : ChangeKind) : (b.report r k).active = b.active := submit_active b r k none
@[simp] theorem reportEnded_active (n : Nat) (o : LastOutcome) : (b.reportEnded n o).active = b.active := submit_active b _ _ _
@[simp] theorem submit_armLead (r : RecordId) (k : ChangeKind) (o : Option LastOutcome) : (b.submit r k o).armLead = b.armLead := by
  unfold Blocks.submit; split <;> rfl
@[simp] theorem report_armLead (r : RecordId) (k : ChangeKind) : (b.report r k).armLead = b.armLead := submit_armLead b r k none
@[simp] theorem reportEnded_armLead (n : Nat) (o : LastOutcome) : (b.reportEnded n o).armLead = b.armLead := submit_armLead b _ _ _
@[simp] theorem submit_lastFreed (r : RecordId) (k : ChangeKind) (o : Option LastOutcome) : (b.submit r k o).lastFreed = b.lastFreed := by
  unfold Blocks.submit; split <;> rfl
@[simp] theorem report_lastFreed (r : RecordId) (k : ChangeKind) : (b.report r k).lastFreed = b.lastFreed := submit_lastFreed b r k none
@[simp] theorem reportEnded_lastFreed (n : Nat) (o : LastOutcome) : (b.reportEnded n o).lastFreed = b.lastFreed := submit_lastFreed b _ _ _
@[simp] theorem submit_holding (r : RecordId) (k : ChangeKind) (o : Option LastOutcome) : (b.submit r k o).holding = b.holding := by
  unfold Blocks.submit; split <;> rfl
@[simp] theorem report_holding (r : RecordId) (k : ChangeKind) : (b.report r k).holding = b.holding := submit_holding b r k none
@[simp] theorem reportEnded_holding (n : Nat) (o : LastOutcome) : (b.reportEnded n o).holding = b.holding := submit_holding b _ _ _
@[simp] theorem submit_panelHold (r : RecordId) (k : ChangeKind) (o : Option LastOutcome) : (b.submit r k o).panelHold = b.panelHold := by
  unfold Blocks.submit; split <;> rfl
@[simp] theorem report_panelHold (r : RecordId) (k : ChangeKind) : (b.report r k).panelHold = b.panelHold := submit_panelHold b r k none
@[simp] theorem reportEnded_panelHold (n : Nat) (o : LastOutcome) : (b.reportEnded n o).panelHold = b.panelHold := submit_panelHold b _ _ _
@[simp] theorem submit_zones (r : RecordId) (k : ChangeKind) (o : Option LastOutcome) : (b.submit r k o).zones = b.zones := by
  unfold Blocks.submit; split <;> rfl
@[simp] theorem report_zones (r : RecordId) (k : ChangeKind) : (b.report r k).zones = b.zones := submit_zones b r k none
@[simp] theorem reportEnded_zones (n : Nat) (o : LastOutcome) : (b.reportEnded n o).zones = b.zones := submit_zones b _ _ _
@[simp] theorem submit_risers (r : RecordId) (k : ChangeKind) (o : Option LastOutcome) : (b.submit r k o).risers = b.risers := by
  unfold Blocks.submit; split <;> rfl
@[simp] theorem report_risers (r : RecordId) (k : ChangeKind) : (b.report r k).risers = b.risers := submit_risers b r k none
@[simp] theorem reportEnded_risers (n : Nat) (o : LastOutcome) : (b.reportEnded n o).risers = b.risers := submit_risers b _ _ _
@[simp] theorem submit_chain (r : RecordId) (k : ChangeKind) (o : Option LastOutcome) : (b.submit r k o).chain = b.chain := by
  unfold Blocks.submit; split <;> rfl
@[simp] theorem report_chain (r : RecordId) (k : ChangeKind) : (b.report r k).chain = b.chain := submit_chain b r k none
@[simp] theorem reportEnded_chain (n : Nat) (o : LastOutcome) : (b.reportEnded n o).chain = b.chain := submit_chain b _ _ _
@[simp] theorem submit_scan (r : RecordId) (k : ChangeKind) (o : Option LastOutcome) : (b.submit r k o).scan = b.scan := by
  unfold Blocks.submit; split <;> rfl
@[simp] theorem report_scan (r : RecordId) (k : ChangeKind) : (b.report r k).scan = b.scan := submit_scan b r k none
@[simp] theorem reportEnded_scan (n : Nat) (o : LastOutcome) : (b.reportEnded n o).scan = b.scan := submit_scan b _ _ _
@[simp] theorem submit_feeders (r : RecordId) (k : ChangeKind) (o : Option LastOutcome) : (b.submit r k o).feeders = b.feeders := by
  unfold Blocks.submit; split <;> rfl
@[simp] theorem report_feeders (r : RecordId) (k : ChangeKind) : (b.report r k).feeders = b.feeders := submit_feeders b r k none
@[simp] theorem reportEnded_feeders (n : Nat) (o : LastOutcome) : (b.reportEnded n o).feeders = b.feeders := submit_feeders b _ _ _
@[simp] theorem submit_showLive (r : RecordId) (k : ChangeKind) (o : Option LastOutcome) : (b.submit r k o).showLive = b.showLive := by
  unfold Blocks.submit; split <;> rfl
@[simp] theorem report_showLive (r : RecordId) (k : ChangeKind) : (b.report r k).showLive = b.showLive := submit_showLive b r k none
@[simp] theorem reportEnded_showLive (n : Nat) (o : LastOutcome) : (b.reportEnded n o).showLive = b.showLive := submit_showLive b _ _ _
@[simp] theorem submit_curfewActive (r : RecordId) (k : ChangeKind) (o : Option LastOutcome) : (b.submit r k o).curfewActive = b.curfewActive := by
  unfold Blocks.submit; split <;> rfl
@[simp] theorem report_curfewActive (r : RecordId) (k : ChangeKind) : (b.report r k).curfewActive = b.curfewActive := submit_curfewActive b r k none
@[simp] theorem reportEnded_curfewActive (n : Nat) (o : LastOutcome) : (b.reportEnded n o).curfewActive = b.curfewActive := submit_curfewActive b _ _ _
@[simp] theorem submit_deferral (r : RecordId) (k : ChangeKind) (o : Option LastOutcome) : (b.submit r k o).deferral = b.deferral := by
  unfold Blocks.submit; split <;> rfl
@[simp] theorem report_deferral (r : RecordId) (k : ChangeKind) : (b.report r k).deferral = b.deferral := submit_deferral b r k none
@[simp] theorem reportEnded_deferral (n : Nat) (o : LastOutcome) : (b.reportEnded n o).deferral = b.deferral := submit_deferral b _ _ _
@[simp] theorem submit_mask (r : RecordId) (k : ChangeKind) (o : Option LastOutcome) : (b.submit r k o).mask = b.mask := by
  unfold Blocks.submit; split <;> rfl
@[simp] theorem report_mask (r : RecordId) (k : ChangeKind) : (b.report r k).mask = b.mask := submit_mask b r k none
@[simp] theorem reportEnded_mask (n : Nat) (o : LastOutcome) : (b.reportEnded n o).mask = b.mask := submit_mask b _ _ _

theorem submit_notices (r : RecordId) (k : ChangeKind) (o : Option LastOutcome) :
    (b.submit r k o).notices = if k ∈ b.mask then addChange r k o b.notices else b.notices := by
  unfold Blocks.submit; split <;> rfl

/-! ## updateLatest -/

@[simp] theorem updateLatest_ownUs (z : Nat) (g : ZoneOut → ZoneOut) : (b.updateLatest z g).ownUs = b.ownUs := rfl
@[simp] theorem updateLatest_nextId (z : Nat) (g : ZoneOut → ZoneOut) : (b.updateLatest z g).nextId = b.nextId := rfl
@[simp] theorem updateLatest_time (z : Nat) (g : ZoneOut → ZoneOut) : (b.updateLatest z g).time = b.time := rfl
@[simp] theorem updateLatest_almanac (z : Nat) (g : ZoneOut → ZoneOut) : (b.updateLatest z g).almanac = b.almanac := rfl
@[simp] theorem updateLatest_cue (z : Nat) (g : ZoneOut → ZoneOut) : (b.updateLatest z g).cue = b.cue := rfl
@[simp] theorem updateLatest_programs (z : Nat) (g : ZoneOut → ZoneOut) : (b.updateLatest z g).programs = b.programs := rfl
@[simp] theorem updateLatest_bookings (z : Nat) (g : ZoneOut → ZoneOut) : (b.updateLatest z g).bookings = b.bookings := rfl
@[simp] theorem updateLatest_upcoming (z : Nat) (g : ZoneOut → ZoneOut) : (b.updateLatest z g).upcoming = b.upcoming := rfl
@[simp] theorem updateLatest_active (z : Nat) (g : ZoneOut → ZoneOut) : (b.updateLatest z g).active = b.active := rfl
@[simp] theorem updateLatest_armLead (z : Nat) (g : ZoneOut → ZoneOut) : (b.updateLatest z g).armLead = b.armLead := rfl
@[simp] theorem updateLatest_lastFreed (z : Nat) (g : ZoneOut → ZoneOut) : (b.updateLatest z g).lastFreed = b.lastFreed := rfl
@[simp] theorem updateLatest_holding (z : Nat) (g : ZoneOut → ZoneOut) : (b.updateLatest z g).holding = b.holding := rfl
@[simp] theorem updateLatest_panelHold (z : Nat) (g : ZoneOut → ZoneOut) : (b.updateLatest z g).panelHold = b.panelHold := rfl
@[simp] theorem updateLatest_zones (z : Nat) (g : ZoneOut → ZoneOut) : (b.updateLatest z g).zones = b.zones := rfl
@[simp] theorem updateLatest_risers (z : Nat) (g : ZoneOut → ZoneOut) : (b.updateLatest z g).risers = b.risers := rfl
@[simp] theorem updateLatest_scan (z : Nat) (g : ZoneOut → ZoneOut) : (b.updateLatest z g).scan = b.scan := rfl
@[simp] theorem updateLatest_feeders (z : Nat) (g : ZoneOut → ZoneOut) : (b.updateLatest z g).feeders = b.feeders := rfl
@[simp] theorem updateLatest_showLive (z : Nat) (g : ZoneOut → ZoneOut) : (b.updateLatest z g).showLive = b.showLive := rfl
@[simp] theorem updateLatest_curfewActive (z : Nat) (g : ZoneOut → ZoneOut) : (b.updateLatest z g).curfewActive = b.curfewActive := rfl
@[simp] theorem updateLatest_deferral (z : Nat) (g : ZoneOut → ZoneOut) : (b.updateLatest z g).deferral = b.deferral := rfl
@[simp] theorem updateLatest_notices (z : Nat) (g : ZoneOut → ZoneOut) : (b.updateLatest z g).notices = b.notices := rfl
@[simp] theorem updateLatest_mask (z : Nat) (g : ZoneOut → ZoneOut) : (b.updateLatest z g).mask = b.mask := rfl
@[simp] theorem updateLatest_latest (z : Nat) (g : ZoneOut → ZoneOut) :
    (b.updateLatest z g).chain.latest = b.chain.latest.set z (g (b.latestOf z)) := rfl

/-! ## noteRewritten -/

@[simp] theorem noteRewritten_ownUs (z : Nat) : (noteRewritten z b).ownUs = b.ownUs := rfl
@[simp] theorem noteRewritten_nextId (z : Nat) : (noteRewritten z b).nextId = b.nextId := rfl
@[simp] theorem noteRewritten_time (z : Nat) : (noteRewritten z b).time = b.time := rfl
@[simp] theorem noteRewritten_almanac (z : Nat) : (noteRewritten z b).almanac = b.almanac := rfl
@[simp] theorem noteRewritten_cue (z : Nat) : (noteRewritten z b).cue = b.cue := rfl
@[simp] theorem noteRewritten_programs (z : Nat) : (noteRewritten z b).programs = b.programs := rfl
@[simp] theorem noteRewritten_bookings (z : Nat) : (noteRewritten z b).bookings = b.bookings := rfl
@[simp] theorem noteRewritten_upcoming (z : Nat) : (noteRewritten z b).upcoming = b.upcoming := rfl
@[simp] theorem noteRewritten_active (z : Nat) : (noteRewritten z b).active = b.active := rfl
@[simp] theorem noteRewritten_armLead (z : Nat) : (noteRewritten z b).armLead = b.armLead := rfl
@[simp] theorem noteRewritten_lastFreed (z : Nat) : (noteRewritten z b).lastFreed = b.lastFreed := rfl
@[simp] theorem noteRewritten_holding (z : Nat) : (noteRewritten z b).holding = b.holding := rfl
@[simp] theorem noteRewritten_panelHold (z : Nat) : (noteRewritten z b).panelHold = b.panelHold := rfl
@[simp] theorem noteRewritten_zones (z : Nat) : (noteRewritten z b).zones = b.zones := rfl
@[simp] theorem noteRewritten_risers (z : Nat) : (noteRewritten z b).risers = b.risers := rfl
@[simp] theorem noteRewritten_scan (z : Nat) : (noteRewritten z b).scan = b.scan := rfl
@[simp] theorem noteRewritten_feeders (z : Nat) : (noteRewritten z b).feeders = b.feeders := rfl
@[simp] theorem noteRewritten_showLive (z : Nat) : (noteRewritten z b).showLive = b.showLive := rfl
@[simp] theorem noteRewritten_curfewActive (z : Nat) : (noteRewritten z b).curfewActive = b.curfewActive := rfl
@[simp] theorem noteRewritten_deferral (z : Nat) : (noteRewritten z b).deferral = b.deferral := rfl
@[simp] theorem noteRewritten_notices (z : Nat) : (noteRewritten z b).notices = b.notices := rfl
@[simp] theorem noteRewritten_mask (z : Nat) : (noteRewritten z b).mask = b.mask := rfl
@[simp] theorem noteRewritten_latest (z : Nat) : (noteRewritten z b).chain.latest = b.chain.latest := rfl
@[simp] theorem noteRewritten_windowOpen (z : Nat) : (noteRewritten z b).chain.windowOpen = b.chain.windowOpen := rfl
@[simp] theorem noteRewritten_curfew (z : Nat) : (noteRewritten z b).chain.curfew = b.chain.curfew := rfl
@[simp] theorem noteRewritten_holdLook (z : Nat) : (noteRewritten z b).chain.holdLook = b.chain.holdLook := rfl
@[simp] theorem noteRewritten_faces (z : Nat) : (noteRewritten z b).chain.faces = b.chain.faces := rfl
@[simp] theorem noteRewritten_ambient (z : Nat) : (noteRewritten z b).chain.ambient = b.chain.ambient := rfl
@[simp] theorem noteRewritten_defaultHandover (z : Nat) : (noteRewritten z b).chain.defaultHandover = b.chain.defaultHandover := rfl
@[simp] theorem noteRewritten_lastExpiry (z : Nat) : (noteRewritten z b).chain.lastExpiry = b.chain.lastExpiry := rfl
@[simp] theorem noteRewritten_zone? (z y : Nat) : (noteRewritten z b).zone? y = b.zone? y := rfl
@[simp] theorem noteRewritten_latestOf (z y : Nat) : (noteRewritten z b).latestOf y = b.latestOf y := rfl

/-! ## Accessors read one field each -/

theorem zone?_congr {a b : Blocks} (h : a.zones = b.zones) (z : Nat) : a.zone? z = b.zone? z := by
  unfold Blocks.zone?; rw [h]
theorem riser_congr {a b : Blocks} (h : a.risers = b.risers) (r : Nat) : a.riser r = b.riser r := by
  unfold Blocks.riser; rw [h]
theorem feeder_congr {a b : Blocks} (h : a.feeders = b.feeders) (f : Nat) : a.feeder f = b.feeder f := by
  unfold Blocks.feeder; rw [h]
theorem holdingOf_congr {a b : Blocks} (h : a.holding = b.holding) (z : Nat) : a.holdingOf z = b.holdingOf z := by
  unfold Blocks.holdingOf; rw [h]
theorem holder?_congr {a b : Blocks} (h : a.holding = b.holding) (z : Nat) : a.holder? z = b.holder? z := by
  unfold Blocks.holder? Blocks.holdingOf; rw [h]
theorem booking?_congr {a b : Blocks} (h : a.bookings = b.bookings) (n : Nat) : a.booking? n = b.booking? n := by
  unfold Blocks.booking?; rw [h]
theorem upcoming?_congr {a b : Blocks} (h : a.upcoming = b.upcoming) (n : Nat) : a.upcoming? n = b.upcoming? n := by
  unfold Blocks.upcoming?; rw [h]
theorem active?_congr {a b : Blocks} (h : a.active = b.active) (n : Nat) : a.active? n = b.active? n := by
  unfold Blocks.active?; rw [h]
theorem zonesOf_congr {a b : Blocks} (h : a.bookings = b.bookings) (n : Nat) : a.zonesOf n = b.zonesOf n := by
  unfold Blocks.zonesOf; rw [booking?_congr h]
theorem program_congr {a b : Blocks} (h : a.programs = b.programs) (p : Nat) : a.program p = b.program p := by
  unfold Blocks.program; rw [h]
theorem latestOf_congr {a b : Blocks} (h : a.chain = b.chain) (z : Nat) : a.latestOf z = b.latestOf z := by
  unfold Blocks.latestOf; rw [h]

/-! ## One record read back -/

theorem setZone_zone? (z y : Nat) (c : Option Zone) (h : z < b.zones.length) :
    (b.setZone z c).zone? y = if y = z then c else b.zone? y := by
  unfold Blocks.zone? Blocks.setZone
  rw [List.getElem?_set]
  by_cases e : z = y
  · subst e; rw [if_pos rfl, if_pos h, if_pos rfl]; rfl
  · rw [if_neg e, if_neg (fun e' => e e'.symm)]

theorem updateZone_zone? (z y : Nat) (g : Zone → Zone) :
    (b.updateZone z g).zone? y = if y = z then (b.zone? z).map g else b.zone? y := by
  by_cases h : z < b.zones.length
  · exact setZone_zone? b z y _ h
  · have hn : b.zone? z = none := by
      unfold Blocks.zone?; rw [List.getElem?_eq_none (by omega)]; rfl
    unfold Blocks.updateZone Blocks.setZone
    rw [hn, Option.map_none, List.set_eq_of_length_le (by omega)]
    by_cases e : y = z
    · rw [if_pos e, e]; exact hn
    · rw [if_neg e]

theorem updateRiser_riser (r y : Nat) (g : Riser → Riser) (h : r < b.risers.length) :
    (b.updateRiser r g).riser y = if y = r then g (b.riser r) else b.riser y := by
  show (b.risers.set r (g (b.riser r))).getD y resetRiser = _
  rw [List.getD_eq_getElem?_getD, List.getElem?_set]
  by_cases e : r = y
  · subst e; rw [if_pos rfl, if_pos h, if_pos rfl]; rfl
  · rw [if_neg e, if_neg (fun e' => e e'.symm), ← List.getD_eq_getElem?_getD]; rfl

theorem updateFeeder_feeder (f y : Nat) (g : Feeder → Feeder) (h : f < b.feeders.length) :
    (b.updateFeeder f g).feeder y = if y = f then g (b.feeder f) else b.feeder y := by
  show (b.feeders.set f (g (b.feeder f))).getD y resetFeeder = _
  rw [List.getD_eq_getElem?_getD, List.getElem?_set]
  by_cases e : f = y
  · subst e; rw [if_pos rfl, if_pos h, if_pos rfl]; rfl
  · rw [if_neg e, if_neg (fun e' => e e'.symm), ← List.getD_eq_getElem?_getD]; rfl

theorem updateRiser_riser_self (r : Nat) (g : Riser → Riser) (h : r < b.risers.length) :
    (b.updateRiser r g).riser r = g (b.riser r) := by rw [updateRiser_riser b r r g h, if_pos rfl]

theorem updateFeeder_feeder_self (f : Nat) (g : Feeder → Feeder) (h : f < b.feeders.length) :
    (b.updateFeeder f g).feeder f = g (b.feeder f) := by rw [updateFeeder_feeder b f f g h, if_pos rfl]

/-! ## One record written twice -/

theorem updateRiser_updateRiser (r : Nat) (f g : Riser → Riser) (h : r < b.risers.length) :
    (b.updateRiser r f).updateRiser r g = b.updateRiser r (fun x => g (f x)) := by
  show ({ b with risers := (b.risers.set r (f (b.riser r))).set r (g ((b.updateRiser r f).riser r)) } : Blocks) = _
  rw [updateRiser_riser_self b r f h, List.set_set]; rfl

theorem updateFeeder_updateFeeder (n : Nat) (f g : Feeder → Feeder) (h : n < b.feeders.length) :
    (b.updateFeeder n f).updateFeeder n g = b.updateFeeder n (fun x => g (f x)) := by
  show ({ b with feeders := (b.feeders.set n (f (b.feeder n))).set n (g ((b.updateFeeder n f).feeder n)) } : Blocks) = _
  rw [updateFeeder_feeder_self b n f h, List.set_set]; rfl

theorem setZone_setZone (z : Nat) (c d : Option Zone) : (b.setZone z c).setZone z d = b.setZone z d := by
  unfold Blocks.setZone; rw [List.set_set]

theorem updateZone_some (z : Nat) (g : Zone → Zone) {c : Zone} (h : b.zone? z = some c) :
    b.updateZone z g = b.setZone z (some (g c)) := by
  unfold Blocks.updateZone; rw [h]; rfl

theorem zone?_lt {z : Nat} {c : Zone} (h : b.zone? z = some c) : z < b.zones.length := by
  unfold Blocks.zone? at h
  by_contra hn
  rw [List.getElem?_eq_none (by omega)] at h
  cases h

/-- Writing the record that a zone has changes nothing. -/
theorem setZone_self {z : Nat} {c : Zone} (h : b.zone? z = some c) : b.setZone z (some c) = b := by
  have hz := zone?_lt b h
  unfold Blocks.setZone
  have : b.zones.set z (some c) = b.zones := by
    apply List.ext_getElem (by simp)
    intro i h1 h2
    rw [List.getElem_set]
    split
    · rename_i e; subst e
      unfold Blocks.zone? at h
      rw [List.getElem?_eq_getElem h2] at h
      exact h.symm
    · rfl
  rw [this]

end Sys2Proof.Machine
end

