-- ==== Sys2Proof/Laws/Ops.lean ====
section
/-! SUPPORT. For each shared operation, what it can do, said once: the port's service of a request, the passes over a list, the
Notice List, and the records that each block's operations may touch. -/

namespace Sys2Proof.Machine

/-! ## The service of a request (R177) -/

/-- A request of its kind at the head, which the port may take, is served and answered. -/
theorem serve_taken {s : State} {r : Request} {k : Nat} (block : RequestBody → Blocks → Blocks × Answer) (h : Asks s r)
    (hk : r.kind.toNat = k) :
    serve k block s = replied s r (block r.body s.blocks).1 (block r.body s.blocks).2 := by
  obtain ⟨hr, hl, ha⟩ := h
  unfold serve
  cases hq : s.port.requests with
  | nil => rw [hq] at hr; cases hr
  | cons x xs =>
    rw [hq] at hr
    cases hr
    have hm : s.port.mayTake = true := decide_eq_true hl
    simp only [hm, ha, hk, decide_true, Bool.and_self, if_true]
    simp only [replied, Port.answer, hq]

/-- Fields that pass the port's own checks suit the request's kind. -/
theorem asksFor_kind {s : State} {r : Request} {f : RequestFields} (h : AsksFor s r f) : r.kind.toNat = fieldsKind f := by
  obtain ⟨⟨_, _, ha⟩, hb⟩ := h
  simp only [requestAcceptable, hb, bodySuits, Bool.and_eq_true, decide_eq_true_eq] at ha
  exact ha.2.1.symm

/-- A request of fields is served by its block. -/
theorem serve_fields {s : State} {r : Request} {f : RequestFields} {k : Nat} (block : RequestFields → Blocks → Blocks × Answer)
    (h : AsksFor s r f) (hk : fieldsKind f = k) :
    serve k (onFields block) s = replied s r (block f s.blocks).1 (block f s.blocks).2 := by
  rw [serve_taken (onFields block) h.1 (asksFor_kind h |>.trans hk), h.2]
  rfl

/-- A request of bytes is served by its block. -/
theorem serve_bytes {s : State} {r : Request} {l : List Byte} {k : Nat} (block : List Byte → Blocks → Blocks × Answer)
    (h : Asks s r) (hb : r.body = .bytes l) (hk : r.kind.toNat = k) :
    serve k (onBytes block) s = replied s r (block l s.blocks).1 (block l s.blocks).2 := by
  rw [serve_taken (onBytes block) h hk, hb]
  rfl

/-- All that a service can do: nothing, or answer the head request. -/
theorem serve_cases (k : Nat) (block : RequestBody → Blocks → Blocks × Answer) (s : State) :
    serve k block s = s ∨
      ∃ r, Asks s r ∧ r.kind.toNat = k ∧ serve k block s = replied s r (block r.body s.blocks).1 (block r.body s.blocks).2 := by
  unfold serve
  cases hq : s.port.requests with
  | nil => exact Or.inl rfl
  | cons x xs =>
    dsimp only
    split
    · rename_i h
      simp only [Bool.and_eq_true, decide_eq_true_eq, Port.mayTake] at h
      exact Or.inr ⟨x, ⟨by rw [hq]; rfl, h.1.1, h.1.2⟩, h.2, by simp only [replied, Port.answer, hq]⟩
    · exact Or.inl rfl

/-! ## Passes over a list -/

variable {α : Type}

@[simp] theorem forEach_nil (g : α → Blocks → Blocks) (b : Blocks) : forEach [] g b = b := rfl

@[simp] theorem forEach_cons (x : α) (l : List α) (g : α → Blocks → Blocks) (b : Blocks) :
    forEach (x :: l) g b = forEach l g (g x b) := rfl

/-- What every turn of a pass keeps, the pass keeps. -/
theorem forEach_keeps {P : Blocks → Prop} {g : α → Blocks → Blocks} (h : ∀ x b, P b → P (g x b)) (l : List α) :
    ∀ b, P b → P (forEach l g b) := by
  induction l with
  | nil => exact fun _ hb => hb
  | cons x l ih => exact fun b hb => ih _ (h x b hb)

/-- A relation from state to state that is reflexive and transitive and holds over every turn holds over the pass. -/
theorem forEach_rel {R : Blocks → Blocks → Prop} (hr : ∀ b, R b b) (ht : ∀ {a b c}, R a b → R b c → R a c)
    {g : α → Blocks → Blocks} (h : ∀ x b, R b (g x b)) (l : List α) : ∀ b, R b (forEach l g b) := by
  induction l with
  | nil => exact fun b => hr b
  | cons x l ih => exact fun b => ht (h x b) (ih _)

/-! ## The Notice List (R180) -/

theorem mem_insertKind (k x : ChangeKind) (l : List ChangeKind) :
    x ∈ insertKind k l → x = k ∨ x ∈ l := by
  unfold insertKind
  split
  · exact Or.inr
  · intro h
    simp only [List.mem_filter, Bool.or_eq_true, beq_iff_eq, decide_eq_true_eq] at h
    exact h.2

theorem mem_allKinds (k : ChangeKind) : k ∈ allKinds := by cases k <;> decide

theorem insertKind_self (k : ChangeKind) (l : List ChangeKind) : k ∈ insertKind k l := by
  unfold insertKind
  split
  · assumption
  · simp [mem_allKinds]

theorem insertKind_old (k x : ChangeKind) (l : List ChangeKind) (h : x ∈ l) : x ∈ insertKind k l := by
  unfold insertKind
  split
  · exact h
  · simp [mem_allKinds, h]

/-- An added change stands in the list against its record. -/
theorem addChange_has (r : RecordId) (k : ChangeKind) (o : Option LastOutcome) (l : List NoticeEntry) :
    ∃ e ∈ addChange r k o l, e.record = r ∧ k ∈ e.changes := by
  induction l with
  | nil => exact ⟨_, List.mem_singleton_self _, rfl, List.mem_singleton_self _⟩
  | cons e es ih =>
    unfold addChange
    split
    · rename_i h
      simp only [NoticeEntry.opens, Bool.and_eq_true, decide_eq_true_eq] at h
      exact ⟨_, List.mem_cons_self, h.1, insertKind_self _ _⟩
    · obtain ⟨x, hx, h1, h2⟩ := ih
      exact ⟨x, List.mem_cons_of_mem _ hx, h1, h2⟩

/-- What stood in the list against a record stands there still when another change is added. -/
theorem addChange_keeps (r r' : RecordId) (k k' : ChangeKind) (o : Option LastOutcome) (l : List NoticeEntry)
    (h : ∃ e ∈ l, e.record = r' ∧ k' ∈ e.changes) : ∃ e ∈ addChange r k o l, e.record = r' ∧ k' ∈ e.changes := by
  induction l with
  | nil => obtain ⟨e, he, _⟩ := h; cases he
  | cons x xs ih =>
    obtain ⟨e, he, h1, h2⟩ := h
    unfold addChange
    split
    · rcases List.mem_cons.1 he with rfl | he
      · exact ⟨_, List.mem_cons_self, h1, insertKind_old _ _ _ h2⟩
      · exact ⟨e, List.mem_cons_of_mem _ he, h1, h2⟩
    · rcases List.mem_cons.1 he with rfl | he
      · exact ⟨e, List.mem_cons_self, h1, h2⟩
      · obtain ⟨y, hy, p⟩ := ih ⟨e, he, h1, h2⟩
        exact ⟨y, List.mem_cons_of_mem _ hy, p⟩

/-- A submitted change is told. -/
theorem submit_told (b : Blocks) (r : RecordId) (k : ChangeKind) (o : Option LastOutcome) : Told (b.submit r k o) r k := by
  intro hm
  rw [submit_mask] at hm
  rw [submit_notices, if_pos hm]
  exact addChange_has r k o b.notices

theorem report_told (b : Blocks) (r : RecordId) (k : ChangeKind) : Told (b.report r k) r k := submit_told b r k none

/-- A change that was told is told still after another is submitted. -/
theorem submit_keeps_told {b : Blocks} {r : RecordId} {k : ChangeKind} (h : Told b r k) (r' : RecordId) (k' : ChangeKind)
    (o : Option LastOutcome) : Told (b.submit r' k' o) r k := by
  intro hm
  rw [submit_mask] at hm
  rw [submit_notices]
  split
  · exact addChange_keeps _ _ _ _ _ _ (h hm)
  · exact h hm

/-! ## What the operations of Feeder Control may touch -/

/-- Only the feeders, the Notice List and a Restart Schedule's list of feeders may differ. -/
def TouchesFeeders (a b : Blocks) : Prop := b = { a with feeders := b.feeders, notices := b.notices, deferral := b.deferral }

theorem TouchesFeeders.refl (b : Blocks) : TouchesFeeders b b := rfl

theorem TouchesFeeders.trans {a b c : Blocks} (h : TouchesFeeders a b) (k : TouchesFeeders b c) : TouchesFeeders a c := by
  unfold TouchesFeeders at *; rw [k, h]

theorem report_touches (b : Blocks) (r : RecordId) (k : ChangeKind) : TouchesFeeders b (b.report r k) := by
  unfold TouchesFeeders Blocks.report Blocks.submit; split <;> rfl

theorem setContactor_touches (f : Nat) (c : Bool) (b : Blocks) : TouchesFeeders b (setContactor f c b) := by
  unfold setContactor
  split
  · rfl
  · exact .trans (b := b.updateFeeder f (fun x => { x with closed := c })) rfl (report_touches _ _ _)

theorem evaluateFeeder_touches (f : Nat) (b : Blocks) : TouchesFeeders b (evaluateFeeder f b) := by
  unfold evaluateFeeder
  split
  · rfl
  split
  · exact .trans (b := b.updateFeeder f (fun x => { x with idleFrom := none })) rfl (setContactor_touches _ _ _)
  split <;> rfl

theorem reevaluateFeeder_touches (f : Nat) (b : Blocks) : TouchesFeeders b (reevaluateFeeder f b) := by
  unfold reevaluateFeeder
  split
  · rfl
  · exact evaluateFeeder_touches f b

theorem tellZoneFeeder_touches (z : Nat) (b : Blocks) : TouchesFeeders b (tellZoneFeeder z b) := by
  unfold tellZoneFeeder
  split
  · exact reevaluateFeeder_touches _ b
  · rfl

theorem claimFeeder_touches (n f : Nat) (b : Blocks) : TouchesFeeders b (claimFeeder n f b) :=
  .trans (b := b.updateFeeder f (fun x => { x with armClaims := insertAsc n x.armClaims })) rfl (reevaluateFeeder_touches _ _)

theorem releaseFeeder_touches (n f : Nat) (b : Blocks) : TouchesFeeders b (releaseFeeder n f b) := by
  unfold releaseFeeder
  split
  · exact .trans (b := b.updateFeeder f (fun x => { x with armClaims := x.armClaims.filter (fun m => m != n) })) rfl
      (reevaluateFeeder_touches _ _)
  · rfl

theorem releaseClaims_touches (n : Nat) (b : Blocks) : TouchesFeeders b (releaseClaims n b) :=
  forEach_rel TouchesFeeders.refl TouchesFeeders.trans (releaseFeeder_touches n) _ b

/-! ## What the operations of the Zone Resolver and the Level Chain may touch -/

/-- Only what a re-resolution writes may differ: the Holding Table, the zones held, the zone records, the latest render and the
settle counts, the feeders, Show Live, the Notice List and a Restart Schedule's list. -/
def TouchesHolding (a b : Blocks) : Prop :=
  b = { a with
    holding := b.holding, active := b.active, zones := b.zones, chain := b.chain, feeders := b.feeders, showLive := b.showLive,
    notices := b.notices, deferral := b.deferral }

theorem TouchesHolding.refl (b : Blocks) : TouchesHolding b b := rfl

theorem TouchesHolding.trans {a b c : Blocks} (h : TouchesHolding a b) (k : TouchesHolding b c) : TouchesHolding a c := by
  unfold TouchesHolding at *; rw [k, h]

theorem TouchesFeeders.holding {a b : Blocks} (h : TouchesFeeders a b) : TouchesHolding a b := by
  unfold TouchesFeeders TouchesHolding at *; rw [h]

theorem startHandover_touches (z h : Nat) (b : Blocks) : TouchesHolding b (startHandover z h b) := by
  unfold startHandover
  split
  · rfl
  split
  · rfl
  dsimp only
  split <;> rfl

theorem reportHeld_touches (newcomer : Option Nat) (o : Occurrence) (b : Blocks) :
    TouchesHolding b (reportHeld newcomer o b) := by
  unfold reportHeld
  dsimp only
  split_ifs <;> first | rfl | exact (report_touches _ _ _).holding

theorem recountHeld_touches (newcomer : Option Nat) (b : Blocks) : TouchesHolding b (recountHeld newcomer b) :=
  .trans (b := { b with active := b.active.map (fun o => { o with held := b.countHeld o.id }) }) rfl
    (forEach_rel TouchesHolding.refl TouchesHolding.trans (reportHeld_touches newcomer) _ _)

theorem reevaluateShowLive_touches (b : Blocks) : TouchesHolding b (reevaluateShowLive b) := by
  unfold reevaluateShowLive; split <;> rfl

theorem resolve_touches (zones : List Nat) (newcomer : Option Nat) (b : Blocks) :
    TouchesHolding b (resolve zones newcomer b) := by
  have h1 : TouchesHolding b { b with holding := b.resolvedTable zones } := rfl
  have h2 : ∀ (l : List Nat) (c : Blocks),
      TouchesHolding c (if c.fades then forEach l (fun z x => startHandover z (x.handoverLength z) x) c else c) := fun l c => by
    split
    · exact forEach_rel TouchesHolding.refl TouchesHolding.trans (fun z b => startHandover_touches z _ b) _ _
    · rfl
  have h3 : ∀ (l : List Nat) (c : Blocks), TouchesHolding c (forEach l (fun z x => x.report (.zone z) .holderChanged) c) :=
    fun l c => forEach_rel TouchesHolding.refl TouchesHolding.trans (fun z b => (report_touches b _ _).holding) _ _
  have h5 : ∀ (l : List Nat) (c : Blocks), TouchesHolding c (forEach l reevaluateFeeder c) := fun l c =>
    forEach_rel TouchesHolding.refl TouchesHolding.trans (fun f b => (reevaluateFeeder_touches f b).holding) _ _
  unfold resolve
  exact h1.trans ((h2 _ _).trans ((h3 _ _).trans ((recountHeld_touches newcomer _).trans
    ((h5 _ _).trans (reevaluateShowLive_touches _)))))

theorem defaultHandovers_touches (p : Nat → Bool) (b : Blocks) : TouchesHolding b (defaultHandovers p b) :=
  forEach_rel TouchesHolding.refl TouchesHolding.trans (fun z b => startHandover_touches z _ b) _ _

theorem lowerZone_touches (k z : Nat) (b : Blocks) : TouchesHolding b (lowerZone k z b) := by
  unfold lowerZone; split <;> rfl

/-! ## What the operations of the Occurrence Engine may touch -/

/-- Only what a placement, a start or an end writes may differ: what a re-resolution writes, the bookings, the Upcoming List and
the model's own numbers. -/
def TouchesEngine (a b : Blocks) : Prop :=
  b = { a with
    bookings := b.bookings, upcoming := b.upcoming, nextId := b.nextId, lastFreed := b.lastFreed,
    holding := b.holding, active := b.active, zones := b.zones, chain := b.chain, feeders := b.feeders, showLive := b.showLive,
    notices := b.notices, deferral := b.deferral }

theorem TouchesEngine.refl (b : Blocks) : TouchesEngine b b := rfl

theorem TouchesEngine.trans {a b c : Blocks} (h : TouchesEngine a b) (k : TouchesEngine b c) : TouchesEngine a c := by
  unfold TouchesEngine at *; rw [k, h]

theorem TouchesHolding.engine {a b : Blocks} (h : TouchesHolding a b) : TouchesEngine a b := by
  unfold TouchesHolding TouchesEngine at *; rw [h]

theorem submit_touches (b : Blocks) (r : RecordId) (k : ChangeKind) (o : Option LastOutcome) :
    TouchesEngine b (b.submit r k o) := by
  unfold TouchesEngine Blocks.submit; split <;> rfl

theorem freeSlot_touches (n : Nat) (b : Blocks) : TouchesEngine b (freeSlot n b) := by
  unfold freeSlot; split <;> rfl

theorem retire_touches (n : Nat) (b : Blocks) : TouchesEngine b (retire n b) := by
  unfold retire
  dsimp only
  split
  · exact .trans (b := b.updateBooking n (fun k => { k with state := .retiring })) rfl (submit_touches _ _ _ _)
  · refine .trans (b := { b.updateBooking n (fun k => { k with state := .retiring }) with
      lastFreed := (b.updateBooking n (fun k => { k with state := .retiring })).booking? n }) rfl (freeSlot_touches _ _)

theorem dispose_touches (n : Nat) (o : LastOutcome) (x : Option Instant) (b : Blocks) : TouchesEngine b (dispose n o x b) :=
  .trans (.trans (b := recordOutcome n o b) rfl (submit_touches _ _ _ _)) rfl

theorem armEntry_touches (n : Nat) (b : Blocks) : TouchesEngine b (armEntry n b) :=
  .trans (b := { b with upcoming := b.upcoming.map (fun e => if e.number = n then { e with armed := true } else e) }) rfl
    (forEach_rel TouchesEngine.refl TouchesEngine.trans (fun f b => (claimFeeder_touches n f b).holding.engine) _ _)

theorem removeEntry_touches (n : Nat) (b : Blocks) : TouchesEngine b (removeEntry n b) := by
  unfold removeEntry
  split
  · rfl
  dsimp only
  split
  · exact .trans (b := { b with upcoming := b.upcoming.filter (fun x => x.number != n) }) rfl
      (releaseClaims_touches _ _).holding.engine
  · rfl

theorem recordSkips_touches (n : Nat) (a : SearchAnswer) (b : Blocks) : TouchesEngine b (recordSkips n a b) := by
  unfold recordSkips
  split
  · exact dispose_touches _ _ _ _
  · rfl

theorem insertWindow_touches (n : Nat) (t : Tier) (now : Instant) (w : Window) (b : Blocks) :
    TouchesEngine b (insertWindow n t now w b) := by
  have h1 : TouchesEngine b (schedule n w.marks
      { b with upcoming := insertUpcoming ⟨n, t, w.day, w.start, w.finish, w.estimated, false⟩ b.upcoming }) := rfl
  have h2 : ∀ c : Blocks, TouchesEngine c (if w.estimated then c.report (.booking n) .estimated else c) := fun c => by
    split
    · exact submit_touches _ _ _ _
    · rfl
  have h3 : ∀ (c : Blocks) (e : UpcomingEntry), TouchesEngine c (if c.withinLead now e then armEntry n c else c) := fun c e => by
    split
    · exact armEntry_touches _ _
    · rfl
  unfold insertWindow
  exact h1.trans ((h2 _).trans (h3 _ _))

theorem placeOnly_touches (quiet : Bool) (n : Nat) (b : Blocks) : TouchesEngine b (placeOnly quiet n b) := by
  unfold placeOnly
  split
  · rfl
  split
  · rfl
  dsimp only
  split
  · exact (recordSkips_touches _ _ _).trans (retire_touches _ _)
  · have h : ∀ c : Blocks, TouchesEngine c (setBookingState n .stalled c) := fun _ => rfl
    split
    · exact (recordSkips_touches _ _ _).trans (h _)
    · exact (recordSkips_touches _ _ _).trans ((h _).trans (submit_touches _ _ _ _))
  · exact (recordSkips_touches _ _ _).trans (insertWindow_touches _ _ _ _ _)

theorem enter_touches (e : UpcomingEntry) (extra : List Nat) (b : Blocks) : TouchesEngine b (enter e extra b) := by
  have h1 : ∀ o : Occurrence, TouchesEngine b
      (setBookingState e.number .running { b with active := b.active ++ [o], nextId := b.nextId + 1 }) := fun _ => rfl
  have h2 : ∀ c : Blocks, TouchesEngine c (if e.tier = .base then reloadSettle c else c) := fun c => by
    split <;> rfl
  unfold enter
  exact (h1 _).trans ((submit_touches _ _ _ _).trans ((resolve_touches _ _ _).engine.trans (h2 _)))

theorem leave_touches (o : Occurrence) (out : LastOutcome) (x : Option Instant) (b : Blocks) :
    TouchesEngine b (leave o out x b) :=
  .trans (.trans (b := dropRecord o b) rfl (resolve_touches _ _ _).engine) (dispose_touches _ _ _ _)

theorem startOnce_touches (n : Nat) (b : Blocks) : TouchesEngine b (startOnce n b) := by
  unfold startOnce
  split
  · rfl
  dsimp only
  split
  · exact (removeEntry_touches _ _).trans (enter_touches _ _ _)
  split
  · exact (removeEntry_touches _ _).trans (enter_touches _ _ _)
  split
  · refine (removeEntry_touches n b).trans (.trans ?_ (enter_touches _ _ _))
    exact .trans (.trans (b := dropRecord _ _) rfl (dispose_touches _ _ _ _)) (placeOnly_touches _ _ _)
  · exact (removeEntry_touches _ _).trans ((dispose_touches _ _ _ _).trans (placeOnly_touches _ _ _))

theorem takeStart_touches (n : Nat) (b : Blocks) : TouchesEngine b (takeStart n b) := by
  unfold takeStart
  dsimp only
  split
  · split
    · exact (startOnce_touches _ _).trans (startOnce_touches _ _)
    · exact startOnce_touches _ _
  · exact startOnce_touches _ _

theorem place_touches (n : Nat) (b : Blocks) : TouchesEngine b (place n b) := by
  unfold place
  dsimp only
  split
  · exact (placeOnly_touches _ _ _).trans (takeStart_touches _ _)
  · exact placeOnly_touches _ _ _

theorem missEntry_touches (e : UpcomingEntry) (b : Blocks) : TouchesEngine b (missEntry e b) :=
  (removeEntry_touches _ _).trans ((dispose_touches _ _ _ _).trans (placeOnly_touches _ _ _))

theorem drain_touches (st : Bool) (fuel : Nat) : ∀ b, TouchesEngine b (drain st fuel b) := by
  induction fuel with
  | zero => exact fun _ => rfl
  | succ n ih =>
    intro b
    unfold drain
    split
    · split
      · refine .trans ?_ (ih _)
        split
        · exact missEntry_touches _ _
        · exact startOnce_touches _ _
      · rfl
    · rfl

theorem armDue_touches (b : Blocks) : TouchesEngine b (armDue b) := by
  unfold armDue
  split
  · rfl
  · exact forEach_rel TouchesEngine.refl TouchesEngine.trans armEntry_touches _ _

theorem placeBatch_touches (quiet : Bool) (ns : List Nat) (b : Blocks) : TouchesEngine b (placeBatch quiet ns b) :=
  (forEach_rel TouchesEngine.refl TouchesEngine.trans (placeOnly_touches quiet) _ _).trans (drain_touches _ _ _)

theorem completeInStep_touches (o : Occurrence) (b : Blocks) : TouchesEngine b (completeInStep o b) := by
  unfold completeInStep
  split
  · rfl
  split
  · exact (leave_touches _ _ _ _).trans (placeOnly_touches _ _ _)
  · rfl

theorem forwardStep_touches (b : Blocks) : TouchesEngine b (forwardStep b) := by
  unfold forwardStep
  split
  · rfl
  · exact (forEach_rel TouchesEngine.refl TouchesEngine.trans completeInStep_touches _ _).trans
      ((drain_touches _ _ _).trans (armDue_touches _))

/-! ## What the operations on nodes and risers may touch -/

/-- Only the zone records, the risers, the own count, the feeders, the Notice List and a Restart Schedule's list may differ. -/
def TouchesNodes (a b : Blocks) : Prop :=
  b = { a with
    ownUs := b.ownUs, zones := b.zones, risers := b.risers, feeders := b.feeders, notices := b.notices, deferral := b.deferral }

theorem TouchesNodes.refl (b : Blocks) : TouchesNodes b b := rfl

theorem TouchesNodes.trans {a b c : Blocks} (h : TouchesNodes a b) (k : TouchesNodes b c) : TouchesNodes a c := by
  unfold TouchesNodes at *; rw [k, h]

theorem TouchesFeeders.nodes {a b : Blocks} (h : TouchesFeeders a b) : TouchesNodes a b := by
  unfold TouchesFeeders TouchesNodes at *; rw [h]

theorem setNode_touches (z : Nat) (st : NodeState) (b : Blocks) : TouchesNodes b (setNode z st b) := by
  unfold setNode
  split
  · rfl
  · exact .trans (b := b.updateZone z (fun c => { c with node := st })) rfl
      ((report_touches _ _ _).trans (tellZoneFeeder_touches _ _)).nodes

theorem setFault_touches (z : Nat) (c : Option Nat) (b : Blocks) : TouchesNodes b (setFault z c b) := by
  unfold setFault
  split
  · rfl
  split
  · rfl
  · exact .trans (b := b.updateZone z (fun x => { x with fault := c })) rfl (report_touches _ _ _).nodes

theorem enterRiserState_touches (r : Nat) (st : RiserState) (b : Blocks) : TouchesNodes b (enterRiserState r st b) :=
  .trans (b := b.updateRiser r (fun x => { x with state := st })) rfl (report_touches _ _ _).nodes

theorem startRollCall_touches (r : Nat) (b : Blocks) : TouchesNodes b (startRollCall r b) := by
  unfold startRollCall recomputeRate
  split <;> rfl

theorem sendFrame_touches (r : Nat) (b : Blocks) : TouchesNodes b (sendFrame r b) := by
  have h1 : TouchesNodes b (applyRate r b) := by
    unfold applyRate
    split
    · rfl
    · exact .trans (b := b.updateRiser r _) rfl (report_touches _ _ _).nodes
  have h2 : ∀ lag lost zs c, TouchesNodes c (forEach zs (ageZone lag lost) c) := fun lag lost zs c =>
    forEach_rel TouchesNodes.refl TouchesNodes.trans (fun z b => by
      unfold ageZone
      split
      · rfl
      · exact .trans (b := b.setZone z _) rfl (setNode_touches _ _ _)) zs c
  have h3 : ∀ (c : Blocks) (g : Riser → Riser), TouchesNodes c (c.updateRiser r g) := fun _ _ => rfl
  have h4 : ∀ (c : Blocks) (p : Bool), TouchesNodes c (if p then c else c.report (.riser r) .underrun) := fun c p => by
    split
    · rfl
    · exact (report_touches _ _ _).nodes
  unfold sendFrame
  exact h1.trans ((h2 _ _ _ _).trans ((h3 _ _).trans (h4 _ _)))

/-! ## The render's holders and a riser's first frame send -/

/-- A taken holder's booking is the one of its number and its `uid` (R94). -/
theorem takenBooking?_eq_some {b : Blocks} {t : TakenHolder} {k : Booking} :
    b.takenBooking? t = some k ↔ b.booking? t.number = some k ∧ k.uid = t.uid := by
  unfold Blocks.takenBooking?
  cases h : b.booking? t.number with
  | none => simp
  | some x =>
    by_cases u : x.uid = t.uid
    · simp [u]; rintro rfl; exact u
    · simp [u]; rintro rfl; exact u

/-- A held line faults where the first frame send would begin (R151). -/
@[simp] theorem beginFrames_held (r : Nat) (b : Blocks) :
    beginFrames r true b = lineFault r (startRollCall r (enterRiserState r .starting b)) := rfl

/-- On a free line the first frame send is taken (R140). -/
@[simp] theorem beginFrames_free (r : Nat) (b : Blocks) :
    beginFrames r false b = sendFrame r (startRollCall r (enterRiserState r .starting b)) := rfl

/-- A line fault writes its riser's record and the Notice List (R151). -/
theorem lineFault_touches (r : Nat) (b : Blocks) : TouchesNodes b (lineFault r b) := by
  unfold lineFault
  split
  · exact .trans (b := b.updateRiser r _) rfl (enterRiserState_touches _ _ _)
  · rfl

/-- The stages of an entry into Starting after its first two, held line or free (R140). -/
theorem beginFrames_touches (r : Nat) (held : Bool) (b : Blocks) : TouchesNodes b (beginFrames r held b) := by
  have h := (enterRiserState_touches r .starting b).trans (startRollCall_touches r _)
  cases held
  · exact h.trans (sendFrame_touches r _)
  · exact h.trans (lineFault_touches r _)

end Sys2Proof.Machine
end

