-- ==== Sys2Proof/Laws/Requests.lean ====
section
/-! SUPPORT. For each request's row, what a served request does: its block's answer, and nothing else of the port but the two
queues. -/

namespace Sys2Proof.Machine

theorem exec_followAgain {s : State} {q : Request} {n : Nat} (h : AsksFor s q (.followAgain n)) :
    exec .followAgain s = .next (replied s q (followAgain n s.blocks).1 (followAgain n s.blocks).2) :=
  congrArg Host.Outcome.next (serve_fields (k := 23) _ h rfl)

theorem exec_cueReport {s : State} {q : Request} (h : AsksFor s q .cueReport) :
    exec .cueReport s = .next (replied s q s.blocks (okWith (.cue s.blocks.cueView))) :=
  congrArg Host.Outcome.next (serve_fields (k := 24) _ h rfl)

theorem exec_markTime {s : State} {q : Request} {day : Nat} {tod : Nat} {mode : Code MarkMode}
    (h : AsksFor s q (.markTime day tod mode)) :
    exec .markTime s = .next (replied s q (markTime day tod mode s.blocks).1 (markTime day tod mode s.blocks).2) :=
  congrArg Host.Outcome.next (serve_fields (k := 19) _ h rfl)

theorem exec_setCalendarBase {s : State} {q : Request} {base : Nat} (h : AsksFor s q (.setCalendarBase base)) :
    exec .setCalendarBase s = .next (replied s q (setCalendarBase base s.blocks).1 (setCalendarBase base s.blocks).2) :=
  congrArg Host.Outcome.next (serve_fields (k := 20) _ h rfl)

theorem exec_timeReport {s : State} {q : Request} (h : AsksFor s q .timeReport) :
    exec .timeReport s = .next (replied s q (timeReport s.blocks).1 (timeReport s.blocks).2) :=
  congrArg Host.Outcome.next (serve_fields (k := 21) _ h rfl)

theorem exec_loadAlmanac {s : State} {q : Request} {days : List AlmanacDay} (h : AsksFor s q (.loadAlmanac days)) :
    exec .loadAlmanac s = .next (replied s q (loadAlmanac days s.blocks).1 (loadAlmanac days s.blocks).2) :=
  congrArg Host.Outcome.next (serve_fields (k := 22) _ h rfl)

theorem exec_readChannel {s : State} {q : Request} {c : Nat} (h : AsksFor s q (.readChannel c)) :
    exec .readChannel s = .next (replied s q (readChannel c s.blocks).1 (readChannel c s.blocks).2) :=
  congrArg Host.Outcome.next (serve_fields (k := 34) _ h rfl)

theorem exec_recloseFeeder {s : State} {q : Request} {n : Nat} (h : AsksFor s q (.recloseFeeder n)) :
    exec .recloseFeeder s = .next (replied s q (recloseFeeder n s.blocks).1 (recloseFeeder n s.blocks).2) :=
  congrArg Host.Outcome.next (serve_fields (k := 32) _ h rfl)

theorem exec_setOutput {s : State} {q : Request} {line : Code OutputLine} {source : Option (Code OutputSource)} {command : Option (Code OutputCommand)}
    (h : AsksFor s q (.setOutput line source command)) :
    exec .setOutput s = .next (replied s q (setOutput line source command s.blocks).1 (setOutput line source command s.blocks).2) :=
  congrArg Host.Outcome.next (serve_fields (k := 31) _ h rfl)

theorem exec_configureFeeder {s : State} {q : Request} {n : Nat} {budget : Option Nat} {mark : Option Nat}
    (h : AsksFor s q (.configureFeeder n budget mark)) :
    exec .configureFeeder s = .next (replied s q (configureFeeder n budget mark s.blocks).1 (configureFeeder n budget mark s.blocks).2) :=
  congrArg Host.Outcome.next (serve_fields (k := 30) _ h rfl)

theorem exec_feederReport {s : State} {q : Request} {n : Nat} (h : AsksFor s q (.feederReport n)) :
    exec .feederReport s = .next (replied s q (feederReport n s.blocks).1 (feederReport n s.blocks).2) :=
  congrArg Host.Outcome.next (serve_fields (k := 33) _ h rfl)

theorem exec_setNoticeMask {s : State} {q : Request} {kinds : List ChangeKind} (h : AsksFor s q (.setNoticeMask kinds)) :
    exec .setNoticeMask s = .next (replied s q (setNoticeMask kinds s.blocks).1 (setNoticeMask kinds s.blocks).2) :=
  congrArg Host.Outcome.next (serve_fields (k := 35) _ h rfl)

theorem exec_restartSchedule {s : State} {q : Request} (h : AsksFor s q .restartSchedule) :
    exec .restartSchedule s = .next (replied s q (restartSchedule s.blocks).1 (restartSchedule s.blocks).2) :=
  congrArg Host.Outcome.next (serve_fields (k := 36) _ h rfl)

theorem exec_withdraw {s : State} {q : Request} {n : Nat} (h : AsksFor s q (.withdraw n)) :
    exec .withdraw s = .next (replied s q (withdraw n s.blocks).1 (withdraw n s.blocks).2) :=
  congrArg Host.Outcome.next (serve_fields (k := 3) _ h rfl)

theorem exec_lookUp {s : State} {q : Request} {n : Nat} (h : AsksFor s q (.lookUp n)) :
    exec .lookUp s = .next (replied s q (lookUp n s.blocks).1 (lookUp n s.blocks).2) :=
  congrArg Host.Outcome.next (serve_fields (k := 4) _ h rfl)

theorem exec_listUpcoming {s : State} {q : Request} {start : Nat} {n : Nat} (h : AsksFor s q (.listUpcoming start n)) :
    exec .listUpcoming s = .next (replied s q (listUpcoming start n s.blocks).1 (listUpcoming start n s.blocks).2) :=
  congrArg Host.Outcome.next (serve_fields (k := 5) _ h rfl)

theorem exec_forecast {s : State} {q : Request} {t : Nat} {z : Nat} (h : AsksFor s q (.forecast t z)) :
    exec .forecast s = .next (replied s q (forecast t z s.blocks).1 (forecast t z s.blocks).2) :=
  congrArg Host.Outcome.next (serve_fields (k := 6) _ h rfl)

theorem exec_configureRiser {s : State} {q : Request} {r : Nat} {body : RiserBody} (h : AsksFor s q (.configureRiser r body)) :
    exec .configureRiser s = .next (replied s q (configureRiser r body s.blocks).1 (configureRiser r body s.blocks).2) :=
  congrArg Host.Outcome.next (serve_fields (k := 15) _ h rfl)

theorem exec_riserReset {s : State} {q : Request} {r : Nat} (h : AsksFor s q (.riserReset r)) :
    exec .riserReset s = .next (replied s q (riserReset r s.blocks).1 (riserReset r s.blocks).2) :=
  congrArg Host.Outcome.next (serve_fields (k := 16) _ h rfl)

theorem exec_rollCall {s : State} {q : Request} {r : Nat} (h : AsksFor s q (.rollCall r)) :
    exec .rollCall s = .next (replied s q (rollCall r s.blocks).1 (rollCall r s.blocks).2) :=
  congrArg Host.Outcome.next (serve_fields (k := 17) _ h rfl)

theorem exec_riserReport {s : State} {q : Request} {r : Nat} (h : AsksFor s q (.riserReport r)) :
    exec .riserReport s = .next (replied s q (riserReport r s.blocks).1 (riserReport r s.blocks).2) :=
  congrArg Host.Outcome.next (serve_fields (k := 18) _ h rfl)

theorem exec_programOpen {s : State} {q : Request} {n : Nat} {steps : Nat} {length : Nat} {ea : Code EndAction} {fallback : Levels}
    (h : AsksFor s q (.programOpen n steps length ea fallback)) :
    exec .programOpen s = .next (replied s q (programOpen n steps length ea fallback s.blocks).1 (programOpen n steps length ea fallback s.blocks).2) :=
  congrArg Host.Outcome.next (serve_fields (k := 7) _ h rfl)

theorem exec_programSteps {s : State} {q : Request} {n : Nat} {steps : List StepBody}
    (h : AsksFor s q (.programSteps n steps)) :
    exec .programSteps s = .next (replied s q (programSteps n steps s.blocks).1 (programSteps n steps s.blocks).2) :=
  congrArg Host.Outcome.next (serve_fields (k := 8) _ h rfl)

theorem exec_programClose {s : State} {q : Request} {n : Nat} (h : AsksFor s q (.programClose n)) :
    exec .programClose s = .next (replied s q (programClose n s.blocks).1 (programClose n s.blocks).2) :=
  congrArg Host.Outcome.next (serve_fields (k := 9) _ h rfl)

theorem exec_programRemove {s : State} {q : Request} {n : Nat} (h : AsksFor s q (.programRemove n)) :
    exec .programRemove s = .next (replied s q (programRemove n s.blocks).1 (programRemove n s.blocks).2) :=
  congrArg Host.Outcome.next (serve_fields (k := 10) _ h rfl)

theorem exec_programReport {s : State} {q : Request} {n : Nat} (h : AsksFor s q (.programReport n)) :
    exec .programReport s = .next (replied s q (programReport n s.blocks).1 (programReport n s.blocks).2) :=
  congrArg Host.Outcome.next (serve_fields (k := 11) _ h rfl)

theorem exec_setCurfew {s : State} {q : Request} {body : CurfewBody} (h : AsksFor s q (.setCurfew body)) :
    exec .setCurfew s = .next (replied s q (setCurfew body s.blocks).1 (setCurfew body s.blocks).2) :=
  congrArg Host.Outcome.next (serve_fields (k := 25) _ h rfl)

theorem exec_setAmbient {s : State} {q : Request} {body : AmbientBody} (h : AsksFor s q (.setAmbient body)) :
    exec .setAmbient s = .next (replied s q (setAmbient body s.blocks).1 (setAmbient body s.blocks).2) :=
  congrArg Host.Outcome.next (serve_fields (k := 26) _ h rfl)

theorem exec_setHoldLook {s : State} {q : Request} {look : Levels} (h : AsksFor s q (.setHoldLook look)) :
    exec .setHoldLook s = .next (replied s q (setHoldLook look s.blocks).1 (setHoldLook look s.blocks).2) :=
  congrArg Host.Outcome.next (serve_fields (k := 27) _ h rfl)

theorem exec_configureSchedule {s : State} {q : Request} {lead : Option Nat} {handover : Option Nat}
    (h : AsksFor s q (.configureSchedule lead handover)) :
    exec .configureSchedule s = .next (replied s q (configureSchedule lead handover s.blocks).1 (configureSchedule lead handover s.blocks).2) :=
  congrArg Host.Outcome.next (serve_fields (k := 28) _ h rfl)

theorem exec_chainReport {s : State} {q : Request} (h : AsksFor s q .chainReport) :
    exec .chainReport s = .next (replied s q s.blocks (okWith (.chain s.blocks.chainView))) :=
  congrArg Host.Outcome.next (serve_fields (k := 29) _ h rfl)

theorem exec_configureZone {s : State} {q : Request} {z : Nat} {body : ZoneBody} (h : AsksFor s q (.configureZone z body)) :
    exec .configureZone s = .next (replied s q (configureZone z body s.blocks).1 (configureZone z body s.blocks).2) :=
  congrArg Host.Outcome.next (serve_fields (k := 12) _ h rfl)

theorem exec_clearNode {s : State} {q : Request} {z : Nat} (h : AsksFor s q (.clearNode z)) :
    exec .clearNode s = .next (replied s q (clearNode z s.blocks).1 (clearNode z s.blocks).2) :=
  congrArg Host.Outcome.next (serve_fields (k := 13) _ h rfl)

theorem exec_zoneReport {s : State} {q : Request} {z : Nat} (h : AsksFor s q (.zoneReport z)) :
    exec .zoneReport s = .next (replied s q (zoneReport z s.blocks).1 (zoneReport z s.blocks).2) :=
  congrArg Host.Outcome.next (serve_fields (k := 14) _ h rfl)

theorem exec_book {s : State} {q : Request} {l : List Byte} (h : Asks s q) (hb : q.body = .bytes l) (hk : q.kind = 1) :
    exec .book s = .next (replied s q (book l s.blocks).1 (book l s.blocks).2) :=
  congrArg Host.Outcome.next (serve_bytes (k := 1) book h hb (by rw [hk]; rfl))

theorem exec_amend {s : State} {q : Request} {l : List Byte} (h : Asks s q) (hb : q.body = .bytes l) (hk : q.kind = 2) :
    exec .amend s = .next (replied s q (amend l s.blocks).1 (amend l s.blocks).2) :=
  congrArg Host.Outcome.next (serve_bytes (k := 2) amend h hb (by rw [hk]; rfl))

end Sys2Proof.Machine
end

