-- ==== Sys2Proof/WellFormed.lean ====
section
/-! DEFINITION. Which commands can come from outside at all: an operand that its row's own rule bounds lies within that bound.
A command that fails its check is still given an effect by exec. -/

namespace Sys2Proof

/-- Whether a request's body agrees with the bytes its transaction carried: a body of bytes is what the queue holds of them after
the header, no more than 252 (R176), and fields are read only from a request that carried a header. -/
def requestWellFormed (r : Request) : Bool :=
  match r.body with
  | .bytes l => decide (l.length = min (r.carried - 4) 252)
  | .fields _ => decide (4 ≤ r.carried)
  | .other => true

/-- Whether a number names a booking: 1..65,534 (R1). -/
def namesBooking (n : Nat) : Bool := decide (1 ≤ n) && decide (n ≤ 65534)

/-- The checks of a command's operands. -/
def Instr.wellFormed : Instr → Bool
  | .sendRequest r => requestWellFormed r
  | .unknownTransactionKind k => !(decide (1 ≤ k.toNat) && decide (k.toNat ≤ 4))
  | .entryArmed n => namesBooking n
  | .occurrenceEnd n => namesBooking n
  | .noticeWindow _ c => decide (c.getD 0 ≤ 24)
  | .fullReset => true
  | .fetchReply _ => true
  | .fetchNotice _ => true
  | .portStatus => true
  | .portMalformedRefusal => true
  | .book => true
  | .amend => true
  | .withdraw => true
  | .lookUp => true
  | .listUpcoming => true
  | .forecast => true
  | .occurrenceStart => true
  | .panelHoldAssertion => true
  | .panelHoldRelease => true
  | .programOpen => true
  | .programSteps => true
  | .programClose => true
  | .programRemove => true
  | .programReport => true
  | .renderStart => true
  | .renderTimerExpiryLost => true
  | .renderCompletion => true
  | .curfewOpening => true
  | .curfewClosing => true
  | .setCurfew => true
  | .setAmbient => true
  | .setHoldLook => true
  | .configureSchedule => true
  | .chainReport => true
  | .civilTick => true
  | .midnight => true
  | .pulseEdge _ => true
  | .holdoverTimeout => true
  | .edgeCounterSaturation => true
  | .pendingMarkExpiry => true
  | .markTime => true
  | .setCalendarBase => true
  | .timeReport => true
  | .loadAlmanac => true
  | .cueWord _ _ _ => true
  | .silenceTimeout => true
  | .followAgain => true
  | .cueReport => true
  | .configureRiser => true
  | .riserReset => true
  | .rollCall => true
  | .riserReport => true
  | .frameSend _ => true
  | .tallyReply _ _ => true
  | .directedWindow _ _ => true
  | .directedAttemptFailed _ => true
  | .noticeRead _ _ => true
  | .setFallback _ _ => true
  | .offer _ _ => true
  | .lineFault _ => true
  | .retryTimerExpiry _ => true
  | .configureZone => true
  | .clearNode => true
  | .zoneReport => true
  | .calibrationEnd => true
  | .sensorScan _ _ _ => true
  | .readChannel => true
  | .idleTimerExpiry _ => true
  | .recloseFeeder => true
  | .setOutput => true
  | .configureFeeder => true
  | .feederReport => true
  | .setNoticeMask => true
  | .restartSchedule => true
  | .offerMissingOrNotGood _ => true

end Sys2Proof
end

