-- ==== Sys2Proof/Tests/Slice0.lean ====
section
/-! SUPPORT. The smoke test of WellFormed, small tests whose expected results are the manual's own worked figures, and for every
statement with hypotheses a theorem that shows a state and operands meeting them together. -/

namespace Sys2Proof.Tests

-- One test after another: evaluated side by side, the tests below take a thread each.
set_option Elab.async false

open Sys2Proof Sys2Proof.Machine

/-! ## Well-formed commands -/

/-- A Send Request whose four header bytes were carried but whose body claims bytes that were not. -/
theorem test_wellFormed_refuses_bytes_not_carried :
    Instr.wellFormed (.sendRequest ⟨4, 1, 0, 4, .bytes [0]⟩) = false := by decide

theorem test_wellFormed_refuses_fields_without_header :
    Instr.wellFormed (.sendRequest ⟨3, 21, 0, 3, .fields .timeReport⟩) = false := by decide

theorem test_wellFormed_refuses_known_kind : Instr.wellFormed (.unknownTransactionKind 4) = false := by decide

theorem test_wellFormed_refuses_booking_zero : Instr.wellFormed (.entryArmed 0) = false := by decide

theorem test_wellFormed_refuses_booking_65535 : Instr.wellFormed (.occurrenceEnd 65535) = false := by decide

theorem test_wellFormed_refuses_slot_25 : Instr.wellFormed (.noticeWindow 0 (some 25)) = false := by decide

theorem test_wellFormed_takes_slot_24 : Instr.wellFormed (.noticeWindow 3 (some 24)) = true := by decide

/-! ## Small states -/

/-- A request of fields, as SEND_REQUEST clocks it in with its header. -/
def reqFor (f : RequestFields) : Request :=
  ⟨BitVec.ofNat 16 (4 + fieldsLength f), BitVec.ofNat 8 (fieldsKind f), 7, 4 + fieldsLength f, .fields f⟩

/-- A state whose only waiting request carries the given fields. -/
def ask (f : RequestFields) (b : Blocks) : State := ⟨[], { resetPort with requests := [reqFor f] }, b⟩

/-- The fields of every request fit the 256 bytes that the port holds, whatever their layout. -/
theorem fieldsLength_le (f : RequestFields) : fieldsLength f ≤ 252 := by
  cases f <;> first
    | exact Nat.zero_le _
    | exact Nat.le_of_lt_succ (Config.fieldsBytes _).isLt

theorem ask_asksFor (f : RequestFields) (b : Blocks) : AsksFor (ask f b) (reqFor f) f := by
  refine ⟨⟨rfl, Nat.zero_lt_succ 3, ?_⟩, rfl⟩
  have h := fieldsLength_le f
  have hk : (BitVec.ofNat 8 (fieldsKind f)).toNat = fieldsKind f := by cases f <;> rfl
  have hr : 3 ≤ fieldsKind f ∧ fieldsKind f ≤ 36 := by cases f <;> simp [fieldsKind]
  simp only [requestAcceptable, reqFor, bodySuits, BitVec.toNat_ofNat, hk, Config.requestBytes, Bool.and_eq_true,
    decide_eq_true_eq]
  exact ⟨⟨⟨⟨by omega, by omega⟩, by omega⟩, decide_eq_true (by omega)⟩, trivial, trivial⟩

/-- A request of bytes. -/
def reqBytes (k : Byte) (l : List Byte) : Request := ⟨BitVec.ofNat 16 (l.length + 4), k, 7, l.length + 4, .bytes l⟩

/-- A state whose only waiting request carries the given bytes. -/
def askBytes (k : Byte) (l : List Byte) (b : Blocks) : State := ⟨[], { resetPort with requests := [reqBytes k l] }, b⟩

/-- A state with nothing waiting. -/
def quiet (b : Blocks) : State := ⟨[], resetPort, b⟩

/-- The blocks after reset with civil time set to an instant, 5 s after the full reset. -/
def clockAt (now : Int) : Blocks :=
  { resetBlocks with ownUs := 5000000, time := { resetTime with state := .free, now := some now } }

/-- A zone on riser 0 at slot 1, face 2, feeder 1, with a Ready RGBW node. -/
def node : Zone :=
  { riser := 0, slot := 1, face := 2, feeder := 1, role := 5, serial := some 40112007318, isProtected := false,
    permitted := [.pulse, .chase, .sparkle], trim := 1000, watts := ⟨100, 100, 100, 100⟩, fallback := ⟨0, 0, 0, 0⟩,
    node := .ready, profile := some ⟨.rgbw, [.sparkle], [.sparkle], [.r25, .r40, .r50], .facade, none⟩, age := 3,
    tally := ⟨false, false, false⟩, fault := none, last := ⟨500, 400, 300, 200⟩, handover := none }

/-- The blocks with exactly one zone configured. -/
def oneZone (z : Nat) (c : Zone) (b : Blocks) : Blocks := { b with zones := (List.replicate 96 none).set z (some c) }

/-- The blocks with one riser replaced. -/
def oneRiser (x : Riser) (b : Blocks) : Blocks := { b with risers := b.risers.set 0 x }

/-- A riser that runs frame periods with its tally window open. -/
def framing : Riser := { resetRiser with state := .running, enabled := true, phase := .tally }

/-- A program of one Static step without a fade. -/
def plainProgram : ProgramData := ⟨60000, .loop, ⟨0, 0, 0, 0⟩, 1, [⟨0, 0, 255, .static 0, ⟨100, 200, 300, 400⟩⟩]⟩

/-- The fields of a Daily Civic booking from 20:00 for 2 h on zone 5, by program 3. -/
def fields : BookingFields :=
  { tier := .civic, pattern := ⟨.daily, 0, 100, []⟩, skip := [], start := .clock 72000000, finish := .duration 7200, program := 3,
    zones := [5], ceiling := 1000, exempt := false, follow := none, handover := none }

/-- A booking of those fields in a state. -/
def bookingIn (st : BookingState) : Booking := ⟨17, fields, st, none, .noOutcome, 0, 9, ⟨false, false⟩⟩

/-- An Upcoming entry of booking 17 on day 1. -/
def entry : UpcomingEntry := ⟨17, .civic, 1, 158400000, 165600000, false, false⟩

/-- An occurrence of booking 17 on day 1. -/
def occurrence : Occurrence := ⟨17, .civic, 1, 158400000, 165600000, 1000, .unfollowed, 0, 2⟩

/-- The blocks with program 3 Ready and booking 17 in the table, as they stand at an instant. -/
def booked (now : Int) (st : BookingState) (f : BookingFields) : Blocks :=
  { clockAt now with
    programs := resetBlocks.programs.set 3 (.ready plainProgram)
    bookings := [{ bookingIn st with fields := f }]
    nextId := 10 }

/-- The blocks with booking 17 running. -/
def running (now : Int) (f : BookingFields) (o : Occurrence) : Blocks := { booked now .running f with active := [o] }

/-- The booking body of those fields, its number 17. -/
def sampleBody : BookingBody :=
  { number := 17, tier := 2, kind := 1, first := 0, last := 100, weekdays := 0, skipCount := 0, skip1 := 0, skip2 := 0, skip3 := 0,
    skip4 := 0, startKind := 0, startValue := 72000000, endKind := 0, endValue := 7200, program := 3, zones := 32,
    ceiling := 1000, exempt := 0, followFlag := 0, follow := 0, handoverFlag := 0, handover := 0 }

/-- Every request of fields may stand at the head of the queue, whatever the blocks are. -/
theorem asks_any : ∀ (f : RequestFields) (b : Blocks), AsksFor (ask f b) (reqFor f) f ∧ (ask f b).blocks = b :=
  fun f b => ⟨ask_asksFor f b, rfl⟩

theorem emptyZones_get (y : Nat) : ((List.replicate 96 (none : Option Zone))[y]?).join = none := by
  rw [List.getElem?_replicate]
  split <;> rfl

theorem oneZone_zone? (z y : Nat) (c : Zone) (b : Blocks) (hz : z < 96) :
    (oneZone z c b).zone? y = if y = z then some c else none := by
  unfold oneZone Blocks.zone?
  rw [List.getElem?_set]
  by_cases h : y = z
  · subst h
    rw [if_pos rfl, if_pos (by rw [List.length_replicate]; exact hz), if_pos rfl]
    rfl
  · rw [if_neg (fun e => h e.symm), if_neg h, emptyZones_get]

theorem reset_zone? (y : Nat) : resetBlocks.zone? y = none := emptyZones_get y

/-- What holds of the one value of an option holds of every value it may have. -/
theorem only_some {α : Type} {p : α → Prop} {x : α} (h : p x) : ∀ y, some x = some y → p y := fun _ e => by cases e; exact h

/-- Nothing is to be shown of an absent value. -/
theorem only_none {α : Type} {p : α → Prop} : ∀ y, (none : Option α) = some y → p y := fun _ e => by cases e

/-! ## The manual's worked figures -/

/-- Program 31 of section 4.7. -/
def program31 : ProgramData :=
  { length := 60000, endAction := .loop, fallback := ⟨0, 0, 300, 300⟩, declared := 5,
    steps :=
      [⟨0, 0, 255, .static 3000, ⟨0, 0, 800, 0⟩⟩, ⟨10000, 0, 127, .chase 8 3 4 .up, ⟨1000, 600, 0, 200⟩⟩,
       ⟨10000, 128, 255, .pulse 500 1500, ⟨1000, 1000, 1000, 1000⟩⟩, ⟨30000, 0, 255, .static 2000, ⟨1000, 600, 0, 200⟩⟩,
       ⟨45000, 0, 255, .sparkle 40, ⟨800, 800, 800, 800⟩⟩] }

/-- A look of program 31 on a zone that permits Pulse and Chase and whose node offers Sparkle. -/
def look31 (role : Nat) (p : Int) : Look := lookOf program31 p role [.pulse, .chase] [.sparkle] []

/-- Section 4.7: a Loop program fades its first step from its last step's colour, truncating toward zero; before its offset it
shows that colour. -/
theorem test_look_loop_fade :
    look31 5 2000 = ⟨⟨267, 267, 800, 267⟩, .plain⟩ ∧ look31 5 (-3000) = ⟨⟨800, 800, 800, 800⟩, .plain⟩ ∧
    lookOf { program31 with endAction := .hold } 2000 5 [.pulse, .chase] [.sparkle] [] = ⟨⟨0, 0, 533, 0⟩, .plain⟩ := by
  decide +kernel

/-- Section 4.7: the chase at p = 12,500 lights roles 2 to 4 and 10 to 12, and the pulse is dark at 500 ms. -/
theorem test_look_chase_and_pulse :
    look31 5 12500 = darkLook ∧ look31 2 12500 = ⟨⟨1000, 600, 0, 200⟩, .plain⟩ ∧
    look31 4 12500 = ⟨⟨1000, 600, 0, 200⟩, .plain⟩ ∧ look31 12 12500 = ⟨⟨1000, 600, 0, 200⟩, .plain⟩ ∧
    look31 200 12500 = darkLook ∧ look31 200 12400 = ⟨⟨1000, 1000, 1000, 1000⟩, .plain⟩ ∧ look31 5 130000 = darkLook := by decide

/-- Section 4.7: a fade from a Pulse step's colour, the sparkle, its substitution while barred, and a chase not permitted. -/
theorem test_look_fade_and_substitution :
    look31 200 31000 = ⟨⟨1000, 800, 500, 600⟩, .plain⟩ ∧ look31 5 50000 = ⟨⟨800, 800, 800, 800⟩, .sparkle 40⟩ ∧
    lookOf program31 50000 5 [.pulse, .chase] [.sparkle] [.sparkle] = ⟨⟨0, 0, 300, 300⟩, .plain⟩ ∧
    lookOf program31 130000 5 [.pulse] [.sparkle] [] = ⟨⟨0, 0, 300, 300⟩, .plain⟩ := by decide

/-- Section 5.3: zone 17 through stages 1 to 6, and what an RGB and a Mono node would be sent. -/
theorem test_chain_stages :
    let look := mixLevels 500 2000 ⟨200, 0, 800, 0⟩ ⟨1000, 600, 0, 200⟩
    let gained := stageGain 1300 (stageCeilingTrim 900 950 look)
    look = ⟨400, 150, 600, 50⟩ ∧ gained = ⟨434, 163, 651, 53⟩ ∧
    stageCurfew true false 600 (stageLayout .rgbw gained) = ⟨434, 163, 600, 53⟩ ∧
    stageCurfew true false 600 (stageLayout .rgb gained) = ⟨487, 216, 600, 0⟩ ∧
    stageCurfew true false 600 (stageLayout .mono gained) = ⟨600, 0, 0, 0⟩ := by
  decide +kernel

/-- Section 5.3: the demand of zone 17, its scaled load, and its levels under the scale 877. -/
theorem test_feeder_scale :
    loadAt 1024 (physicalChannels .rgbw ⟨434, 163, 600, 53⟩ ⟨400, 400, 400, 600⟩) = 509 ∧
    18000 * 1024 / 21000 = 877 ∧
    loadAt 877 (physicalChannels .rgbw ⟨434, 163, 600, 53⟩ ⟨400, 400, 400, 600⟩) = 435 ∧
    Levels.map (fun x => x * 877 / 1024) ⟨434, 163, 600, 53⟩ = ⟨371, 139, 513, 45⟩ := by decide

/-- Section 5.6: the worked updates of face 2, the last under glare. -/
theorem test_ambient_updates :
    let a : Ambient := ⟨512, 2048, 800, 64, 8, 30⟩
    ambientUpdate a (19200 / 16) ⟨1024, 30, 0, 0⟩ = ⟨1124, 29, 0, 0⟩ ∧
    ambientUpdate a 900 ⟨1124, 0, 0, 0⟩ = ⟨1127, 0, 0, 0⟩ ∧ ambientUpdate a 300 ⟨1127, 0, 0, 0⟩ = ⟨1112, 0, 0, 0⟩ ∧
    ambientUpdate a 4012 ⟨1112, 0, 0, 0⟩ = ⟨1112, 0, 0, 0⟩ := by decide

/-- The almanac of section 2.2. -/
def almanac20010 : List AlmanacDay := [⟨20010, 69120000, 21420000⟩]

/-- Section 2.2: the three worked windows of day 20,010. -/
theorem test_worked_windows :
    windowOf almanac20010 { fields with start := .sunset (-30), finish := .anchored (.sunrise 0) } none 20010 =
      .window ⟨20010, 1728931320000, 1728971820000, ⟨false, true⟩⟩ ∧
    windowOf almanac20010 { fields with start := .clock 21600000, finish := .anchored (.clock 18000000) } none 20010 =
      .window ⟨20010, 1728885600000, 1728950400000, ⟨false, false⟩⟩ ∧
    windowOf almanac20010 { fields with start := .sunset 720, finish := .anchored (.clock 21600000) } none 20010 =
      .noValidEnd 1728976320000 := by decide

/-- Section 2.2: with those anchors the search disposes of days 20,010 to 20,017 as Skipped and stalls at day 20,018. -/
theorem test_search_skips_then_stalls :
    (search almanac20010 0 1728864000000
      { fields with pattern := ⟨.daily, 20010, 65535, []⟩, start := .sunset 720, finish := .anchored (.clock 21600000) } none).found
      = .stalled ∧
    (search almanac20010 0 1728864000000
      { fields with pattern := ⟨.daily, 20010, 20017, []⟩, start := .sunset 720, finish := .anchored (.clock 21600000) } none).found
      = .noneLeft := by decide

/-- Section 6.6: edge E7 locks with e = −400 and steps civil time by +400 to 20:00:05.000 on day 20,050. -/
theorem test_lock_steps_civil_time :
    ∃ t : State, exec (.pulseEdge 1000050) (quiet { clockAt (20050 * 86400000 + 72004600) with
        ownUs := 5400250
        time := { resetTime with
          state := .free, now := some (20050 * 86400000 + 72004600), lastEdge := some 5400250,
          run := [1000050, 1000050, 1000050], interval := 1000050, lastInterval := 1000050 } }) = .next t ∧
      t.blocks.time.state = .locked ∧ t.blocks.time.rate = 1000050 ∧ t.blocks.time.phase = some (-400) ∧
      t.blocks.time.now = some (20050 * 86400000 + 72005000) ∧
      t.blocks.time.lastStep = some (400, 20050 * 86400000 + 72005000) := ⟨_, rfl, rfl, rfl, rfl, rfl, rfl⟩

/-- Section 6.6: the silence after edge E9 at 8,400.400 ms becomes Holdover at 9,900.400 ms. -/
theorem test_holdover_timeout :
    ∃ t : State, exec .holdoverTimeout (quiet { clockAt 0 with
        ownUs := 8400400, time := { (clockAt 0).time with state := .locked, lastEdge := some 8400400 } }) = .next t ∧
      t.blocks.ownUs = 9900400 ∧ t.blocks.time.state = .holdover := ⟨_, rfl, rfl, rfl⟩

/-- Section 8.3: a Mono node is sent its first level, and 0 in the places that its layout does not use. -/
theorem test_unused_levels_are_zero :
    (oneZone 5 { node with profile := node.profile.map (fun p => { p with layout := .mono }) }
        { resetBlocks with chain := { resetChain with
            latest := resetChain.latest.set 5 (.levels ⟨500, 400, 300, 200⟩ .plain) } }).slotEntry 0 1 =
      .levels ⟨500, 0, 0, 0⟩ .plain := by
  decide +kernel

/-- Section 11.6: the 52 bytes of the sample booking's body. -/
theorem test_booking_body_bytes :
    encodeBookingBody sampleBody =
      [0x00, 0x11, 2, 1, 0x00, 0x00, 0x00, 0x64, 0, 0, 0, 0, 0, 0, 0, 0, 0, 0, 0, 0x04, 0x4A, 0xA2, 0x00, 0, 0x00, 0x00, 0x1C, 0x20,
       3, 32, 0, 0, 0, 0, 0, 0, 0, 0, 0, 0, 0, 0x03, 0xE8, 0, 0, 0, 0, 0, 0, 0, 0, 0] := by decide

/-- Section 8.8: the lengths of the level frame and of a directed message, and the slot entry of a sparkle. -/
theorem test_message_layouts :
    (frameBytes ⟨9, .r40, 7, List.replicate 24 .noLevels⟩).length = 270 ∧
    (frameBytes ⟨9, .r40, 7, List.replicate 24 .noLevels⟩).take 5 = [1, 9, 2, 7, 3] ∧
    (directedBytes (.assign 40112007318 5)).length = 11 ∧ (directedBytes (.noticeRead 5)).take 2 = [3, 5] ∧
    slotBytes (.levels ⟨1000, 1, 0, 256⟩ (.sparkle 40)) = [1, 0, 40, 0x03, 0xE8, 0, 1, 0, 0, 1, 0] := by
  decide +kernel

/-- Section 6.7: at the midnight that begins day 20,061 the almanac loses day 20,053 and keeps day 20,054. -/
theorem test_midnight_prunes :
    ∃ t : State, exec .midnight (quiet { clockAt (20061 * 86400000) with
        time := { resetTime with state := .free, now := some (20061 * 86400000), midnightDue := true }
        almanac := [⟨20053, 1, 2⟩, ⟨20054, 3, 4⟩] }) = .next t ∧
      t.blocks.almanac = [⟨20054, 3, 4⟩] := ⟨_, rfl, rfl⟩

/-- R183, section 11.3: with nothing waiting the attention line is deasserted. -/
theorem test_attention_after_reset : attention State.reset = false := by decide

/-- The opcode table gives its rows no bits, so no word spells a command. -/
theorem test_no_word_spells_a_command : decodeTableWord 0 0 = none ∧ decodeTableWord 16 0xFFFF = none := ⟨rfl, rfl⟩

/-! ## Hypotheses met: the machine and the port -/

theorem witness_IdleStepPassesOneMicrosecond : State.reset.pending = [] := rfl

theorem witness_BookingBodyDecodesWhatItEncodes : decodeBookingBody (encodeBookingBody sampleBody) = some sampleBody := by
  decide

/-- A request queue with no place left, and one with one place left. -/
theorem witness_TransactionsActOnThePort :
    PortBounded State.reset ∧
    (4 ≤ (reqFor .timeReport).carried ∧ State.reset.port.requests.length < 4) ∧
    (2 < 4 ∧ (⟨3, 1, 0, 2, .other⟩ : Request).carried < 4) ∧
    4 ≤ (⟨[], { resetPort with requests := List.replicate 4 (reqFor .timeReport) }, resetBlocks⟩ : State).port.requests.length ∧
    (0 : Byte).toNat = 0 ∧ 4 < (5 : Byte).toNat :=
  ⟨⟨by decide, by decide⟩, ⟨by decide, by decide⟩, by decide, by decide, by decide, by decide⟩

theorem witness_AttentionFollowsTheQueues : exec .fullReset State.reset = .next State.reset := rfl

/-- A Notice List whose head entry is an entry of a zone, and one whose head entry holds Retired of a Retiring booking. -/
def noticed : Blocks := { resetBlocks with notices := [⟨.zone 5, [.nodeState], none, none⟩] }

def retired : Blocks := { booked 1000 .retiring fields with notices := [⟨.booking 17, [.retired], none, none⟩] }

theorem witness_FetchNoticeTakesTheHead :
    (quiet resetBlocks).blocks.notices = [] ∧
    (quiet noticed).blocks.notices = ⟨.zone 5, [.nodeState], none, none⟩ :: [] ∧
    (ChangeKind.retired ∉ [ChangeKind.nodeState] ∧
      (quiet retired).blocks.notices = ⟨.booking 17, [.retired], none, none⟩ :: [] ∧
      (quiet retired).blocks.booking? 17 = some (bookingIn .retiring) ∧ (bookingIn .retiring).state = .retiring ∧
      ChangeKind.retired ∈ [ChangeKind.retired] ∧
      ∀ x ∈ ([] : List NoticeEntry), x.opens (.booking 17) = false) :=
  ⟨rfl, rfl, by decide, rfl, rfl, rfl, by decide, by decide⟩

theorem witness_PortRefusesMalformedRequests :
    (⟨[], { resetPort with requests := [⟨5, 40, 7, 4, .other⟩] }, resetBlocks⟩ : State).port.requests.head? =
      some ⟨5, 40, 7, 4, .other⟩ ∧ (0 < 4) ∧ requestAcceptable ⟨5, 40, 7, 4, .other⟩ = false :=
  ⟨rfl, by decide, by decide⟩

theorem witness_EveryTakenRequestGetsOneReply :
    requestKind .timeReport = some 21 ∧ Asks (ask .timeReport resetBlocks) (reqFor .timeReport) ∧
      (reqFor .timeReport).kind.toNat = 21 :=
  ⟨rfl, (ask_asksFor _ _).1, rfl⟩

theorem witness_RefusedRequestsChangeNothing :
    requestKind .readChannel = some 34 ∧ Asks (ask (.readChannel 8) resetBlocks) (reqFor (.readChannel 8)) ∧
      (reqFor (.readChannel 8)).kind.toNat = 34 ∧
      exec .readChannel (ask (.readChannel 8) resetBlocks) =
        .next (replied (ask (.readChannel 8) resetBlocks) (reqFor (.readChannel 8)) resetBlocks (refuse .outOfRange)) ∧
      (refuse .outOfRange).status ≠ .ok :=
  ⟨rfl, (ask_asksFor _ _).1, rfl, exec_readChannel (ask_asksFor _ _), by decide⟩

/-- A Program Close of an Empty slot, and one of a slot above 63, are refused like any other request. -/
theorem witness_RefusedRequestsChangeNothing_close :
    (∀ n ∈ [63, 64], requestKind .programClose = some 9 ∧
      (programClose n resetBlocks).1 = resetBlocks ∧ (programClose n resetBlocks).2.status ≠ .ok) ∧
    (∀ n, exec .programClose (ask (.programClose n) resetBlocks) =
      .next (replied (ask (.programClose n) resetBlocks) (reqFor (.programClose n)) (programClose n resetBlocks).1
        (programClose n resetBlocks).2)) :=
  ⟨by decide +kernel, fun _ => exec_programClose (ask_asksFor _ _)⟩

theorem witness_EventsLeaveThePort : requestKind .civilTick = none ∧ actsOnPort .civilTick = false := ⟨rfl, rfl⟩

/-- A step of the reset state, which is in every invariant. -/
theorem witness_StepKeepsPortBounded :
    PortBounded State.reset ∧ step State.reset = .next { State.reset with blocks := { resetBlocks with ownUs := 1 } } :=
  ⟨⟨by decide, by decide⟩, rfl⟩

theorem reset_tablesSized : TablesSized resetBlocks := ⟨rfl, rfl, rfl, rfl, rfl, rfl, rfl, rfl, rfl⟩

theorem witness_StepKeepsTablesSized : TablesSized State.reset.blocks ∧ ActiveBounded State.reset.blocks ∧
    step State.reset = .next { State.reset with blocks := { resetBlocks with ownUs := 1 } } :=
  ⟨reset_tablesSized, by unfold ActiveBounded; decide, rfl⟩

theorem witness_StepKeepsRateAndCalibration : RateWithin State.reset.blocks ∧ CalibrationHoldsNoCode State.reset.blocks ∧
    step State.reset = .next { State.reset with blocks := { resetBlocks with ownUs := 1 } } :=
  ⟨⟨by decide, by decide, by decide, by decide⟩, by unfold CalibrationHoldsNoCode; decide, rfl⟩

theorem witness_CivilTimeStaysSet : Instr.midnight ≠ .fullReset ∧
    exec .midnight (quiet (clockAt 0)) = .next (quiet (clockAt 0)) ∧ (clockAt 0).time.now.isSome = true :=
  ⟨by decide, rfl, rfl⟩

/-! ## Hypotheses met: the Notice List and Restart Schedule -/

theorem witness_SubmitGathersChanges :
    ChangeKind.underrun ∉ resetBlocks.mask ∧
    (ChangeKind.stepped ∈ resetBlocks.mask ∧ ∀ e ∈ resetBlocks.notices, e.opens .timeBase = false) ∧
    (ChangeKind.nodeFault ∈ noticed.mask ∧ noticed.notices = [] ++ ⟨.zone 5, [.nodeState], none, none⟩ :: [] ∧
      NoticeEntry.opens ⟨.zone 5, [.nodeState], none, none⟩ (.zone 5) = true) :=
  ⟨by decide, ⟨by decide, by decide⟩, by decide, rfl, by decide⟩

theorem witness_SetNoticeMaskReplacesTheMask :
    AsksFor (ask (.setNoticeMask [.underrun, .started]) noticed) (reqFor (.setNoticeMask [.underrun, .started]))
      (.setNoticeMask [.underrun, .started]) := ask_asksFor _ _

/-- Booking 17 runs on zone 5, which is configured; and zone 5 is protected. -/
theorem witness_RestartScheduleKeepsWhatItNames :
    AsksFor (ask .restartSchedule (oneZone 5 node (running 158401000 fields occurrence))) (reqFor .restartSchedule)
      .restartSchedule ∧
    (oneZone 5 node (running 158401000 fields occurrence)).zone? 5 = some node ∧ node.isProtected = false ∧
    ChangeKind.ended ∈ (oneZone 5 node (running 158401000 fields occurrence)).mask ∧
    occurrence ∈ (oneZone 5 node (running 158401000 fields occurrence)).active ∧
    (oneZone 5 { node with isProtected := true } resetBlocks).zone? 5 = some { node with isProtected := true } :=
  ⟨ask_asksFor _ _, by decide +kernel⟩

/-! ## Hypotheses met: the Time Base -/

theorem witness_SetCalendarBaseStoresTheBase :
    (AsksFor (ask (.setCalendarBase 6) resetBlocks) (reqFor (.setCalendarBase 6)) (.setCalendarBase 6) ∧ 6 ≤ 6) ∧
    (AsksFor (ask (.setCalendarBase 7) resetBlocks) (reqFor (.setCalendarBase 7)) (.setCalendarBase 7) ∧ 6 < 7) ∧
    exec .fullReset (quiet noticed) = .next (quiet resetBlocks) ∧
    exec .restartSchedule (quiet resetBlocks) = .next (quiet resetBlocks) :=
  ⟨⟨ask_asksFor _ _, by decide⟩, ⟨ask_asksFor _ _, by decide⟩, rfl, rfl⟩

/-- Civil time about to leave day 0, about to be held back by a slew, and at its last instant. -/
theorem witness_CivilTickMovesNow :
    ((quiet (clockAt 86399999)).blocks.time.state ≠ .unset ∧ (quiet (clockAt 86399999)).blocks.time.now = some 86399999 ∧
      (86399999 : Int) < 5662310399999 ∧ (quiet (clockAt 86399999)).blocks.time.withhold = false) ∧
    (({ clockAt 0 with time := { (clockAt 0).time with withhold := true } } : Blocks).time.state ≠ .unset ∧
      ({ clockAt 0 with time := { (clockAt 0).time with withhold := true } } : Blocks).time.withhold = true) ∧
    ((clockAt 5662310399999).time.state ≠ .unset ∧
      ∃ now, (clockAt 5662310399999).time.now = some now ∧ 5662310399999 ≤ now) ∧
    (({ clockAt 86400000 with time := { (clockAt 86400000).time with midnightDue := true } } : Blocks).time.midnightDue = true ∧
      (clockAt 86400000).time.now = some 86400000) :=
  ⟨⟨by decide, rfl, by decide, rfl⟩, ⟨by decide, rfl⟩, ⟨by decide, _, rfl, by decide⟩, rfl, rfl⟩

/-- A Time Base whose last edge lies a given number of µs back, with a run of valid intervals, in a state. -/
def edged (back : Nat) (run : List Nat) (st : TimeState) : Blocks :=
  { clockAt 1000 with time := { (clockAt 1000).time with lastEdge := some (5000000 - back), run := run, state := st } }

theorem witness_PulseEdgeMeasuresIntervals :
    ((clockAt 0).time.pending = none ∧ (clockAt 0).time.lastEdge = none) ∧
    ((edged 999800 [1000000, 1000000] .free).time.pending = none ∧
      (edged 999800 [1000000, 1000000] .free).time.lastEdge = some 4000200 ∧
      999800 = min 1999999 ((edged 999800 [1000000, 1000000] .free).ownUs + 0 - 4000200) ∧
      (edged 999800 [1000000, 1000000] .free).time.state ≠ .locked ∧
      (edged 999800 [1000000, 1000000] .free).time.run.length < 3) ∧
    (1000200 = min 1999999 ((edged 1000000 [1, 2, 3] .holdover).ownUs + 200 - 4000000) ∧
      (edged 1000000 [1, 2, 3] .holdover).time.lastEdge = some 4000000 ∧
      (edged 1000000 [1, 2, 3] .holdover).time.state ≠ .unset ∧ 3 ≤ (edged 1000000 [1, 2, 3] .holdover).time.run.length ∧
      (edged 1000000 [] .locked).time.state = .locked) ∧
    (999799 = min 1999999 ((edged 999799 [] .locked).ownUs + 0 - 4000201) ∧ 999799 < 999800 ∧
      (edged 999799 [] .locked).time.lastEdge = some 4000201 ∧
      1000201 = min 1999999 ((edged 1000000 [] .free).ownUs + 201 - 4000000) ∧ 1000200 < 1000201) :=
  ⟨⟨rfl, rfl⟩, ⟨rfl, rfl, by decide, by decide, by decide⟩, ⟨by decide, rfl, by decide, by decide, rfl⟩, by decide, by decide, rfl,
    by decide, by decide⟩

/-- Instants whose phase errors are 0, 250, −250, 251 and −500 ms. -/
theorem witness_DisciplineSlewsOrSteps :
    (clockAt 7000).time.now = some 7000 ∧ (0 : Int) ≤ 7000 ∧ (7000 : Int) < 5662310399000 ∧ 0 = phaseError 7000 ∧
    250 = phaseError 7250 ∧ -250 = phaseError 7750 ∧ 251 = phaseError 7251 ∧ -500 = phaseError 7500 :=
  ⟨rfl, by decide, by decide, by decide, by decide, by decide, by decide, by decide⟩

theorem witness_SilentPulseInput :
    (quiet (edged 1400000 [] .locked)).blocks.time.lastEdge = some 3600000 ∧
      (quiet (edged 1400000 [] .locked)).blocks.time.state = .locked := ⟨rfl, rfl⟩

theorem witness_MarksSetNow :
    (AsksFor (ask (.markTime 65535 86399999 (.known .now)) (clockAt 5)) (reqFor (.markTime 65535 86399999 (.known .now)))
      (.markTime 65535 86399999 (.known .now)) ∧ 65535 ≤ 65535 ∧ 86399999 < 86400000) ∧
    AsksFor (ask (.markTime 0 0 (.known .nextPulse)) resetBlocks) (reqFor (.markTime 0 0 (.known .nextPulse)))
      (.markTime 0 0 (.known .nextPulse)) ∧
    ({ clockAt 5 with time := { (clockAt 5).time with pending := some ⟨65535, 86399999, 4000000⟩ } } : Blocks).time.pending =
      some ⟨65535, 86399999, 4000000⟩ :=
  ⟨⟨ask_asksFor _ _, by decide, by decide⟩, ask_asksFor _ _, rfl⟩

theorem witness_TimeReportReleasesTheCount : AsksFor (ask .timeReport (clockAt 5)) (reqFor .timeReport) .timeReport :=
  ask_asksFor _ _

/-- An almanac with a given number of days. -/
def almanacOf (n : Nat) : Blocks := { clockAt 5 with almanac := (List.range n).map (fun d => ⟨d, 70000000, 20000000⟩) }

theorem witness_LoadAlmanacStoresTheDays :
    (AsksFor (ask (.loadAlmanac [⟨400, 86399999, 0⟩]) (almanacOf 399)) (reqFor (.loadAlmanac [⟨400, 86399999, 0⟩]))
      (.loadAlmanac [⟨400, 86399999, 0⟩]) ∧ [(⟨400, 86399999, 0⟩ : AlmanacDay)].length ≤ 16 ∧
      (∀ e ∈ [(⟨400, 86399999, 0⟩ : AlmanacDay)], e.day ≤ 65535 ∧ e.sunset < 86400000 ∧ e.sunrise < 86400000) ∧
      (almanacOf 399).almanac.length + ((almanacOf 399).newDays ((almanacOf 399).toStore [⟨400, 86399999, 0⟩])).length ≤ 400) ∧
    (AsksFor (ask (.loadAlmanac [⟨400, 86399999, 0⟩]) (almanacOf 400)) (reqFor (.loadAlmanac [⟨400, 86399999, 0⟩]))
      (.loadAlmanac [⟨400, 86399999, 0⟩]) ∧
      400 < (almanacOf 400).almanac.length + ((almanacOf 400).newDays ((almanacOf 400).toStore [⟨400, 86399999, 0⟩])).length) := by
  refine ⟨⟨ask_asksFor _ _, by decide, by decide, ?_⟩, ask_asksFor _ _, ?_⟩ <;> decide +kernel

/-! ## Hypotheses met: the cue clock -/

/-- A receiver in a state, after a word of cue time 1,000, with a run of in-step words. -/
def cued (st : CueState) (run : Nat) (o : Occurrence) : Blocks :=
  { running 158401000 { fields with follow := some 500 } o with
    cue := { resetCue with state := st, last := some 1000, run := run, silentFrom := some 4900000 } }

theorem witness_CueWordsMoveTheReceiver :
    (false = false ∨ 86400000 ≤ 0) ∧ (true = false ∨ 86400000 ≤ 86400000) ∧
    (86399999 < 86400000 ∧ (cued .silent 0 occurrence).cue.running ≠ false ∧
      ChangeKind.cuePause ∈ (cued .silent 0 occurrence).mask ∧ (cued .silent 0 occurrence).cue.state = .silent) ∧
    ((cued .acquiring 1 occurrence).cue.state = .acquiring ∧ (cued .acquiring 1 occurrence).cue.run = 1 ∧
      ∃ l, (cued .acquiring 1 occurrence).cue.last = some l ∧ l ≤ 1250 ∧ 1250 ≤ l + 250) ∧
    ((cued .acquiring 2 occurrence).cue.run ≠ 1 ∧ (cued .acquiring 2 occurrence).cue.state = .acquiring ∧
      ∃ l, (cued .acquiring 2 occurrence).cue.last = some l ∧ l ≤ 1000 ∧ 1000 ≤ l + 250) ∧
    (∀ l, (cued .acquiring 2 occurrence).cue.last = some l → 1251 < l ∨ l + 250 < 1251) ∧
    (cued .locked 3 { occurrence with follow := .following }).cue.state = .locked :=
  ⟨Or.inl rfl, Or.inr (by decide), ⟨by decide, by decide, by decide, rfl⟩, ⟨rfl, rfl, _, rfl, by decide, by decide⟩,
    ⟨by decide, rfl, _, rfl, by decide, by decide⟩, only_some (by decide), rfl⟩

theorem witness_SilenceLosesLock :
    (cued .locked 3 { occurrence with follow := .following }).cue.silentFrom = some 4900000 ∧
      (cued .locked 3 { occurrence with follow := .following }).cue.state ≠ .silent ∧
      ChangeKind.followLost ∈ (cued .locked 3 { occurrence with follow := .following }).mask ∧
      { occurrence with follow := .following } ∈ (cued .locked 3 { occurrence with follow := .following }).active ∧
      (cued .acquiring 1 occurrence).cue.state ≠ .silent :=
  ⟨rfl, by decide, by decide, by decide, by decide⟩

theorem witness_FollowAgainTiesTheOccurrence :
    AsksFor (ask (.followAgain 17) (cued .locked 3 { occurrence with follow := .free })) (reqFor (.followAgain 17))
      (.followAgain 17) ∧
    (cued .locked 3 { occurrence with follow := .free }).booking? 17 =
      some { bookingIn .running with fields := { fields with follow := some 500 } } ∧
    (cued .locked 3 { occurrence with follow := .free }).active? 17 = some { occurrence with follow := .free } ∧
    (cued .locked 3 { occurrence with follow := .free }).cue.state = .locked ∧
    (AsksFor (ask (.followAgain 17) (cued .silent 0 occurrence)) (reqFor (.followAgain 17)) (.followAgain 17) ∧
      (cued .silent 0 occurrence).booking? 17 = some { bookingIn .running with fields := { fields with follow := some 500 } } ∧
      (cued .silent 0 occurrence).active? 17 = some occurrence ∧ (cued .silent 0 occurrence).cue.state ≠ .locked) :=
  ⟨ask_asksFor _ _, rfl, rfl, rfl, ask_asksFor _ _, rfl, rfl, by decide⟩

/-! ## Hypotheses met: programs and the render -/

/-- The blocks with slot 63 Loading two declared steps, one of them appended. -/
def loadingB : Blocks :=
  { resetBlocks with programs := resetBlocks.programs.set 63 (.loading { plainProgram with declared := 2 }) }

/-- The blocks with slot 63 Loading, its one declared step appended. -/
def loadedB : Blocks := { resetBlocks with programs := resetBlocks.programs.set 63 (.loading plainProgram) }

/-- The blocks with eight Ready programs of 512 steps, so that no step is free. -/
def fullPool : Blocks :=
  { resetBlocks with
    programs := List.replicate 8 (.ready { plainProgram with declared := 512 }) ++ List.replicate 56 .empty }

theorem witness_ProgramLoadsTakeSteps :
    (∀ b : Blocks, AsksFor (ask (.programOpen 62 512 21600000 (.known .hold) ⟨1000, 1000, 1000, 1000⟩) b)
        (reqFor (.programOpen 62 512 21600000 (.known .hold) ⟨1000, 1000, 1000, 1000⟩))
        (.programOpen 62 512 21600000 (.known .hold) ⟨1000, 1000, 1000, 1000⟩)) ∧
    (62 < 64 ∧ Capped 1000 ⟨1000, 1000, 1000, 1000⟩) ∧
    (loadingB.programs.length = 64 ∧ loadingB.loadOpen = true) ∧
    (resetBlocks.programs.length = 64 ∧ resetBlocks.loadOpen = false ∧ resetBlocks.program 62 = .empty ∧
      512 ≤ resetBlocks.freeCount) ∧
    (fullPool.programs.length = 64 ∧ fullPool.loadOpen = false ∧ fullPool.program 62 = .empty ∧ fullPool.freeCount < 512) ∧
    ((booked 0 .held fields).loadOpen = false ∧ (booked 0 .held fields).program 3 ≠ .empty) ∧
    (AsksFor (ask (.programSteps 63 [⟨60000, 0, 255, .known (.sparkle 100), ⟨0, 0, 0, 0⟩⟩]) loadingB)
        (reqFor (.programSteps 63 [⟨60000, 0, 255, .known (.sparkle 100), ⟨0, 0, 0, 0⟩⟩]))
        (.programSteps 63 [⟨60000, 0, 255, .known (.sparkle 100), ⟨0, 0, 0, 0⟩⟩]) ∧
      loadingB.program 63 = .loading { plainProgram with declared := 2 } ∧
      plainProgram.steps.length + 1 ≤ 2 ∧
      stepsOf 60000 (lastOffset plainProgram) 1 [⟨60000, 0, 255, .known (.sparkle 100), ⟨0, 0, 0, 0⟩⟩] =
        .inr [⟨60000, 0, 255, .sparkle 100, ⟨0, 0, 0, 0⟩⟩] ∧
      stepsOf 60000 (lastOffset plainProgram) 1 [⟨60001, 0, 255, .known (.sparkle 100), ⟨0, 0, 0, 0⟩⟩] = .inl 1) :=
  ⟨fun _ => ask_asksFor _ _, ⟨by decide, by decide, by decide, by decide, by decide⟩, ⟨by decide, by decide⟩,
    ⟨by decide, by decide, by decide, by decide⟩, ⟨by decide, by decide, by decide, by decide⟩, ⟨by decide, by decide⟩,
    ask_asksFor _ _, by decide, by decide, by decide, by decide⟩

theorem witness_ProgramCloseAndRemove :
    (∀ b : Blocks, AsksFor (ask (.programClose 63) b) (reqFor (.programClose 63)) (.programClose 63)) ∧
    (loadedB.program 63 = .loading plainProgram ∧ plainProgram.steps.length = plainProgram.declared) ∧
    (loadingB.program 63 = .loading { plainProgram with declared := 2 } ∧ plainProgram.steps.length ≠ 2) ∧
    (∀ b : Blocks, AsksFor (ask (.programRemove 3) b) (reqFor (.programRemove 3)) (.programRemove 3)) ∧
    ((booked 0 .held fields).program 3 = .ready plainProgram ∧ bookingIn .held ∈ (booked 0 .held fields).bookings ∧
      (bookingIn .held).fields.program = 3) ∧
    ({ booked 0 .held fields with bookings := [] } : Blocks).program 3 = .ready plainProgram :=
  ⟨fun _ => ask_asksFor _ _, ⟨by decide, by decide⟩, ⟨by decide, by decide⟩, fun _ => ask_asksFor _ _,
    ⟨by decide, by decide, by decide⟩, by decide⟩

/-- A chase of period 2 with its head on role 1, and roles in and out of its band either way. -/
theorem witness_ChaseLightsItsBand :
    (2 ≤ 2 ∧ 100 ≤ 600) ∧
    ((1 : Int) - ((600 - 100) * 2 / 1000 % 2 : Nat)) % 2 < 1 ∧ ¬((0 : Int) - ((600 - 100) * 2 / 1000 % 2 : Nat)) % 2 < 1 ∧
    (((600 - 100) * 2 / 1000 % 2 : Nat) - (1 : Int)) % 2 < 1 ∧ ¬(((600 - 100) * 2 / 1000 % 2 : Nat) - (0 : Int)) % 2 < 1 := by
  decide

theorem witness_LayoutConversion : node.profile = some ⟨.rgbw, [.sparkle], [.sparkle], [.r25, .r40, .r50], .facade, none⟩ := rfl

/-- A render in flight that has reached nothing. -/
def freshFlight : Flight := ⟨5000, List.replicate 96 none, false, List.replicate 96 none, [], 0, List.replicate 96 none⟩

def flightB (b : Blocks) : Blocks := { b with chain := { b.chain with flight := some freshFlight } }

theorem witness_RenderStartTakesItsFacts :
    resetBlocks.chain.flight = none ∧ 5000 = resetBlocks.nextExpiry ∧
    (flightB resetBlocks).chain.flight = some freshFlight :=
  ⟨rfl, by decide, rfl⟩

/-- A window from 22:00 to 06:00 with ceiling 300, and the facade at 23:00 with zone 5 lit by nothing. -/
def night : Blocks :=
  oneZone 5 node
    { clockAt 82800000 with
      chain := { resetChain with
        curfew := some ⟨1320, 360, 300, [.chase]⟩
        latest := resetChain.latest.set 5 (.levels ⟨500, 400, 300, 200⟩ .plain) } }

def nightOpen : Blocks := { night with chain := { night.chain with windowOpen := true } }

theorem night_tablesSized : TablesSized night :=
  ⟨by decide, by decide, by decide, by decide, by decide, by decide, by decide, by decide, rfl⟩

theorem witness_RenderCompletionKeepsBudgetAndCurfew :
    (flightB nightOpen).chain.flight = some freshFlight ∧
    TablesSized (flightB nightOpen) ∧ nightOpen.chain.windowOpen = true ∧
    (∀ k ∈ (flightB nightOpen).bookings, k.fields.exempt = false) ∧
    (∃ (t : Blocks) (l : Levels) (tok : Token), completeRender (flightB nightOpen) = t ∧ t.latestOf 5 = .levels l tok) ∧
    (flightB nightOpen).zone? 6 = none :=
  ⟨rfl, ⟨by decide, by decide, by decide, by decide, by decide, by decide, by decide, by decide, rfl⟩, rfl, by decide,
    ⟨_, ⟨0, 0, 0, 0⟩, .plain, rfl, by decide +kernel⟩, by decide⟩

/-- A render that has reached every zone, zone 5 with full levels on feeder 1 and its handover ended by a change of layout. -/
def litFlight : Flight :=
  { freshFlight with
    nextZone := 96
    results := (List.replicate 96 none).set 5
      (some (.lit ⟨1000, 1000, 1000, 1000⟩ .rgbw .plain 1 ⟨100, 100, 100, 100⟩ none true)) }

/-- Feeder 1 has a Lit zone with a demand of 400 W, so that budgets of 0, 400 and 399 W meet the last three cases of R100, and feeder
2 the first; 399 W make it begin to scale; and zone 5's handover is ended there, and not in the render that has reached
nothing. -/
theorem witness_RenderCompletionKeepsBudgetAndCurfew_feeders :
    let rs := allZones.map (fun z =>
      if (night.zone? z).isSome then ((reachMany night (96 - litFlight.nextZone) litFlight).results[z]?).join else none)
    (hasLit rs 1 = true ∧ hasLit rs 2 = false ∧ loadAt 1024 (feederChannels rs 1) = 400 ∧ feederBudget rs 1 399 = (1021, 396)) ∧
    rs[5]? = some (some (.lit ⟨1000, 1000, 1000, 1000⟩ .rgbw .plain 1 ⟨100, 100, 100, 100⟩ none true)) ∧
    renderZone night freshFlight 5 node = .lit ⟨0, 0, 0, 0⟩ .rgbw .plain 1 ⟨100, 100, 100, 100⟩ none false ∧
    renderZone night freshFlight 5 { node with isProtected := true } = .noLevels := by
  decide +kernel

/-! ## Hypotheses met: the curfew, Panel Hold and the settings -/

theorem witness_CurfewOpeningLowersTheFacade :
    night.windowDue = true ∧ night.chain.windowOpen = false ∧ TablesSized night ∧ night.zone? 5 = some node ∧
      node.isProtected = false ∧ night.sourceExempt 5 = false ∧ night.showable 6 = false :=
  ⟨by decide, rfl, night_tablesSized, by decide, rfl, by decide, by decide⟩

theorem witness_FacadeWideHandovers :
    (night.panelHold = false ∧ TablesSized night) ∧
    (({ night with panelHold := true } : Blocks).panelHold = true ∧ TablesSized { night with panelHold := true }) ∧
    (({ nightOpen with time := { nightOpen.time with now := some 21600000 } } : Blocks).windowDue = false ∧
      nightOpen.chain.windowOpen = true ∧ TablesSized { nightOpen with time := { nightOpen.time with now := some 21600000 } }) ∧
    (AsksFor (ask (.setHoldLook ⟨1000, 0, 0, 0⟩) night) (reqFor (.setHoldLook ⟨1000, 0, 0, 0⟩)) (.setHoldLook ⟨1000, 0, 0, 0⟩) ∧
      Capped 1000 ⟨1000, 0, 0, 0⟩) :=
  ⟨⟨rfl, night_tablesSized⟩, ⟨rfl, night_tablesSized⟩, ⟨by decide, rfl, night_tablesSized⟩, ask_asksFor _ _,
    by decide, by decide, by decide, by decide⟩

theorem witness_LevelChainSettings :
    (AsksFor (ask (.setCurfew (.window 1439 0 1000 [.sweep])) (clockAt 5)) (reqFor (.setCurfew (.window 1439 0 1000 [.sweep])))
        (.setCurfew (.window 1439 0 1000 [.sweep])) ∧ 1439 ≤ 1439 ∧ 0 ≤ 1439 ∧ 1000 ≤ 1000 ∧ StepKind.static ∉ [StepKind.sweep] ∧
      TablesSized (clockAt 5)) ∧
    (AsksFor (ask (.setCurfew .off) nightOpen) (reqFor (.setCurfew .off)) (.setCurfew .off) ∧ TablesSized nightOpen) ∧
    (AsksFor (ask (.setAmbient ⟨some 1100, none, none, none, none, none, true⟩) (clockAt 5))
        (reqFor (.setAmbient ⟨some 1100, none, none, none, none, none, true⟩))
        (.setAmbient ⟨some 1100, none, none, none, none, none, true⟩) ∧
      ambientInRange (overlayAmbient ⟨some 1100, none, none, none, none, none, true⟩ resetChain.ambient) = true) ∧
    (AsksFor (ask (.configureSchedule (some 120) (some 5000)) (booked 158280000 .scheduled fields))
        (reqFor (.configureSchedule (some 120) (some 5000))) (.configureSchedule (some 120) (some 5000)) ∧
      120 = (some 120).getD (booked 158280000 .scheduled fields).armLead ∧ (∀ x, some 120 = some x → x ≤ 120) ∧
      (∀ x, some 5000 = some x → x ≤ 5000) ∧ 120 ≠ (booked 158280000 .scheduled fields).armLead ∧
      entry.start - 120 * 1000 ≤ 158280000 ∧ 158280000 < entry.start) ∧
    (AsksFor (ask (.configureSchedule none none) (clockAt 5)) (reqFor (.configureSchedule none none))
        (.configureSchedule none none) ∧ 30 = (none : Option Nat).getD (clockAt 5).armLead) :=
  ⟨⟨ask_asksFor _ _, by decide, by decide, by decide, by decide, by decide, by decide, by decide, by decide, by decide, by decide,
      by decide, by decide, rfl⟩, ⟨ask_asksFor _ _, night_tablesSized⟩, ⟨ask_asksFor _ _, by decide⟩,
    ⟨ask_asksFor _ _, rfl, only_some (by decide), only_some (by decide), by decide, by decide, by decide⟩, ask_asksFor _ _, rfl⟩

/-- The passages of the window that curfew settings cause: an opening, a lower K under an open window and the same K, a closing, and
zone 5 with a source that is not exempt; and the fields out of their ranges, each at the first value beyond. -/
theorem witness_LevelChainSettings_passages :
    (({ night with chain := { night.chain with curfew := some ⟨1380, 1381, 0, []⟩ } } : Blocks).windowDue = true ∧
      night.chain.windowOpen = false) ∧
    (nightOpen.chain.windowOpen = true ∧ nightOpen.curfewCeiling = 300 ∧
      ({ nightOpen with chain := { nightOpen.chain with curfew := some ⟨1320, 360, 299, []⟩ } } : Blocks).curfewCeiling = 299 ∧
      ({ nightOpen with chain := { nightOpen.chain with curfew := some ⟨1320, 360, 299, []⟩ } } : Blocks).windowDue = true) ∧
    ({ nightOpen with chain := { nightOpen.chain with curfew := some ⟨360, 1380, 299, []⟩ } } : Blocks).windowDue = false ∧
    (nightOpen.zone? 5 = some node ∧ node.isProtected = false ∧ nightOpen.sourceExempt 5 = false ∧
      nightOpen.showable 5 = true ∧ nightOpen.showable 6 = false) ∧
    (1439 < 1440 ∧ 1000 < 1001 ∧ StepKind.static ∈ [StepKind.static]) ∧
    (ambientInRange { resetChain.ambient with gmin := 127 } = false ∧ ambientInRange { resetChain.ambient with sFast := 0 } = false ∧
      ambientInRange { resetChain.ambient with gmin := 4096, gmax := 4095 } = false ∧
      ambientInRange { resetChain.ambient with gmin := 4096, gmax := 4096, aref := 4095, sSlow := 255, settle := 255 } = true) ∧
    ((∃ x, some 121 = some x ∧ 120 < x) ∧ ∃ x, some 5001 = some x ∧ 5000 < x) := by
  refine ⟨by decide, by decide, by decide, by decide, by decide, by decide, ⟨121, rfl, by decide⟩, 5001, rfl, by decide⟩

/-! ## Hypotheses met: the reports -/

theorem witness_ReportsChangeNothing :
    (∀ f : RequestFields, AsksFor (ask f (booked 0 .held fields)) (reqFor f) f) ∧
      (booked 0 .held fields).booking? 17 = some (bookingIn .held) :=
  ⟨fun _ => ask_asksFor _ _, by decide⟩

theorem witness_ForecastRanksTheContenders :
    AsksFor (ask (.forecast 158400000 5) (booked 0 .scheduled fields)) (reqFor (.forecast 158400000 5)) (.forecast 158400000 5) ∧
      5 < 96 ∧ 158400000 ≤ 5662310399999 ∧
      (∀ now, (booked 0 .scheduled fields).time.now = some now →
        ((158400000 : Nat) : Int) - now ≤ 34560000000 ∧ now - (158400000 : Nat) ≤ 34560000000) :=
  ⟨ask_asksFor _ _, by decide, by decide, only_some (by decide)⟩

/-! ## Hypotheses met: sensors and feeders -/

theorem witness_ReadChannelShowsTheChannel :
    (AsksFor (ask (.readChannel 7) resetBlocks) (reqFor (.readChannel 7)) (.readChannel 7) ∧
      resetBlocks.scan.channels[7]? = some ⟨none, 0, 0⟩ ∧ CalibrationHoldsNoCode resetBlocks ∧
      resetBlocks.scan.calibrating = true) ∧
    (AsksFor (ask (.readChannel 8) resetBlocks) (reqFor (.readChannel 8)) (.readChannel 8) ∧ 7 < 8) ∧
    (TablesSized State.reset.blocks ∧ ∃ t, exec (.sensorScan 4 0 0) State.reset = .next t ∧
      (t.blocks.feeder 0).tripped = (State.reset.blocks.feeder 0).tripped) :=
  ⟨⟨ask_asksFor _ _, rfl, by unfold CalibrationHoldsNoCode; decide, rfl⟩, ⟨ask_asksFor _ _, by decide⟩, reset_tablesSized, _, rfl,
    rfl⟩

/-- The blocks once the Sensor Scan has begun, with one feeder replaced. -/
def scanning (f : Feeder) : Blocks :=
  { resetBlocks with
    ownUs := 2000000
    scan := ⟨false, List.replicate 8 ⟨none, 0, 2000000⟩⟩
    feeders := resetBlocks.feeders.set 3 f }

theorem witness_ScansTakeSamples :
    resetBlocks.scan.calibrating = true ∧
    ((scanning resetFeeder).scan.calibrating = false ∧ (scanning resetFeeder).scan.channels[7]? = some ⟨none, 0, 2000000⟩ ∧
      2000000 = max (scanning resetFeeder).ownUs 2000000 ∧ (800#12).toNat + 16 < (817#12).toNat) ∧
    ((scanning resetFeeder).scan.channels[3]? = some ⟨none, 0, 2000000⟩ ∧ (3 : Fin 8).val < 4 ∧
      (scanning resetFeeder).chain.faces[3]? = some ⟨1024, 30, 0, 0⟩ ∧ (800#12).toNat ≤ (816#12).toNat + 16 ∧
      (816#12).toNat ≤ (800#12).toNat + 16) ∧
    (4 ≤ (7 : Fin 8).val ∧ ((scanning resetFeeder).feeder 3).tripped = false ∧
      ((4095#12).toNat + (4095#12).toNat) / 2 ≤ ((scanning resetFeeder).feeder 3).tripMark) ∧
    (resetChain.ambient.gmin ≤ resetChain.ambient.gmax ∧ resetChain.ambient.gmin ≤ 512 ∧ 512 ≤ resetChain.ambient.gmax) :=
  ⟨rfl, ⟨rfl, rfl, by decide, by decide⟩, ⟨rfl, by decide, rfl, by decide, by decide⟩, ⟨by decide, rfl, by decide⟩, by decide,
    by decide, by decide⟩

/-- Feeder 3 closed after two samples over its mark of 1,000. -/
def strained : Feeder := { resetFeeder with closed := true, tripMark := 1000, overCount := 2 }

theorem witness_ThirdOverSampleTrips :
    TablesSized (oneZone 5 { node with feeder := 3 } (scanning strained)) ∧ (scanning strained).scan.calibrating = false ∧
      (7 : Fin 8).val = 3 + 4 ∧ ((scanning strained).feeder 3).tripped = false ∧ 2 ≤ ((scanning strained).feeder 3).overCount ∧
      (1001#12).toNat ≤ (1001#12).toNat + 16 ∧ ((scanning strained).feeder 3).tripMark < ((1001#12).toNat + (1001#12).toNat) / 2 ∧
      ({ night with zones := (oneZone 5 { node with feeder := 3 } night).zones } : Blocks).zone? 5 =
        some { node with feeder := 3 } ∧
      (night.latestOf 5).hasLevels = true ∧ (night.zone? 5 = some node ∧ node.feeder ≠ 3) :=
  ⟨⟨by decide, by decide, by decide, by decide, by decide, by decide, by decide, by decide, rfl⟩, rfl, by decide, rfl, by decide,
    by decide, by decide, by decide, by decide, by decide, by decide⟩

theorem witness_FeederCommands :
    ((scanning { resetFeeder with closed := true, idleFrom := some 1000000 }).feeders.length = 4 ∧
      ((scanning { resetFeeder with closed := true, idleFrom := some 1000000 }).feeder 3).idleFrom = some 1000000) ∧
    (AsksFor (ask (.recloseFeeder 3) (scanning { resetFeeder with tripped := true })) (reqFor (.recloseFeeder 3))
        (.recloseFeeder 3) ∧ ((scanning { resetFeeder with tripped := true }).feeder 3).tripped = true) ∧
    (AsksFor (ask (.recloseFeeder 3) resetBlocks) (reqFor (.recloseFeeder 3)) (.recloseFeeder 3) ∧
      (resetBlocks.feeder 3).tripped = false) ∧
    (AsksFor (ask (.configureFeeder 3 (some 1000000) (some 4095)) resetBlocks)
        (reqFor (.configureFeeder 3 (some 1000000) (some 4095))) (.configureFeeder 3 (some 1000000) (some 4095)) ∧
      (∀ v, some 1000000 = some v → v ≤ 1000000) ∧ ∀ v, some 4095 = some v → v ≤ 4095) ∧
    (∀ f : RequestFields, AsksFor (ask f resetBlocks) (reqFor f) f) ∧
    (⟨.operator, true, true⟩ : Indicator) = ⟨.operator, true, match OutputSource.operator with
      | .schedule => resetBlocks.chain.windowOpen
      | .operator => true⟩ :=
  ⟨⟨by decide, by decide⟩, ⟨ask_asksFor _ _, by decide⟩, ⟨ask_asksFor _ _, by decide⟩,
    ⟨ask_asksFor _ _, only_some (by decide), only_some (by decide)⟩, fun _ => ask_asksFor _ _, rfl⟩

/-! ## Hypotheses met: risers and zone nodes -/

/-- One riser and zone 5 on it, the rest as after reset. -/
def riserB (x : Riser) : Blocks := oneZone 5 node (oneRiser x resetBlocks)

theorem riserB_tablesSized (x : Riser) : TablesSized (riserB x) :=
  ⟨rfl, rfl, rfl, rfl, rfl, rfl, rfl, rfl, rfl⟩

theorem riserB_zone? (x : Riser) (y : Nat) : (riserB x).zone? y = if y = 5 then some node else none :=
  oneZone_zone? 5 y node _ (by decide)

theorem riserB_only (x : Riser) (z : Nat) (c : Zone) (h : (riserB x).zone? z = some c) : z = 5 ∧ c = node := by
  rw [riserB_zone?] at h
  split at h
  · exact ⟨‹_›, by cases h; rfl⟩
  · cases h

theorem witness_RisersEnterStarting :
    (AsksFor (ask (.configureRiser 0 ⟨some true, none, none, none, none⟩) (riserB resetRiser))
        (reqFor (.configureRiser 0 ⟨some true, none, none, none, none⟩))
        (.configureRiser 0 ⟨some true, none, none, none, none⟩) ∧ TablesSized (riserB resetRiser) ∧
      ((riserB resetRiser).riser 0).enabled = false ∧
      formRiser ⟨some true, none, none, none, none⟩ ((riserB resetRiser).riser 0) = some { resetRiser with enabled := true }) ∧
    (AsksFor (ask (.riserReset 0) (riserB framing)) (reqFor (.riserReset 0)) (.riserReset 0) ∧ TablesSized (riserB framing) ∧
      ((riserB framing).riser 0).state ≠ .off) ∧
    (AsksFor (ask (.riserReset 3) resetBlocks) (reqFor (.riserReset 3)) (.riserReset 3) ∧ (resetBlocks.riser 3).state = .off) ∧
    (TablesSized (riserB { framing with state := .faulted, retryFrom := some 7 }) ∧
      ((riserB { framing with state := .faulted, retryFrom := some 7 }).riser 0).state = .faulted ∧
      ((riserB { framing with state := .faulted, retryFrom := some 7 }).riser 0).retryFrom = some 7 ∧
      (riserB { framing with state := .faulted, retryFrom := some 7 }).zone? 5 = some node ∧ node.riser ≠ 1) :=
  ⟨⟨ask_asksFor _ _, riserB_tablesSized _, rfl, rfl⟩, ⟨ask_asksFor _ _, riserB_tablesSized _, by decide⟩,
    ⟨ask_asksFor _ _, rfl⟩, riserB_tablesSized _, rfl, rfl, riserB_zone? _ 5, by decide⟩

theorem witness_RiserSettingsAndFaults :
    (AsksFor (ask (.configureRiser 0 ⟨none, none, none, some 200, some 219⟩) resetBlocks)
        (reqFor (.configureRiser 0 ⟨none, none, none, some 200, some 219⟩))
        (.configureRiser 0 ⟨none, none, none, some 200, some 219⟩) ∧
      formRiser ⟨none, none, none, some 200, some 219⟩ (resetBlocks.riser 0) = none) ∧
    (AsksFor (ask (.configureRiser 0 ⟨none, some 20, none, some 200, some 220⟩) (riserB framing))
        (reqFor (.configureRiser 0 ⟨none, some 20, none, some 200, some 220⟩))
        (.configureRiser 0 ⟨none, some 20, none, some 200, some 220⟩) ∧
      formRiser ⟨none, some 20, none, some 200, some 220⟩ ((riserB framing).riser 0) =
        some { framing with maxRate := .r20, lag := 200, lost := 220 } ∧
      framing.enabled = ((riserB framing).riser 0).enabled) ∧
    (AsksFor (ask (.configureRiser 0 ⟨some false, none, none, none, none⟩) (riserB framing))
        (reqFor (.configureRiser 0 ⟨some false, none, none, none, none⟩))
        (.configureRiser 0 ⟨some false, none, none, none, none⟩) ∧ ((riserB framing).riser 0).enabled = true ∧
      formRiser ⟨some false, none, none, none, none⟩ ((riserB framing).riser 0) = some { framing with enabled := false }) ∧
    (TablesSized (riserB framing) ∧ framing = (riserB framing).riser 0 ∧ framing.state = .running) :=
  ⟨⟨ask_asksFor _ _, rfl⟩, ⟨ask_asksFor _ _, rfl, rfl⟩, ⟨ask_asksFor _ _, rfl, rfl⟩, riserB_tablesSized _, rfl, rfl⟩

/-- Zone 5 is alone on riser 0, with levels in the latest render after the send. -/
theorem witness_FrameSendBuildsTheFrame :
    TablesSized (riserB framing) ∧ framing = (riserB framing).riser (0 : Fin 4) ∧ framing.state = .running ∧
      framing.phase ≠ .exchanging ∧ framing.newRender = false ∧
      (riserB framing).zone? 5 = some node ∧ node.riser = (0 : Fin 4).val ∧ node.node.live = true ∧ node.slot = 0 + 1 ∧
      (∀ y d, (riserB framing).zone? y = some d → d.riser = (0 : Fin 4).val → d.slot = 0 + 1 → y = 5) ∧
      node.isProtected = false ∧
      (∀ z c, (riserB framing).zone? z = some c → c.riser = (0 : Fin 4).val → c.slot = 1 + 1 → c.isProtected = true) :=
  ⟨riserB_tablesSized _, rfl, rfl, by decide, rfl, riserB_zone? _ 5, rfl, rfl, rfl, fun y d h _ _ => (riserB_only _ y d h).1,
    rfl, fun z c h _ e => by rw [(riserB_only _ z c h).2] at e; exact absurd e (by decide)⟩

/-- A frame that named slot 1. -/
def sentOne : Frame := ⟨255, .r50, 1, List.replicate 24 .noLevels⟩

theorem witness_TalliesNoticesAndRollCalls :
    (TablesSized (riserB { framing with lastFrame := some sentOne }) ∧
      ((riserB { framing with lastFrame := some sentOne }).riser (0 : Fin 4)).phase = .tally ∧
      ((riserB { framing with lastFrame := some sentOne }).riser (0 : Fin 4)).lastFrame = some sentOne ∧ sentOne.target ≠ 0 ∧
      sentOne.sequence < 256 ∧ (riserB { framing with lastFrame := some sentOne }).zoneAt (0 : Fin 4) 1 = some 5 ∧
      (riserB { framing with lastFrame := some sentOne }).zone? 5 = some node ∧ node.node.live = true ∧
      (4#8).getLsbD 2 = true ∧ node.tally.localOverride = false) ∧
    readTally sentOne.sequence [255, 0, 0, 0] = none ∧
    (framing = (riserB framing).riser (0 : Fin 4) ∧ framing.phase = .tally ∧ framing.queue.length < 6 ∧
      (∀ e ∈ framing.queue, e.kind ≠ .noticeRead) ∧ framing.rollCall = .idle ∧ 1 ≤ 24 ∧ 24 ≤ 24) ∧
    ({ framing with rollCall := .running, queue := [⟨.round, 0, 0⟩] } : Riser).rollCall = .running ∧
    (AsksFor (ask (.rollCall 0) (riserB framing)) (reqFor (.rollCall 0)) (.rollCall 0) ∧ TablesSized (riserB framing) ∧
      framing.state = .running) :=
  ⟨⟨riserB_tablesSized _, rfl, rfl, by decide, by decide, by decide +kernel, riserB_zone? _ 5, rfl, by decide, rfl⟩,
    by decide +kernel, ⟨rfl, rfl, by decide, by decide, rfl, by decide, by decide⟩, rfl, ask_asksFor _ _, riserB_tablesSized _,
    rfl⟩

/-- A riser with one exchange at the head of its queue, in a phase. -/
def serving (e : Exchange) (p : Phase) : Riser := { framing with queue := [e], phase := p }

theorem witness_DirectedExchangesAreServed :
    (framing.queue = [] ∧ framing = (riserB framing).riser (0 : Fin 4)) ∧
    (serving ⟨.noticeRead, 24, 0⟩ .noticed).queue = ⟨.noticeRead, 24, 0⟩ :: [] ∧
    (serving ⟨.setFallback ⟨1, 2, 3, 4⟩, 1, 0⟩ .tally).queue = ⟨.setFallback ⟨1, 2, 3, 4⟩, 1, 0⟩ :: [] ∧
    (serving ⟨.resetNode, 1, 0⟩ .tallied).queue = ⟨.resetNode, 1, 0⟩ :: [] ∧
    ((serving ⟨.setFallback ⟨1, 2, 3, 4⟩, 1, 2⟩ .exchanging).phase = .exchanging ∧
      serving ⟨.setFallback ⟨1, 2, 3, 4⟩, 1, 2⟩ .exchanging =
        (riserB (serving ⟨.setFallback ⟨1, 2, 3, 4⟩, 1, 2⟩ .exchanging)).riser (0 : Fin 4) ∧
      (⟨.setFallback ⟨1, 2, 3, 4⟩, 1, 2⟩ : Exchange).kind ≠ .round ∧
      (⟨.setFallback ⟨1, 2, 3, 4⟩, 1, 2⟩ : Exchange).kind ≠ .resetNode ∧ 2 ≤ 2 ∧ (⟨.noticeRead, 1, 1⟩ : Exchange).attempts < 2 ∧
      (riserB (serving ⟨.setFallback ⟨1, 2, 3, 4⟩, 1, 2⟩ .exchanging)).zoneAt (0 : Fin 4) 1 = some 5 ∧
      (riserB (serving ⟨.setFallback ⟨1, 2, 3, 4⟩, 1, 2⟩ .exchanging)).zone? 5 = some node ∧ 1 < 256) ∧
    ((serving ⟨.noticeRead, 1, 0⟩ .exchanging).phase = .exchanging ∧
      (riserB (serving ⟨.noticeRead, 1, 0⟩ .exchanging)).zoneAt (0 : Fin 4) 1 = some 5) :=
  ⟨⟨rfl, rfl⟩, rfl, rfl, rfl,
    ⟨rfl, rfl, by decide, by decide, by decide, by decide, by decide +kernel, riserB_zone? _ 5, by decide⟩, rfl,
    by decide +kernel⟩

/-- A riser whose round entry is at the head, at a stage and a phase. -/
def rounding (st : RoundStage) (p : Phase) : Riser :=
  { framing with state := .starting, rollCall := .running, round := st, queue := [⟨.round, 0, 2⟩], phase := p }

theorem witness_RoundsFindAWinner :
    (∀ st p, TablesSized (riserB (rounding st p)) ∧ rounding st p = (riserB (rounding st p)).riser (0 : Fin 4) ∧
      (rounding st p).queue = ⟨.round, 0, 2⟩ :: [] ∧ (rounding st p).phase = p ∧ (rounding st p).round = st) ∧
    (layoutOf 2 = some .mono ∧ classOf 1 = some .beacon ∧ (3 : Byte).toNat < 4 ∧ (15 : Byte).toNat < 16 ∧ ¬(2 < 2) ∧ 1 < 2) :=
  ⟨fun _ _ => ⟨riserB_tablesSized _, rfl, rfl, rfl, rfl⟩, by decide, by decide, by decide, by decide, by decide, by decide⟩

/-- An offer of an RGB node at 25 and 20 frames/s. -/
def slowOffer : Offer := ⟨.rgb, [.sparkle, .sweep], [.r20, .r25], .facade, 40112007318⟩

theorem witness_DecisionsAssignOrStandBy :
    (∀ st p, TablesSized (riserB (rounding st p)) ∧ (rounding st p).queue = ⟨.round, 0, 2⟩ :: []) ∧
    (rounding (.deciding 40112007318 (some slowOffer)) .noticed).phase = .noticed ∧
    (riserB (rounding (.deciding 7 (some slowOffer)) .tally)).expecting (0 : Fin 4) 7 = none ∧
    (riserB (rounding (.deciding 40112007318 (some slowOffer)) .tally)).expecting (0 : Fin 4) 40112007318 = some 5 ∧
    (∀ x, (riserB x).zone? 5 = some node) ∧ node.node ≠ .lost ∧ framing.policy = .keep ∧
    ({ framing with policy := .lower } : Riser).policy = .lower :=
  ⟨fun _ _ => ⟨riserB_tablesSized _, rfl⟩, rfl, by decide +kernel, by decide +kernel, fun x => riserB_zone? x 5, by decide, rfl,
    rfl⟩

/-- A new zone's body, carrying a serial. -/
def newZone : ZoneBody :=
  ⟨some 3, some 24, some 3, some 3, none, some (some 281474976710655), some true, none, none, none, none, false⟩

theorem witness_ZonesAreConfiguredAndCleared :
    (∀ f : RequestFields, ∀ b : Blocks, AsksFor (ask f b) (reqFor f) f) ∧
    (95 < 96 ∧ TablesSized resetBlocks ∧ resetBlocks.zone? 95 = none ∧ newZone.remove = false ∧ zoneBodyInRange newZone = true ∧
      newZone.riser = some 3 ∧ newZone.slot = some 24 ∧ newZone.face = some 3 ∧ newZone.feeder = some 3 ∧
      (newZone.isProtected = some true → ∀ k ∈ resetBlocks.bookings, 95 ∉ k.fields.zones) ∧
      (∀ m d, resetBlocks.zone? m = some d →
        ¬(d.riser = 3 ∧ d.slot = 24) ∧ ∀ v, newZone.serial = some (some v) → d.serial ≠ some v)) ∧
    (TablesSized (riserB framing) ∧ (riserB framing).zone? 5 = some node ∧ (riserB framing).collides 5 node = false ∧
      nodeBySerial node = node.node ∧ (∀ v, some 255 = some v → v ≤ 255) ∧ Capped 5000 ⟨5000, 0, 0, 0⟩ ∧
      Capped 1000 ⟨1000, 0, 0, 0⟩ ∧ node.riser < 4 ∧ node.node.live = true ∧ ((riserB framing).riser node.riser).queue.length < 6) ∧
    6 ≤ ({ framing with queue := List.replicate 6 ⟨.resetNode, 1, 0⟩ } : Riser).queue.length ∧
    ((oneZone 5 { node with node := .absent } resetBlocks).zone? 5 = some { node with node := .absent } ∧
      ({ node with node := .absent } : Zone).node.live = false ∧ ({ node with node := .absent } : Zone).node ≠ .refused) ∧
    (node.node ≠ .vacant ∧ node.node ≠ .absent ∧
      ∀ v o, node.serial = some v → ((riserB framing).riser node.riser).rollCall = .running →
        ((riserB framing).riser node.riser).round ≠ .offering v ∧ ((riserB framing).riser node.riser).round ≠ .deciding v o) :=
  ⟨fun _ _ => ask_asksFor _ _,
    ⟨by decide, reset_tablesSized, reset_zone? 95, rfl, by decide, rfl, rfl, rfl, rfl, fun _ => by decide,
      fun m d h => by rw [reset_zone?] at h; cases h⟩,
    ⟨riserB_tablesSized _, riserB_zone? _ 5, by decide +kernel, rfl, only_some (by decide), ⟨by decide, by decide, by decide,
      by decide⟩, ⟨by decide, by decide, by decide, by decide⟩, by decide, rfl, by decide⟩,
    by decide, ⟨oneZone_zone? 5 5 _ _ (by decide), rfl, by decide⟩, by decide, by decide, fun _ _ _ h => by cases h⟩

/-! ## Hypotheses met: bookings, windows and occurrences -/

/-- The blocks in which a Book of `sampleBody` passes its checks: program 3 is Ready and no booking is there. -/
def open_ (now : Option Int) : Blocks :=
  { booked 0 .held fields with bookings := [], time := { (clockAt 0).time with now := now } }

/-- The window of the booking on day 1, 20:00 to 22:00. -/
def window1 : Window := ⟨0, 72000000, 79200000, ⟨false, false⟩⟩

theorem sample_asks (b : Blocks) : Asks (askBytes 1 (encodeBookingBody sampleBody) b) (reqBytes 1 (encodeBookingBody sampleBody)) :=
  ⟨rfl, Nat.zero_lt_succ 3, by decide⟩

/-- The same with no slot free. -/
def fullTable : Blocks := { open_ none with bookings := List.replicate 256 { bookingIn .held with number := 18 } }

theorem witness_BookFillsASlot :
    bookFields sampleBody = some fields ∧
    (∀ b, Asks (askBytes 1 (encodeBookingBody sampleBody) b) (reqBytes 1 (encodeBookingBody sampleBody))) ∧
    ((reqBytes 1 (encodeBookingBody sampleBody)).kind = 1 ∧
      (reqBytes 1 (encodeBookingBody sampleBody)).body = .bytes (encodeBookingBody sampleBody) ∧ 17 = sampleBody.number.toNat ∧
      sampleBody.skipCount.toNat ≤ 4 ∧ 1 ≤ 17 ∧ 17 ≤ 65534) ∧
    (oneZone 5 { node with isProtected := true } (open_ none)).namesProtected fields.zones = true ∧
    (resetBlocks.namesProtected fields.zones = false ∧ (resetBlocks.program 3).isReady = false) ∧
    ((open_ none).namesProtected fields.zones = false ∧ ((open_ none).program fields.program).isReady = true) ∧
    (∃ k ∈ (booked 0 .held fields).bookings, k.number = 17) ∧
    (256 ≤ fullTable.bookings.length ∧ ∀ k ∈ fullTable.bookings, k.number ≠ 17) ∧
    ((∀ k ∈ (open_ none).bookings, k.number ≠ 17) ∧ (open_ none).bookings.length < 256 ∧ (open_ none).upcoming? 17 = none ∧
      (open_ none).active? 17 = none ∧ (open_ none).time.now = none ∧
      (open_ none).bookings.length + (open_ none).closedCount < 256) ∧
    ((open_ (some 71999999)).time.now = some 71999999 ∧
      search (open_ (some 71999999)).almanac (open_ (some 71999999)).time.base 71999999 fields none = ⟨.window window1, none, false⟩ ∧
      71999999 < window1.start) := by
  refine ⟨by decide +kernel, sample_asks, ⟨rfl, rfl, by decide, by decide, by decide, by decide⟩, by decide +kernel,
    ⟨by decide +kernel, by decide⟩, ⟨by decide +kernel, by decide⟩, ⟨_, List.mem_singleton_self _, rfl⟩, ?_,
    ⟨by decide, by decide, rfl, rfl, rfl, by decide⟩, rfl, by decide +kernel, by decide⟩
  exact ⟨by rw [fullTable, List.length_replicate], fun k h => by rw [List.eq_of_mem_replicate h]; decide⟩

/-- An Amend's bytes: a mask and the sample body. -/
def amendBytes (mask : BitVec 16) : List Byte := beBytes16 mask ++ encodeBookingBody sampleBody

theorem witness_AmendAndWithdrawAct :
    (∀ b, Asks (askBytes 2 (amendBytes 16) b) (reqBytes 2 (amendBytes 16))) ∧
    (∀ b, Asks (askBytes 2 (amendBytes 0x7FF) b) (reqBytes 2 (amendBytes 0x7FF))) ∧
    ((reqBytes 2 (amendBytes 16)).kind = 2 ∧ 17 = sampleBody.number.toNat ∧ 1 ≤ 17 ∧ 17 ≤ 65534 ∧
      ((0x7FF#16).getLsbD 2 = true → sampleBody.skipCount.toNat ≤ 4)) ∧
    ((booked 0 .retiring fields).booking? 17 = some (bookingIn .retiring) ∧ (bookingIn .retiring).state = .retiring) ∧
    ((bookingIn .held).state ≠ .retiring ∧ layFields 1 { sampleBody with tier := 5 } fields = none) ∧
    ({ booked 0 .held fields with time := resetTime }.booking? 17 = some (bookingIn .held) ∧
      layFields 0x7FF sampleBody fields = some fields ∧ (booked 0 .held fields).namesProtected fields.zones = false ∧
      ((booked 0 .held fields).program fields.program).isReady = true ∧ (booked 0 .held fields).upcoming? 17 = none ∧
      (booked 0 .held fields).active? 17 = none) ∧
    ((running 158401000 fields occurrence).active? 17 = some occurrence ∧ (bookingIn .running).state = .running ∧
      endOf sampleBody.endKind.toNat sampleBody.endValue = some (.duration 7200) ∧ exemptSuits fields = true ∧
      (running 158401000 fields occurrence).namesProtected fields.zones = false ∧
      endInstant (running 158401000 fields occurrence).almanac 1 158400000 (.duration 7200) = .ends 165600000 false ∧
      (∀ now, (running 158401000 fields occurrence).time.now = some now → now < 165600000) ∧
      (running 158401000 fields occurrence).time.now ≠ none) ∧
    (AsksFor (ask (.withdraw 17) (running 158401000 fields occurrence)) (reqFor (.withdraw 17)) (.withdraw 17) ∧
      (running 158401000 fields occurrence).booking? 17 = some (bookingIn .running)) ∧
    (AsksFor (ask (.withdraw 65534) resetBlocks) (reqFor (.withdraw 65534)) (.withdraw 65534) ∧
      resetBlocks.booking? 65534 = none) :=
  ⟨fun _ => ⟨rfl, Nat.zero_lt_succ 3, by decide⟩, fun _ => ⟨rfl, Nat.zero_lt_succ 3, by decide⟩,
    ⟨rfl, by decide, by decide, by decide, fun _ => by decide⟩, ⟨by decide, rfl⟩, ⟨by decide, by decide +kernel⟩,
    ⟨by decide, by decide +kernel, by decide +kernel, by decide, rfl, rfl⟩,
    ⟨rfl, rfl, by decide +kernel, by decide, by decide +kernel, by decide, only_some (by decide), by decide⟩,
    ⟨ask_asksFor _ _, by decide⟩, ask_asksFor _ _, rfl⟩

/-- A search that finds a window, one with none left, and one that stops for want of an almanac. -/
theorem witness_SearchFindsTheFirstWindow :
    (∀ e ∈ ([] : List AlmanacDay), e.sunset < 86400000 ∧ e.sunrise < 86400000) ∧ (72000000 < 86400000 ∧ (-720 : Int) ≤ 720) ∧
    (∀ d, fields.finish = .duration d → 1 ≤ d) ∧
    (search [] 0 71999999 fields none).found = .window window1 ∧ (search [] 0 71999999 fields none).skipped = false ∧
    (search [] 0 5662310399999 fields none).found = .noneLeft ∧
    (search [] 0 0 { fields with start := .sunset 720 } none).found = .stalled :=
  ⟨by decide, by decide, fun d h => by cases h; decide, by decide +kernel, by decide +kernel, by decide +kernel,
    by decide +kernel⟩

theorem witness_ResolutionPicksTheWinner :
    TablesSized (running 158401000 fields occurrence) ∧ 5 < 96 ∧ 5 ∈ fields.zones ∧
      (running 158401000 fields occurrence).panelHold = false ∧
      ({ running 158401000 fields occurrence with panelHold := true } : Blocks).panelHold = true ∧
      (running 158401000 fields occurrence).claimants 5 = [occurrence] :=
  ⟨⟨rfl, rfl, rfl, rfl, by decide, rfl, rfl, rfl, rfl⟩, by decide, by decide, rfl, rfl, by decide⟩

/-- Booking 17 Scheduled with its entry in the Upcoming List, as it stands at an instant. -/
def upcomingAt (now : Int) : Blocks := { booked now .scheduled fields with upcoming := [entry] }

theorem upcomingAt_tablesSized (now : Int) : TablesSized (upcomingAt now) := ⟨rfl, rfl, rfl, rfl, rfl, rfl, rfl, rfl, rfl⟩

theorem witness_OccurrencesArmStartAndEnd :
    (TablesSized (upcomingAt 158370000) ∧ (upcomingAt 158370000).upcoming? 17 = some entry ∧
      (upcomingAt 158370000).time.now = some 158370000 ∧
      entry.start - ((upcomingAt 158370000).armLead : Int) * 1000 ≤ 158370000 ∧ 158370000 < entry.start ∧ entry.armed = false) ∧
    (TablesSized (upcomingAt 158400000) ∧ (upcomingAt 158400000).upcoming = entry :: [] ∧ entry.start ≤ 158400000 ∧
      (upcomingAt 158400000).active.length < 32 ∧ (upcomingAt 158400000).booking? entry.number = some (bookingIn .scheduled) ∧
      fields.follow = none) ∧
    ({ fields with follow := some 500 }.follow = some 500 ∧ (upcomingAt 158400000).cue.state ≠ .locked ∧
      (cued .locked 3 occurrence).cue.state = .locked) ∧
    (TablesSized (running 165600000 fields occurrence) ∧ (running 165600000 fields occurrence).active? 17 = some occurrence ∧
      (running 165600000 fields occurrence).time.now = some 165600000 ∧ occurrence.finish ≤ 165600000 ∧
      ChangeKind.ended ∈ (running 165600000 fields occurrence).mask) :=
  ⟨⟨upcomingAt_tablesSized _, rfl, rfl, by decide, by decide, rfl⟩,
    ⟨upcomingAt_tablesSized _, rfl, by decide, by decide, by decide, rfl⟩, ⟨rfl, by decide, rfl⟩,
    ⟨rfl, rfl, rfl, rfl, by decide, rfl, rfl, rfl, rfl⟩, rfl, rfl, by decide, by decide⟩

/-! ## Hypotheses met: steps, settings and placements at the ends of their ranges -/

/-- The window of the booking on day 2, which the search finds once that of day 1 has gone by. -/
def window2 : Window := ⟨2, 244800000, 252000000, ⟨false, false⟩⟩

/-- A step that reaches no start, one that lands on the entry's end, one that lands on its start, and one that lands on the end of
the running occurrence. -/
theorem witness_DisciplineSlewsOrSteps_steps :
    (upcomingAt 158370000).time.now = some 158370000 ∧ (158370000 : Int) < 158399999 ∧
    ((∀ o ∈ (upcomingAt 158370000).active, 158399999 < o.finish) ∧ (∀ e ∈ (upcomingAt 158370000).upcoming, 158399999 < e.start) ∧
      ((upcomingAt 158370000).upcoming.map (fun e => e.number)).Nodup) ∧
    ((upcomingAt 158370000).upcoming = entry :: [] ∧ (upcomingAt 158370000).booking? 17 = some (bookingIn .scheduled) ∧
      entry.start ≤ 158400000 ∧ (158400000 : Int) < entry.finish ∧ (upcomingAt 158370000).active.length < 32 ∧
      entry.finish ≤ 165600000 ∧ search [] 0 165600000 fields (some 165600000) = ⟨.window window2, some 165600000, false⟩ ∧
      165600000 < window2.start) ∧
    (occurrence ∈ (running 158401000 fields occurrence).active ∧ occurrence.finish ≤ 165600000 ∧
      (∀ p ∈ (running 158401000 fields occurrence).active, p = occurrence) ∧
      (∀ e ∈ (running 158401000 fields occurrence).upcoming, 165600000 < e.start) ∧
      (running 158401000 fields occurrence).booking? 17 = some (bookingIn .running) ∧
      (running 158401000 fields occurrence).upcoming? 17 = none) := by
  decide +kernel

/-- Booking 17 Held, civil time not yet set. -/
def unset : Blocks := { booked 0 .held fields with time := resetTime }

/-- Slot 63 after a reset is Empty. -/
theorem slot63_not_loading : ∀ p, resetBlocks.program 63 ≠ .loading p := fun _ h => by
  have e : resetBlocks.program 63 = .empty := by decide +kernel
  rw [e] at h
  cases h

/-- A Held booking before the first setting, whose window starts 1 ms after it; and a batch whose head entry is due. -/
theorem witness_MarksSetNow_first :
    (unset.time.now = none ∧
      (unset.bookings.map (fun k => k.number)).Nodup ∧
      unset.upcoming = [] ∧
      (∀ k ∈ unset.bookings, k.state = .held ∧ k.boundary = none ∧ k.fields = fields) ∧
      search [] 0 71999999 fields none = ⟨.window window1, none, false⟩ ∧ 71999999 < window1.start) ∧
    ((upcomingAt 158400000).upcoming = entry :: [] ∧ (upcomingAt 158400000).time.now = some 158400000 ∧
      forEach [] (placeOnly true) (upcomingAt 158400000) = upcomingAt 158400000) := by
  decide +kernel

/-- Loads of 17 days, of day 65,536, of a sunset at 24:00, and one of day 2, on which a Sunset booking's entry is placed. -/
theorem witness_LoadAlmanacStoresTheDays_refusals :
    16 < ((List.range 17).map (fun d => (⟨d, 0, 0⟩ : AlmanacDay))).length ∧
    (∃ e ∈ [(⟨65536, 0, 0⟩ : AlmanacDay)], 65535 < e.day ∨ 86400000 ≤ e.sunset ∨ 86400000 ≤ e.sunrise) ∧
    (∃ e ∈ [(⟨5, 86400000, 0⟩ : AlmanacDay)], 65535 < e.day ∨ 86400000 ≤ e.sunset ∨ 86400000 ≤ e.sunrise) ∧
    (∃ x ∈ (upcomingAt 158370000).toStore [⟨2, 0, 0⟩], x.day = entry.day ∨ x.day = entry.day + 1) := by
  decide +kernel

theorem witness_FollowAgainTiesTheOccurrence_refusals :
    ((0 = 0 ∨ 65534 < 0) ∧ (65535 = 0 ∨ 65534 < 65535)) ∧ resetBlocks.booking? 65534 = none ∧
    ((running 158401000 fields occurrence).booking? 17 = some (bookingIn .running) ∧ fields.follow = none) := by
  decide +kernel

/-- Loads at and beyond the ends of their ranges, and steps that a load cannot take. -/
theorem witness_ProgramLoadsTakeSteps_refusals :
    (64 ≤ 64 ∧ 512 < 513 ∧ 999 < 1000 ∧ 21600000 < 21600001 ∧ ¬(1001 ≤ 1000)) ∧
    (16 < (List.replicate 17 (⟨0, 0, 255, .known (.static 0), ⟨0, 0, 0, 0⟩⟩ : StepBody)).length ∧
      (∀ p, resetBlocks.program 63 ≠ .loading p) ∧ loadedB.program 63 = .loading plainProgram ∧
      plainProgram.declared < plainProgram.steps.length + 1) :=
  ⟨by decide, by decide, slot63_not_loading, by decide +kernel, by decide⟩

theorem witness_ProgramCloseAndRemove_refusals :
    64 ≤ 64 ∧ (∀ p, resetBlocks.program 63 ≠ .loading p) ∧ resetBlocks.program 63 = .empty :=
  ⟨by decide, slot63_not_loading, by decide +kernel⟩

/-- Program 31 at its ends; a step reached at its own offset, with the step before it; and a role that no step has reached. -/
theorem witness_ChaseLightsItsBand_looks :
    (1 ≤ program31.length ∧ program31.endAction = .loop ∧ (0 : Int) ≤ 60000 ∧ (-1 : Int) < 0) ∧
    (program31.steps = program31.steps.take 1 ++ ⟨10000, 0, 127, .chase 8 3 4 .up, ⟨1000, 600, 0, 200⟩⟩ :: program31.steps.drop 2 ∧
      effectivePosition program31 10000 = 10000 ∧
      (∀ x ∈ program31.steps.drop 2, x.low ≤ 5 → 5 ≤ x.high → 10000 < x.offset) ∧
      effectKind (.chase 8 3 4 .up) ∉ [StepKind.sparkle] ∧ effectKind (.chase 8 3 4 .up) ∈ [StepKind.pulse, .chase] ∧
      program31.steps.take 1 = [] ++ ⟨0, 0, 255, .static 3000, ⟨0, 0, 800, 0⟩⟩ :: []) ∧
    (effectivePosition program31 0 = 0 ∧
      program31.steps = program31.steps.take 4 ++ ⟨45000, 0, 255, .sparkle 40, ⟨800, 800, 800, 800⟩⟩ :: []) ∧
    (∀ y ∈ [(⟨1, 0, 255, .static 0, ⟨0, 0, 0, 0⟩⟩ : Step)], y.low ≤ 5 → 5 ≤ y.high → 0 < y.offset) ∧
    (3000 ≤ 3000 ∧ 2999 < 3000 ∧ 500 % (500 + 1500) = 500 ∧ 499 % (500 + 1500) < 500) := by
  decide +kernel

/-- A handover at its start, at its last ms and at its end, in the node's layout and in another; and zone 5 Lit, Tripped and without
levels. -/
theorem witness_LayoutConversion_stages :
    ((⟨⟨1, 2, 3, 4⟩, .rgbw, 1000, 5⟩ : Handover).start ≤ 5 ∧ 1004 - 5 < 1000 ∧ 1000 ≤ 1005 - 5 ∧ Layout.rgbw ≠ .rgb) ∧
    (node.isProtected = false ∧ node.node.live = true ∧ (resetBlocks.feeder node.feeder).tripped = false ∧
      ({ resetBlocks with feeders := List.replicate 4 { resetFeeder with tripped := true } }.feeder node.feeder).tripped = true ∧
      NodeState.live .lost = false) := by
  decide +kernel

/-- Zone 5 under a render that has reached nothing, its handover at its length and 1 ms before it. -/
theorem witness_RenderCompletionKeepsBudgetAndCurfew_zones :
    freshFlight.nextZone = 0 ∧ freshFlight.results.length = 96 ∧ (flightB nightOpen).zone? 5 = some node ∧
    (0 + 5000 ≤ freshFlight.instant ∧ freshFlight.instant < 0 + 5001) ∧
    (flightB nightOpen).takenExempt ((freshFlight.holders[5]?).join) = false ∧
    5 ∉ freshFlight.rewritten ∧
    ({ freshFlight with handovers := List.replicate 96 (some ⟨⟨0, 0, 0, 0⟩, .rgb, 1000, 0⟩), rewritten := [5] } : Flight).handovers[5]? =
      some (some ⟨⟨0, 0, 0, 0⟩, .rgb, 1000, 0⟩) ∧ Layout.rgb ≠ node.layout := by
  decide +kernel

theorem witness_FacadeWideHandovers_look : ¬Capped 1000 ⟨0, 0, 0, 1001⟩ := fun h => absurd h.2.2.2 (by decide)

/-- A booking body at the ends of its ranges and beyond them, and the four other answers of the search. -/
theorem witness_BookFillsASlot_placements :
    ((bookFields sampleBody).isSome = true ∧ (bookFields { sampleBody with endValue := 64801 }).isSome = false ∧
      (bookFields { sampleBody with tier := 3, exempt := 1, endKind := 3, endValue := BitVec.ofInt 32 (-720) }).isSome = true) ∧
    ((4 < ({ sampleBody with skipCount := 5 } : BookingBody).skipCount.toNat) ∧
      ({ sampleBody with number := 65535 } : BookingBody).number.toNat = 65535) ∧
    (search [] 0 72000000 fields none = ⟨.window window1, none, false⟩ ∧ window1.start ≤ 72000000 ∧
      (open_ (some 72000000)).active.length < 32) ∧
    search [] 0 0 { fields with start := .sunset 720 } none = ⟨.stalled, none, false⟩ ∧
    search [] 0 5662310399999 fields none = ⟨.noneLeft, none, false⟩ ∧
    (ChangeKind.retired ∈ (open_ (some 0)).mask ∧ ChangeKind.retired ∉ ([] : List ChangeKind)) := by
  decide +kernel

/-- Amends of a Scheduled booking, and of a Running one: its tier, its Exempt in an open window, its Follow, an End at now, and an
End for which the almanac has no time. -/
theorem witness_AmendAndWithdrawAct_states :
    ((upcomingAt 158370000).active? 17 = none ∧ (bookingIn .scheduled).state = .scheduled ∧
      search [] 0 158370000 fields none = ⟨.window ⟨1, 158400000, 165600000, ⟨false, false⟩⟩, none, false⟩ ∧
      (158370000 : Int) < 158400000) ∧
    ((1 : BitVec 16).getLsbD 0 = true ∧ (1 : BitVec 16).getLsbD 4 = false ∧ (1 : BitVec 16).getLsbD 9 = false ∧
      layFields 1 { sampleBody with tier := 4 } fields = some { fields with tier := .solemn }) ∧
    (sampleBody.exempt = 0 ∧ ({ fields with exempt := true } : BookingFields).exempt = true ∧ nightOpen.chain.windowOpen = true) ∧
    (({ sampleBody with followFlag := 1, follow := 86399999 } : BookingBody).followFlag = 1 ∧ (86399999#32).toNat ≤ 86399999 ∧
      sampleBody.followFlag = 0) ∧
    (endInstant [] 1 158400000 (.duration 1) = .ends 158401000 false ∧ (158401000 : Int) ≤ 158401000 ∧
      endInstant [] 1 158400000 (.anchored (.sunrise 720)) = .noTime) ∧
    ((0 = 0 ∨ 65534 < 0) ∧ resetBlocks.booking? 65534 = none ∧ exemptSuits fields = true) := by
  decide +kernel

/-- Zone 5 has no holder and is claimed by booking 17's occurrence, which re-resolution makes its holder; the occurrence held no
zone before. -/
theorem witness_ResolutionPicksTheWinner_change :
    ((oneZone 5 node (running 158401000 fields occurrence)).holder? 5).map (fun h => h.id) ≠
      ((resolve [5] none (oneZone 5 node (running 158401000 fields occurrence))).holder? 5).map (fun h => h.id) ∧
    (oneZone 5 node (running 158401000 fields occurrence)).zone? 5 = some node ∧ node.isProtected = false ∧
    (resolve [5] none (oneZone 5 node (running 158401000 fields occurrence))).holder? 5 = some ⟨2, 17, .civic, 158400000⟩ ∧
    (oneZone 5 node (running 158401000 fields occurrence)).booking? 17 = some (bookingIn .running) ∧
    occurrence.held = 0 ∧ (none : Option Nat) ≠ some occurrence.id ∧ some 2 = some occurrence.id := by
  decide +kernel

/-- 32 occurrences of booking 18, of which the one of lowest tier is the victim, and an entry of booking 17 that is due. -/
def crowd (t : Tier) : Blocks :=
  { upcomingAt 158400001 with
    bookings := [bookingIn .scheduled, { bookingIn .running with number := 18 }]
    active := ⟨18, t, 1, 150000000, 165600000, 0, .unfollowed, 0, 100⟩ ::
      (List.range 31).map (fun i => ⟨18, .solemn, 1, 150000000, 165600000, 0, .unfollowed, 0, 101 + i⟩) }

/-- The crowd's victim is evicted by a Civic newcomer when it is of tier Showing, and not when it is of tier Civic. -/
theorem witness_OccurrencesArmStartAndEnd_full (t : Tier) (h : t = .showing ∨ t = .civic) :
    (crowd t).upcoming = entry :: [] ∧ (crowd t).time.now = some 158400001 ∧ entry.start ≤ 158400001 ∧ (crowd t).active.length = 32 ∧
    victim (crowd t).active = some ⟨18, t, 1, 150000000, 165600000, 0, .unfollowed, 0, 100⟩ ∧
    Tier.rank .showing < entry.tier.rank ∧ entry.tier.rank ≤ Tier.rank .civic ∧
    (crowd t).booking? 17 = some (bookingIn .scheduled) ∧
    (crowd t).booking? 18 = some { bookingIn .running with number := 18 } ∧ 18 ≠ entry.number ∧ (crowd t).upcoming? 18 = none ∧
    ((crowd t).active.map (fun p => p.id)).Nodup ∧ (crowd t).nextId ≠ 100 ∧
    search [] 0 158400001 fields (some 158400001) = ⟨.window window2, some 158400001, false⟩ ∧ 158400001 < window2.start ∧
    search [] 0 158400001 fields (some 165600000) = ⟨.window window2, some 165600000, false⟩ := by
  rcases h with rfl | rfl <;> decide +kernel

/-! ## Hypotheses met: the other refusals, and the clauses of risers, nodes, sensors and lines -/

/-- The first numbers that name no record, and a free booking number. -/
theorem witness_ReportsChangeNothing_refusals :
    ((0 = 0 ∨ 65534 < 0) ∧ (65535 = 0 ∨ 65534 < 65535) ∧ 64 ≤ 64 ∧ 96 ≤ 96 ∧ 4 ≤ 4) ∧ resetBlocks.booking? 65534 = none ∧
      95 < 96 ∧ 63 < 64 := by
  decide +kernel

theorem witness_ForecastRanksTheContenders_reach :
    (96 ≤ 96 ∧ 5662310399999 < 5662310400000) ∧
    ((clockAt 5).time.now = some 5 ∧ 34560000000 < ((34560000006 : Nat) : Int) - 5) ∧
    ((clockAt 34560000006).time.now = some 34560000006 ∧ 34560000000 < (34560000006 : Int) - (5 : Nat)) := by
  decide +kernel

theorem witness_FrameSendBuildsTheFrame_levels :
    node.layout = .rgbw ∧ (oneZone 5 node night).latestOf 5 = .levels ⟨500, 400, 300, 200⟩ .plain := by
  decide +kernel

/-- R151: a line still held at the first frame send faults again, with no zone aged and the sequence number as it was, for another
second; on a free line that send is taken at once (R140). -/
theorem test_first_send_on_a_held_line :
    let b := riserB { framing with state := .faulted, phase := .idle, sequence := 8 }
    ((beginFrames 0 true b).riser 0).state = .faulted ∧ ((beginFrames 0 true b).riser 0).sequence = 8 ∧
      ((beginFrames 0 true b).riser 0).retryFrom = some b.ownUs ∧ (beginFrames 0 true b).zone? 5 = some node ∧
      ((beginFrames 0 false b).riser 0).state = .starting ∧ ((beginFrames 0 false b).riser 0).sequence = 9 ∧
      (beginFrames 0 false b).zone? 5 = some { node with age := node.age + 1 } := by
  decide +kernel

/-- The fields of a Mark Time just beyond their ranges, and a Riser Reset of riser 4. -/
theorem witness_MarksSetNow_refusals :
    (65535 < 65536 ∧ 86400000 ≤ 86400000 ∧ (Code.unknown : Code MarkMode) = .unknown) ∧ 3 < 4 := by decide

/-- A taken holder whose booking 17 stands, one whose booking was another, and a program that is Ready and one that is not. -/
theorem witness_LayoutConversion_looks :
    ((booked 5 .running fields).booking? (⟨17, 9, 0⟩ : TakenHolder).number = some (bookingIn .running) ∧
      (bookingIn .running).uid = (⟨17, 9, 0⟩ : TakenHolder).uid ∧
      (bookingIn .running).uid ≠ (⟨17, 8, 0⟩ : TakenHolder).uid) ∧
    (booked 5 .running fields).program fields.program = .ready plainProgram ∧ resetBlocks.program 3 = .empty := by
  decide +kernel

theorem witness_TalliesNoticesAndRollCalls_refusals :
    4 ≤ 4 ∧ ((resetBlocks.riser 3).state ≠ .starting ∧ (resetBlocks.riser 3).state ≠ .running) ∧
      ((riserB { framing with rollCall := .running }).riser 0).state = .running ∧
      ((riserB { framing with rollCall := .running }).riser 0).rollCall = .running := by
  decide +kernel

/-- Replies that are not good, and a slot at which no zone stands. -/
theorem witness_DirectedExchangesAreServed_noZone :
    readNotice 1 [1] = none ∧ readFallback 1 [2, 2] = false ∧ (riserB framing).zoneAt (0 : Fin 4) 24 = none ∧ 24 < 256 ∧
      readOffer 7 [] = none := by
  decide +kernel

/-- Configure Zone and Clear Node at each of their checks. -/
theorem witness_ZonesAreConfiguredAndCleared_refusals :
    (zoneBodyCarries { newZone with remove := true } = true ∧ 96 ≤ 96 ∧
      zoneBodyInRange { newZone with slot := some 25 } = false ∧ zoneBodyInRange { newZone with slot := some 0 } = false ∧
      resetBlocks.zone? 95 = none ∧ ({ newZone with feeder := none } : ZoneBody).feeder = none) ∧
    ((riserB framing).zone? 5 = some node ∧ node.node ≠ .vacant ∧ node.node ≠ .absent ∧ (24 : Nat) ≠ node.slot) ∧
    (formZone newZone none ≠ none ∧ (oneZone 5 { node with riser := 3, slot := 24 } resetBlocks).zone? 5 =
      some { node with riser := 3, slot := 24 } ∧ 5 ≠ 95) ∧
    (∃ k ∈ (booked 0 .held fields).bookings, 5 ∈ k.fields.zones) ∧
    ((oneZone 5 { node with node := .absent } resetBlocks).collides 5 { node with node := .absent, serial := none } = false ∧
      ({ newZone with fallback := none } : ZoneBody).fallback = none) ∧
    (resetBlocks.zone? 5 = none ∧
      ((riserB { framing with rollCall := .running, round := .offering 40112007318 }).riser node.riser).round =
        .offering 40112007318 ∧ node.serial = some 40112007318) := by
  decide +kernel

/-- The fifteenth count of a face, an over count of 1 below the third, and a Tripped feeder. -/
theorem witness_ScansTakeSamples_counts :
    ((⟨1024, 30, 0, 15⟩ : Face).count = 15 ∧ (⟨1024, 30, 0, 14⟩ : Face).count < 15) ∧
    (((scanning { strained with overCount := 1 }).feeder 3).overCount < 2 ∧
      ((scanning { strained with overCount := 1 }).feeder 3).tripMark < ((1001#12).toNat + (1001#12).toNat) / 2) ∧
    ((scanning { strained with tripped := true }).feeder 3).tripped = true ∧
    ((scanning strained).feeder 3).closed = true := by
  decide +kernel

/-- Feeder 4, a budget of 1,000,001, a trip mark of 4,096, a command that does not suit its line, and a line returned to Schedule. -/
theorem witness_FeederCommands_lines :
    (4 ≤ 4 ∧ 1000000 < 1000001 ∧ 4095 < 4096) ∧
    ((OutputCommand.asserted = .asserted ∨ OutputCommand.asserted = .deasserted) ∧ resetBlocks.feeders.length = 4 ∧
      resetBlocks.deferral = none) ∧
    (({ resetFeeder with source := .operator, closed := true } : Feeder).source = .operator ∧
      ({ resetBlocks with feeders := List.replicate 4 { resetFeeder with source := .operator, closed := true } }.claimed 3) = false) ∧
    ((running 158401000 fields occurrence).active = [occurrence] ∧ 0 < occurrence.tier.rank ∧
      ∃ h ∈ (resolve [5] none (running 158401000 fields occurrence)).holding, h.holder.map (fun k => k.id) = some occurrence.id) := by
  decide +kernel

end Sys2Proof.Tests
end

/-! PROOFS. The look of a zone (R82 to R90): what each function of the Program Store's evaluation gives, and the obligation O35
put together from those facts. -/

namespace Sys2Proof.Machine

/-! ## The last element of a list that a test accepts -/

/-- A list split at an element that passes a test, with none after it that passes, keeps that element at the end of its filter. -/
theorem filter_split_at_last {α : Type} {f : α → Bool} {pre post : List α} {y : α} (hy : f y = true)
    (hpost : ∀ x ∈ post, ¬f x = true) : (pre ++ y :: post).filter f = pre.filter f ++ [y] := by
  rw [List.filter_append, List.filter_cons_of_pos hy, List.filter_eq_nil_iff.2 hpost]

theorem getLast?_filter_split_at_last {α : Type} {f : α → Bool} {pre post : List α} {y : α} (hy : f y = true)
    (hpost : ∀ x ∈ post, ¬f x = true) : ((pre ++ y :: post).filter f).getLast? = some y := by
  rw [filter_split_at_last hy hpost, List.getLast?_concat]

/-! ## The effective position (R82) -/

section
variable {p : ProgramData} {position : Int}

/-- Under Hold the position is clamped into the program. -/
theorem effectivePosition_hold (hend : p.endAction = .hold) :
    (effectivePosition p position : Int) = max 0 (min position p.length) := by
  simp only [effectivePosition, hend]
  split_ifs <;> omega

/-- Under Loop the position wraps at the length. -/
theorem effectivePosition_loop (hlength : 1 ≤ p.length) (hend : p.endAction = .loop) (hpos : 0 ≤ position) :
    (effectivePosition p position : Int) = position % p.length := by
  have hmod : 0 ≤ position % (p.length : Int) := Int.emod_nonneg _ (by omega)
  simp only [effectivePosition, hend, if_neg (not_lt.2 hpos), Int.toNat_of_nonneg hmod]

theorem effectivePosition_loop_of_neg (hend : p.endAction = .loop) (hpos : position < 0) :
    effectivePosition p position = 0 := by
  simp only [effectivePosition, hend, if_pos hpos]

end

/-! ## The steps that apply and the steps reached (R84) -/

/-- The test of a step's band that `ProgramData.applicable` makes. -/
def Step.appliesTo (role : Nat) (x : Step) : Bool := decide (x.low ≤ role ∧ role ≤ x.high)

/-- The two tests of `ProgramData.reached` in one. -/
def Step.reachedBy (role q : Nat) (x : Step) : Bool := decide (x.low ≤ role ∧ role ≤ x.high ∧ x.offset ≤ q)

theorem Step.appliesTo_iff {role : Nat} {x : Step} : x.appliesTo role = true ↔ x.low ≤ role ∧ role ≤ x.high :=
  decide_eq_true_iff

theorem Step.reachedBy_iff {role q : Nat} {x : Step} :
    x.reachedBy role q = true ↔ x.low ≤ role ∧ role ≤ x.high ∧ x.offset ≤ q :=
  decide_eq_true_iff

theorem Step.not_appliesTo_iff {role : Nat} {x : Step} :
    ¬x.appliesTo role = true ↔ (x.low ≤ role → x.high < role) := by
  rw [Step.appliesTo_iff, not_and, not_le]

theorem Step.not_reachedBy_iff {role q : Nat} {x : Step} :
    ¬x.reachedBy role q = true ↔ (x.low ≤ role → role ≤ x.high → q < x.offset) := by
  rw [Step.reachedBy_iff, not_and, not_and, not_le]

theorem ProgramData.applicable_eq_filter (p : ProgramData) (role : Nat) :
    p.applicable role = p.steps.filter (Step.appliesTo role) :=
  List.filter_congr fun _ _ => (Bool.decide_and ..).symm

theorem ProgramData.reached_eq_filter (p : ProgramData) (role q : Nat) :
    p.reached role q = p.steps.filter (Step.reachedBy role q) := by
  rw [ProgramData.reached, ProgramData.applicable, List.filter_filter]
  refine List.filter_congr fun x _ => ?_
  rw [Bool.eq_iff_iff]
  simp only [Bool.and_eq_true, decide_eq_true_iff, Step.reachedBy_iff]
  tauto

/-- No step is reached when every step that applies lies ahead. -/
theorem filter_reachedBy_eq_nil {l : List Step} {role q : Nat}
    (h : ∀ x ∈ l, x.low ≤ role → role ≤ x.high → q < x.offset) : l.filter (Step.reachedBy role q) = [] :=
  List.filter_eq_nil_iff.2 fun x hx => Step.not_reachedBy_iff.2 (h x hx)

/-- The current step stands last among the steps reached, after those reached before it in program order. -/
theorem ProgramData.reached_of_current {p : ProgramData} {role q : Nat} {pre post : List Step} {y : Step}
    (hsteps : p.steps = pre ++ y :: post) (hy : y.reachedBy role q = true)
    (hpost : ∀ x ∈ post, ¬x.reachedBy role q = true) :
    p.reached role q = pre.filter (Step.reachedBy role q) ++ [y] := by
  rw [ProgramData.reached_eq_filter, hsteps, filter_split_at_last hy hpost]

/-! ## The from-colour (R85) -/

section
variable {p : ProgramData} {role q : Nat} {before : List Step} {y : Step}

/-- The colour of the step reached last before the current one. -/
theorem fromColour_of_step_before {x : Step} (hreached : p.reached role q = before ++ [y]) (hlast : before.getLast? = some x) :
    fromColour p role q = x.colour := by
  simp only [fromColour, hreached, List.dropLast_concat, hlast]

/-- Dark under Hold, when the current step is the first reached. -/
theorem fromColour_hold_of_first (hreached : p.reached role q = [y]) (hend : p.endAction = .hold) :
    fromColour p role q = dark := by
  simp only [fromColour, hreached, List.dropLast_singleton, List.getLast?_nil, hend]

/-- Under Loop the colour of the program's last applicable step, when the current step is the first reached. -/
theorem fromColour_loop_of_first {z : Step} (hreached : p.reached role q = [y]) (hend : p.endAction = .loop)
    (hlast : (p.applicable role).getLast? = some z) : fromColour p role q = z.colour := by
  simp only [fromColour, hreached, List.dropLast_singleton, List.getLast?_nil, hend, hlast, Option.map_some, Option.getD_some]

end

/-! ## Substitution (R89, R90) -/

theorem available_eq_false_iff (permitted local_ : List StepKind) (k : StepKind) :
    available permitted local_ k = false ↔
      (k ∈ [StepKind.pulse, .chase] ∧ k ∉ permitted) ∨ (k ∈ [StepKind.sparkle, .sweep] ∧ k ∉ local_) := by
  cases k <;> simp [available]

theorem available_of_mem {permitted local_ : List StepKind} {k : StepKind}
    (hpermitted : k ∈ [StepKind.pulse, .chase] → k ∈ permitted) (hlocal : k ∈ [StepKind.sparkle, .sweep] → k ∈ local_) :
    available permitted local_ k = true := by
  rw [← Bool.not_eq_false, available_eq_false_iff]
  tauto

section
variable {p : ProgramData} {position : Int} {role : Nat} {permitted local_ barred : List StepKind} {before : List Step} {y : Step}

/-- R84: with no step reached the look is dark, and nothing is substituted. -/
theorem lookOf_of_none_reached (hreached : p.reached role (effectivePosition p position) = []) :
    lookOf p position role permitted local_ barred = darkLook := by
  simp only [lookOf, hreached, List.getLast?_nil]

theorem lookOf_substituted (hreached : p.reached role (effectivePosition p position) = before ++ [y])
    (h : effectKind y.effect ∈ barred ∨ available permitted local_ (effectKind y.effect) = false) :
    lookOf p position role permitted local_ barred = ⟨p.fallback, .plain⟩ := by
  simp only [lookOf, hreached, List.getLast?_concat]
  rcases h with hbarred | havailable
  · simp [hbarred]
  · simp [havailable]

theorem lookOf_current (hreached : p.reached role (effectivePosition p position) = before ++ [y])
    (hbarred : effectKind y.effect ∉ barred) (havailable : available permitted local_ (effectKind y.effect) = true) :
    lookOf p position role permitted local_ barred =
      renderStep y (fromColour p role (effectivePosition p position)) (effectivePosition p position - y.offset) role := by
  simp [lookOf, hreached, hbarred, havailable]

end

/-! ## The fade of a Static step (R85) -/

theorem mixLevels_of_le {t fade : Nat} (h : fade ≤ t) (a c : Levels) : mixLevels t fade a c = c := by
  simp only [mixLevels, mixLevel, if_neg (not_lt.2 h)]

/-- A fade stays between its two levels, and so never passes below 0. -/
theorem fade_nonneg {t fade : Nat} (h : t < fade) (a c : Nat) : 0 ≤ (a : Int) + Int.tdiv (((c : Int) - a) * t) fade := by
  have hnum : -(a : Int) * fade ≤ ((c : Int) - a) * t := by
    have hlate : (a : Int) * t ≤ a * fade := Int.mul_le_mul_of_nonneg_left (by omega) (by omega)
    have hrise : 0 ≤ (c : Int) * t := by positivity
    linarith
  have hquot : -(a : Int) ≤ Int.tdiv (((c : Int) - a) * t) fade := by
    calc -(a : Int) = Int.tdiv (-(a : Int) * fade) fade := (Int.mul_tdiv_cancel _ (by omega)).symm
      _ ≤ _ := Int.tdiv_le_tdiv (by omega) hnum
  omega

theorem mixLevel_of_lt {t fade : Nat} (h : t < fade) (a c : Nat) :
    (mixLevel t fade a c : Int) = a + Int.tdiv (((c : Int) - a) * t) fade := by
  rw [mixLevel, if_pos h, Int.toNat_of_nonneg (fade_nonneg h a c)]

/-- Each of the four levels of a fade is computed alike. -/
theorem mixLevels_of_lt {t fade : Nat} (h : t < fade) (a c : Levels) :
    ∀ g ∈ [Levels.r, Levels.g, Levels.b, Levels.w],
      (g (mixLevels t fade a c) : Int) = g a + Int.tdiv (((g c : Int) - g a) * t) fade := by
  simp only [List.forall_mem_cons, mixLevels, mixLevel_of_lt h, List.not_mem_nil, false_implies, implies_true, and_self]

/-! ## The band of a Chase (R87) -/

section
variable {period width speed t role : Nat}

theorem chaseLights_up_iff : chaseLights period width speed .up t role = true ↔
    ((role : Int) - (t * speed / 1000 % period : Nat)) % period < width :=
  decide_eq_true_iff

theorem chaseLights_down_iff : chaseLights period width speed .down t role = true ↔
    (((t * speed / 1000 % period : Nat) : Int) - role) % period < width :=
  decide_eq_true_iff

/-- Roles a period apart are alike: both bands are counted modulo the period. -/
theorem chaseLights_add_period (d : Direction) :
    chaseLights period width speed d t (role + period) = chaseLights period width speed d t role := by
  rw [Bool.eq_iff_iff]
  cases d with
  | up => rw [chaseLights_up_iff, chaseLights_up_iff, Nat.cast_add, add_sub_right_comm, Int.add_emod_right]
  | down => rw [chaseLights_down_iff, chaseLights_down_iff, Nat.cast_add, ← sub_sub, Int.sub_emod_right]

end

/-! ## The rendering of a step by its kind (R85 to R88) -/

section
variable (y : Step) (from_ : Levels) (t role : Nat)

theorem renderStep_static {fade : Nat} (he : y.effect = .static fade) :
    renderStep y from_ t role = ⟨mixLevels t fade from_ y.colour, .plain⟩ := by
  simp only [renderStep, he]

theorem renderStep_pulse {on off : Nat} (he : y.effect = .pulse on off) :
    renderStep y from_ t role = if t % (on + off) < on then ⟨y.colour, .plain⟩ else darkLook := by
  simp only [renderStep, he]

theorem renderStep_chase {period width speed : Nat} {d : Direction} (he : y.effect = .chase period width speed d) :
    renderStep y from_ t role = if chaseLights period width speed d t role then ⟨y.colour, .plain⟩ else darkLook := by
  simp only [renderStep, he]

theorem renderStep_sparkle {density : Nat} (he : y.effect = .sparkle density) :
    renderStep y from_ t role = ⟨y.colour, .sparkle density⟩ := by
  simp only [renderStep, he]

theorem renderStep_sweep {cycle : Nat} (he : y.effect = .sweep cycle) :
    renderStep y from_ t role = ⟨y.colour, .sweep cycle⟩ := by
  simp only [renderStep, he]

end

/-! ## O35 -/

/-- Settles O35: the position by its end action, the current step by where the steps reached end, and each kind by its
equation. -/
theorem chaseLightsItsBand : Obligations.ChaseLightsItsBand := by
  unfold Obligations.ChaseLightsItsBand
  refine ⟨fun p position hlength => ⟨effectivePosition_hold, effectivePosition_loop hlength, effectivePosition_loop_of_neg⟩,
    ?looks, ?steps, ?chase⟩
  case looks =>
    rintro p position role q permitted local_ barred rfl
    refine ⟨fun hahead => lookOf_of_none_reached ?_, ?_⟩
    · rw [ProgramData.reached_eq_filter, filter_reachedBy_eq_nil hahead]
    rintro pre post y k hsteps hlow hhigh hat hpost rfl
    have hreached := ProgramData.reached_of_current hsteps (Step.reachedBy_iff.2 ⟨hlow, hhigh, hat⟩)
      fun x hx => Step.not_reachedBy_iff.2 (hpost x hx)
    refine ⟨fun hsub => lookOf_substituted hreached (hsub.imp_right (available_eq_false_iff ..).2),
      fun hbarred hpermitted hlocal => ⟨lookOf_current hreached hbarred (available_of_mem hpermitted hlocal), ?_, ?_⟩⟩
    · rintro pre' x mid rfl hlow' hhigh' hat' hmid
      exact fromColour_of_step_before hreached (getLast?_filter_split_at_last (Step.reachedBy_iff.2 ⟨hlow', hhigh', hat'⟩)
        fun m hm => Step.not_reachedBy_iff.2 (hmid m hm))
    · intro hpre
      rw [filter_reachedBy_eq_nil hpre, List.nil_append] at hreached
      refine ⟨fromColour_hold_of_first hreached, fun hend pre' z post' hz hlow' hhigh' hpost' =>
        fromColour_loop_of_first hreached hend ?_⟩
      rw [ProgramData.applicable_eq_filter, hz]
      exact getLast?_filter_split_at_last (Step.appliesTo_iff.2 ⟨hlow', hhigh'⟩)
        fun x hx => Step.not_appliesTo_iff.2 (hpost' x hx)
  case steps =>
    intro at_ low high t role colour from_ look
    refine ⟨fun fade h => ?_, fun fade h => ?_, fun on off h => ?_, fun on off h => ?_,
      fun density => renderStep_sparkle _ _ _ _ rfl, fun cycle => renderStep_sweep _ _ _ _ rfl⟩
    · rw [show look (.static fade) = _ from renderStep_static _ _ _ _ rfl, mixLevels_of_le h]
    · rw [show look (.static fade) = _ from renderStep_static _ _ _ _ rfl]
      exact ⟨rfl, mixLevels_of_lt h from_ colour⟩
    · exact (renderStep_pulse _ _ _ _ rfl).trans (if_pos h)
    · exact (renderStep_pulse _ _ _ _ rfl).trans (if_neg (not_lt.2 h))
  case chase =>
    intro at_ low high period width speed q role colour from_ _ _ h look
    have hlook : ∀ d r, look d r = if chaseLights period width speed d (q - at_) r then ⟨colour, .plain⟩ else darkLook :=
      fun d r => renderStep_chase _ _ _ _ rfl
    refine ⟨fun hin => ?_, fun hout => ?_, fun hin => ?_, fun hout => ?_, fun d => ?_⟩
    · exact (hlook .up role).trans (if_pos (chaseLights_up_iff.2 hin))
    · exact (hlook .up role).trans (if_neg (chaseLights_up_iff.not.2 hout))
    · exact (hlook .down role).trans (if_pos (chaseLights_down_iff.2 hin))
    · exact (hlook .down role).trans (if_neg (chaseLights_down_iff.not.2 hout))
    · rw [hlook, hlook, chaseLights_add_period]

end Sys2Proof.Machine

/-! PROOFS. The calendar base (R121): Set Calendar Base on both sides of its range, the weekday of day 0, and the Time Base, the
base with it, through a Restart Schedule. -/

namespace Sys2Proof.Machine

/-! ## Set Calendar Base (R121) and the weekday of day 0 (R26) -/

theorem setCalendarBase_of_le {base : Nat} (h : base ≤ 6) (b : Blocks) :
    setCalendarBase base b = ({ b with time := { b.time with base := base } }, okWith (.calendarBase base)) :=
  if_neg (not_lt.2 h)

theorem setCalendarBase_of_lt {base : Nat} (h : 6 < base) (b : Blocks) :
    setCalendarBase base b = (b, refuse .outOfRange) :=
  if_pos h

theorem weekday_zero {base : Nat} (h : base ≤ 6) : weekday base 0 = base :=
  Nat.mod_eq_of_lt (Nat.lt_succ_of_le h)

/-! ## The Time Base through a Restart Schedule (R184) -/

/-- No operation of the Occurrence Engine writes the Time Base. -/
theorem TouchesEngine.time {a b : Blocks} (h : TouchesEngine a b) : b.time = a.time := by
  rw [h]

theorem restartOccurrence_touches (o : Occurrence) (b : Blocks) : TouchesEngine b (restartOccurrence o b) := by
  have hdrop : TouchesEngine b (dropRecord o b) := rfl
  have houtcome : ∀ c : Blocks, TouchesEngine c (recordOutcome o.number .restarted c) := fun _ => rfl
  exact hdrop.trans ((resolve_touches _ _ _).engine.trans ((houtcome _).trans (submit_touches _ _ _ _)))

theorem restartPlace_touches (b : Blocks) : TouchesEngine b (restartPlace b) := by
  have hends := forEach_rel TouchesEngine.refl TouchesEngine.trans restartOccurrence_touches b.active b
  have hclear : ∀ c : Blocks, TouchesEngine c (clearBoundaries c) := fun _ => rfl
  exact hends.trans ((hclear _).trans
    ((forEach_rel TouchesEngine.refl TouchesEngine.trans removeEntry_touches _ _).trans (placeBatch_touches _ _ _)))

theorem restartHandovers_touches (b : Blocks) : TouchesHolding b (restartHandovers b) :=
  forEach_rel TouchesHolding.refl TouchesHolding.trans (fun z c => startHandover_touches z _ c) _ b

theorem endDeferral_touches (b : Blocks) : TouchesHolding b (endDeferral b) := by
  have hdefer : TouchesHolding b { b with deferral := none } := rfl
  have hfeeders := forEach_rel TouchesFeeders.refl TouchesFeeders.trans evaluateFeeder_touches
    (b.deferral.getD []) { b with deferral := none }
  exact hdefer.trans (hfeeders.holding.trans (reevaluateShowLive_touches _))

/-- R184: a Restart Schedule keeps the Time Base, the calendar base with it. -/
@[simp] theorem restartSchedule_time (b : Blocks) : (restartSchedule b).1.time = b.time :=
  calc (restartSchedule b).1.time
      _ = (restartPlace (restartBegin b)).time :=
        ((restartHandovers_touches _).trans (endDeferral_touches _)).engine.time
      _ = (restartBegin b).time := (restartPlace_touches _).time
      _ = b.time := rfl

/-! ## The row RESTART_SCHEDULE in every state -/

/-- What a block's service keeps of the blocks whatever the body, its row keeps, served or not. -/
theorem serve_keeps {α : Type} (part : Blocks → α) (k : Nat) {block : RequestBody → Blocks → Blocks × Answer}
    (h : ∀ body b, part (block body b).1 = part b) (s : State) : part (serve k block s).blocks = part s.blocks := by
  obtain hidle | ⟨r, -, -, hserved⟩ := serve_cases k block s
  · rw [hidle]
  · rw [hserved]
    exact h r.body s.blocks

/-- A service of fields refuses every other body and changes nothing, so only its block's own effect counts. -/
theorem onFields_keeps {α : Type} (part : Blocks → α) {block : RequestFields → Blocks → Blocks × Answer}
    (h : ∀ f b, part (block f b).1 = part b) (body : RequestBody) (b : Blocks) : part (onFields block body b).1 = part b := by
  cases body with
  | fields f => exact h f b
  | bytes l => rfl
  | other => rfl

theorem exec_restartSchedule_time {s t : State} (h : exec .restartSchedule s = .next t) : t.blocks.time = s.blocks.time := by
  cases h
  refine serve_keeps Blocks.time 36 (onFields_keeps Blocks.time fun f b => ?_) s
  split
  · exact restartSchedule_time b
  · rfl

/-! ## O22 -/

/-- Settles O22: the request by the side of the range its base is on, and the two resets by what they do to the Time Base. -/
theorem setCalendarBaseStoresTheBase : Obligations.SetCalendarBaseStoresTheBase := by
  unfold Obligations.SetCalendarBaseStoresTheBase
  refine ⟨fun s r base hasks hle => ?stored, fun s r base hasks hlt => ?refused, fun _ => weekday_zero,
    fun s t hreset => ?reset, fun s t hrestart => ?restart⟩
  case stored => rw [exec_setCalendarBase hasks, setCalendarBase_of_le hle]
  case refused => rw [exec_setCalendarBase hasks, setCalendarBase_of_lt hlt]
  case reset => cases hreset; rfl
  case restart => rw [exec_restartSchedule_time hrestart]

end Sys2Proof.Machine

/-! PROOFS. Read Channel (R166): its two outcomes in every state, and the notices of a sensor scan, which reports a change only
where it trips a feeder (R168). -/

namespace Sys2Proof.Machine

/-! ## Read Channel (R166) -/

theorem channel_of_getElem? {b : Blocks} {c : Nat} {ch : Channel} (h : b.scan.channels[c]? = some ch) : b.channel c = ch := by
  unfold Blocks.channel
  rw [List.getD_eq_getElem?_getD, h, Option.getD_some]

theorem readChannel_of_le {b : Blocks} {c : Nat} {ch : Channel} (hc : c ≤ 7) (h : b.scan.channels[c]? = some ch) :
    readChannel c b = (b, okWith (.channel ch.latest ch.age b.scan.calibrating)) := by
  rw [readChannel, if_neg (not_lt.2 hc), channel_of_getElem? h]

theorem readChannel_of_lt {c : Nat} (hc : 7 < c) (b : Blocks) : readChannel c b = (b, refuse .outOfRange) :=
  if_pos hc

/-! ## What a trip writes (R168) -/

@[simp] theorem ambientSample_notices (f code : Nat) (b : Blocks) : (ambientSample f code b).notices = b.notices := rfl

@[simp] theorem darkenZone_feeders (z : Nat) (b : Blocks) : (darkenZone z b).feeders = b.feeders := by
  unfold darkenZone
  split <;> rfl

@[simp] theorem darkenFeeder_feeders (f : Nat) (b : Blocks) : (darkenFeeder f b).feeders = b.feeders :=
  forEach_keeps (P := fun c => c.feeders = b.feeders) (fun z c hc => (darkenZone_feeders z c).trans hc) _ b rfl

/-- A contactor's move leaves its feeder Tripped or Normal as it was. -/
theorem setContactor_tripped {f : Nat} {b : Blocks} (closed : Bool) (hf : f < b.feeders.length) :
    ((setContactor f closed b).feeder f).tripped = (b.feeder f).tripped := by
  unfold setContactor
  split
  · rfl
  · rw [feeder_congr (report_feeders _ _ _), updateFeeder_feeder_self b f _ hf]

theorem tripFeeder_tripped {f : Nat} {b : Blocks} (hf : f < b.feeders.length) : ((tripFeeder f b).feeder f).tripped = true := by
  unfold tripFeeder
  rw [feeder_congr ((darkenFeeder_feeders f _).trans (report_feeders _ _ _)), setContactor_tripped false (by simpa using hf),
    updateFeeder_feeder_self b f _ hf]

/-! ## What a sample can do (R165, R168) -/

/-- A feeder's over count with one more sample (R168). -/
def overCountAfter (f code : Nat) (b : Blocks) : Nat :=
  if (b.feeder f).tripMark < code then (b.feeder f).overCount + 1 else 0

/-- The blocks with that count stored. -/
def countSample (f code : Nat) (b : Blocks) : Blocks :=
  b.updateFeeder f (fun x => { x with overCount := overCountAfter f code b })

/-- All that a current sample can do: nothing on a Tripped feeder, count on a Normal one, and trip it at the third over the mark. -/
theorem currentSample_cases (f code : Nat) (b : Blocks) :
    ((b.feeder f).tripped = true ∧ currentSample f code b = b) ∨
      ((b.feeder f).tripped = false ∧ overCountAfter f code b < 3 ∧ currentSample f code b = countSample f code b) ∨
      ((b.feeder f).tripped = false ∧ 3 ≤ overCountAfter f code b ∧
        currentSample f code b = tripFeeder f (countSample f code b)) := by
  by_cases htripped : (b.feeder f).tripped = true
  · exact .inl ⟨htripped, if_pos htripped⟩
  · have hnormal := Bool.eq_false_iff.2 htripped
    by_cases hthird : 3 ≤ overCountAfter f code b
    · exact .inr (.inr ⟨hnormal, hthird, (if_neg htripped).trans (if_pos hthird)⟩)
    · exact .inr (.inl ⟨hnormal, not_le.1 hthird, (if_neg htripped).trans (if_neg hthird)⟩)

/-- A current sample that does not trip its feeder reports nothing. -/
theorem currentSample_notices {f code : Nat} {b : Blocks} (hf : f < b.feeders.length)
    (hsame : ((currentSample f code b).feeder f).tripped = (b.feeder f).tripped) :
    (currentSample f code b).notices = b.notices := by
  obtain ⟨-, hkept⟩ | ⟨-, -, hcounted⟩ | ⟨hnormal, -, htrips⟩ := currentSample_cases f code b
  · rw [hkept]
  · rw [hcounted, countSample, updateFeeder_notices]
  · have htripped : ((currentSample f code b).feeder f).tripped = true := by
      rw [htrips]
      exact tripFeeder_tripped (by simpa [countSample] using hf)
    rw [htripped, hnormal] at hsame
    cases hsame

/-- The blocks at a channel's due scan, with a record stored for the channel and its next scan set (R165). -/
def storeScan (c : Nat) (latest : Option Nat) (age : Nat) (b : Blocks) : Blocks :=
  let due := b.advanceTo (b.channel c).nextScan
  due.setChannel c ⟨latest, age, due.ownUs + Config.scanUs⟩

@[simp] theorem storeScan_feeders (c : Nat) (l : Option Nat) (a : Nat) (b : Blocks) : (storeScan c l a b).feeders = b.feeders := rfl
@[simp] theorem storeScan_notices (c : Nat) (l : Option Nat) (a : Nat) (b : Blocks) : (storeScan c l a b).notices = b.notices := rfl

/-- All that a scan can do: nothing under calibration, age the channel where the conversions differ too much, and else store the
sample and hand it to the channel's face or feeder. -/
theorem scanChannel_cases (c x y : Nat) (b : Blocks) :
    (b.scan.calibrating = true ∧ scanChannel c x y b = b) ∨
      (b.scan.calibrating = false ∧ Config.conversionSpread < conversionDiff x y ∧
        scanChannel c x y b = storeScan c (b.channel c).latest (min 255 ((b.channel c).age + 1)) b) ∨
      (b.scan.calibrating = false ∧ conversionDiff x y ≤ Config.conversionSpread ∧ c < 4 ∧
        scanChannel c x y b = ambientSample c ((x + y) / 2) (storeScan c (some ((x + y) / 2)) 0 b)) ∨
      (b.scan.calibrating = false ∧ conversionDiff x y ≤ Config.conversionSpread ∧ 4 ≤ c ∧
        scanChannel c x y b = currentSample (c - 4) ((x + y) / 2) (storeScan c (some ((x + y) / 2)) 0 b)) := by
  by_cases hcal : b.scan.calibrating = true
  · exact .inl ⟨hcal, if_pos hcal⟩
  · have hscans := Bool.eq_false_iff.2 hcal
    by_cases htaken : conversionDiff x y ≤ Config.conversionSpread
    · by_cases hambient : c < 4
      · exact .inr (.inr (.inl ⟨hscans, htaken, hambient, (if_neg hcal).trans ((if_pos htaken).trans (if_pos hambient))⟩))
      · exact .inr (.inr (.inr ⟨hscans, htaken, not_lt.1 hambient, (if_neg hcal).trans ((if_pos htaken).trans (if_neg hambient))⟩))
    · exact .inr (.inl ⟨hscans, not_le.1 htaken, (if_neg hcal).trans (if_neg htaken)⟩)

/-- A scan that does not trip the channel's feeder reports nothing. -/
theorem scanChannel_notices {c x y : Nat} {b : Blocks} (hf : c - 4 < b.feeders.length)
    (hsame : 4 ≤ c → ((scanChannel c x y b).feeder (c - 4)).tripped = (b.feeder (c - 4)).tripped) :
    (scanChannel c x y b).notices = b.notices := by
  obtain ⟨-, hidle⟩ | ⟨-, -, haged⟩ | ⟨-, -, -, hambient⟩ | ⟨-, -, hfour, hcurrent⟩ := scanChannel_cases c x y b
  · rw [hidle]
  · rw [haged, storeScan_notices]
  · rw [hambient, ambientSample_notices, storeScan_notices]
  · have hkept := hsame hfour
    rw [hcurrent] at hkept ⊢
    exact currentSample_notices (b := storeScan c _ _ b) hf hkept

/-! ## O57 -/

/-- Settles O57: the request by the side of the range its channel is on, with the invariant of calibration for the missing code, and
a scan's silence by what a scan can do. -/
theorem readChannelShowsTheChannel : Obligations.ReadChannelShowsTheChannel := by
  unfold Obligations.ReadChannelShowsTheChannel
  have hshown : ∀ (s : State) (r : Request) (c : Nat) (ch : Channel), AsksFor s r (.readChannel c) →
      s.blocks.scan.channels[c]? = some ch → c ≤ 7 →
      exec .readChannel s = .next (replied s r s.blocks (okWith (.channel ch.latest ch.age s.blocks.scan.calibrating))) := by
    intro s r c ch hasks hch hle
    rw [exec_readChannel hasks, readChannel_of_le hle hch]
  refine ⟨hshown, fun s r c ch hasks hch hle hinv hcal => ?calibrating, fun s r c hasks hlt => ?refused,
    fun s t c x y hsized hscan hsame => ?silent⟩
  case calibrating =>
    have hnone : ch.latest = none := hinv hcal ch (List.mem_of_getElem? hch)
    rw [hshown s r c ch hasks hch hle, hnone, hcal]
  case refused => rw [exec_readChannel hasks, readChannel_of_lt hlt]
  case silent =>
    obtain ⟨-, -, -, hfeeders, -⟩ := hsized
    cases hscan
    exact scanChannel_notices (by omega) hsame

end Sys2Proof.Machine

/-! PROOFS. The attention line (R183): asserted exactly while the reply queue or the Notice List holds something, and so deasserted
by a full reset (R47), which empties both. -/

namespace Sys2Proof.Machine

/-! ## The attention line (R183) -/

theorem attention_eq_true_iff {s : State} : attention s = true ↔ s.port.replies ≠ [] ∨ s.blocks.notices ≠ [] := by
  rw [attention, Bool.or_eq_true, Bool.not_eq_true', Bool.not_eq_true', List.isEmpty_eq_false_iff, List.isEmpty_eq_false_iff]

theorem attention_eq_false_iff {s : State} : attention s = false ↔ s.port.replies = [] ∧ s.blocks.notices = [] := by
  rw [← Bool.not_eq_true, attention_eq_true_iff, not_or, not_ne_iff, not_ne_iff]

/-! ## A full reset (R47) -/

theorem exec_fullReset (s : State) : exec .fullReset s = .next { State.reset with pending := s.pending } := rfl

/-- Both queues that the attention line follows are empty after a full reset. -/
theorem exec_fullReset_queues {s t : State} (h : exec .fullReset s = .next t) : t.port.replies = [] ∧ t.blocks.notices = [] := by
  rw [exec_fullReset] at h
  cases h
  exact ⟨rfl, rfl⟩

/-! ## O7 -/

/-- Settles O7: the line by the two queues it follows, and the full reset by its emptying both. -/
theorem attentionFollowsTheQueues : Obligations.AttentionFollowsTheQueues := by
  unfold Obligations.AttentionFollowsTheQueues
  refine ⟨fun _ => attention_eq_true_iff, fun _ => attention_eq_false_iff, fun s t hreset => ?reset⟩
  case reset =>
    obtain ⟨hreplies, hnotices⟩ := exec_fullReset_queues hreset
    exact ⟨hreplies, hnotices, attention_eq_false_iff.2 ⟨hreplies, hnotices⟩⟩

end Sys2Proof.Machine

/-! PROOFS. The rows of the opcode table sorted by what they are: an event acts on the blocks alone (`eventEffect`), a request's row is
the service of the head request (`service`), and seven rows are the port's own. What every row keeps is proved from these. -/

namespace Sys2Proof.Machine

/-! ## The rows of events -/

/-- What an event's row does to the blocks; a row of a request or of the port's own does nothing here. -/
def eventEffect : Instr → Blocks → Blocks
  | .entryArmed number => reachLead number
  | .occurrenceStart => reachStart
  | .occurrenceEnd number => reachEnd number
  | .panelHoldAssertion => assertPanelHold
  | .panelHoldRelease => releasePanelHold
  | .renderStart => fun b => if b.chain.flight.isNone then startRender b else b
  | .renderTimerExpiryLost => fun b => if b.chain.flight.isSome then expireRenderTimer b else b
  | .renderCompletion => completeRender
  | .curfewOpening => fun b => if b.windowDue && !b.chain.windowOpen then openWindow b else b
  | .curfewClosing => fun b => if !b.windowDue && b.chain.windowOpen then closeWindow b else b
  | .civilTick => regularTick
  | .midnight => takeMidnight
  | .pulseEdge elapsed => fun b => takeEdge (b.advanceTo (b.ownUs + elapsed))
  | .holdoverTimeout => holdoverTimeout
  | .edgeCounterSaturation => edgeSaturation
  | .pendingMarkExpiry => pendingExpiry
  | .cueWord checked time running => cueWord checked time running
  | .silenceTimeout => silenceTimeout
  | .frameSend riser => nextFrame riser.val
  | .tallyReply riser reply => tallyReply riser.val reply
  | .noticeWindow riser contender => noticeWindow riser.val contender
  | .directedWindow riser winner => directedWindow riser.val winner
  | .directedAttemptFailed riser => attemptFailed riser.val
  | .noticeRead riser reply => noticeReply riser.val reply
  | .setFallback riser reply => fallbackReply riser.val reply
  | .offer riser reply => offerReply riser.val reply
  | .offerMissingOrNotGood riser => offerFailed riser.val
  | .lineFault riser => lineFault riser.val
  | .retryTimerExpiry riser => retryExpiry riser.val
  | .calibrationEnd => endCalibration
  | .sensorScan channel first second => scanChannel channel.val first.toNat second.toNat
  | .idleTimerExpiry feeder => idleExpiry feeder.val
  | _ => id

theorem exec_event {c : Instr} (hrequest : requestKind c = none) (hport : actsOnPort c = false) (s : State) :
    exec c s = .next (s.mapBlocks (eventEffect c)) := by
  cases c <;> first | rfl | simp [actsOnPort, requestKind] at hport hrequest

/-! ## The rows of requests -/

/-- A block's answer to a request of fields. -/
def fieldsService : RequestFields → Blocks → Blocks × Answer
  | .withdraw n => withdraw n
  | .lookUp n => lookUp n
  | .listUpcoming start n => listUpcoming start n
  | .forecast t z => forecast t z
  | .programOpen n steps length ea fallback => programOpen n steps length ea fallback
  | .programSteps n steps => programSteps n steps
  | .programClose n => programClose n
  | .programRemove n => programRemove n
  | .programReport n => programReport n
  | .configureZone z body => configureZone z body
  | .clearNode z => clearNode z
  | .zoneReport z => zoneReport z
  | .configureRiser r body => configureRiser r body
  | .riserReset r => riserReset r
  | .rollCall r => rollCall r
  | .riserReport r => riserReport r
  | .markTime day tod mode => markTime day tod mode
  | .setCalendarBase base => setCalendarBase base
  | .timeReport => timeReport
  | .loadAlmanac days => loadAlmanac days
  | .followAgain n => followAgain n
  | .cueReport => fun b => (b, okWith (.cue b.cueView))
  | .setCurfew body => setCurfew body
  | .setAmbient body => setAmbient body
  | .setHoldLook look => setHoldLook look
  | .configureSchedule lead handover => configureSchedule lead handover
  | .chainReport => fun b => (b, okWith (.chain b.chainView))
  | .configureFeeder f budget mark => configureFeeder f budget mark
  | .setOutput line source command => setOutput line source command
  | .recloseFeeder f => recloseFeeder f
  | .feederReport f => feederReport f
  | .readChannel c => readChannel c
  | .setNoticeMask kinds => setNoticeMask kinds
  | .restartSchedule => restartSchedule

/-- The row that takes a request of fields. -/
def rowOf : RequestFields → Instr
  | .withdraw .. => .withdraw
  | .lookUp .. => .lookUp
  | .listUpcoming .. => .listUpcoming
  | .forecast .. => .forecast
  | .programOpen .. => .programOpen
  | .programSteps .. => .programSteps
  | .programClose .. => .programClose
  | .programRemove .. => .programRemove
  | .programReport .. => .programReport
  | .configureZone .. => .configureZone
  | .clearNode .. => .clearNode
  | .zoneReport .. => .zoneReport
  | .configureRiser .. => .configureRiser
  | .riserReset .. => .riserReset
  | .rollCall .. => .rollCall
  | .riserReport .. => .riserReport
  | .markTime .. => .markTime
  | .setCalendarBase .. => .setCalendarBase
  | .timeReport => .timeReport
  | .loadAlmanac .. => .loadAlmanac
  | .followAgain .. => .followAgain
  | .cueReport => .cueReport
  | .setCurfew .. => .setCurfew
  | .setAmbient .. => .setAmbient
  | .setHoldLook .. => .setHoldLook
  | .configureSchedule .. => .configureSchedule
  | .chainReport => .chainReport
  | .configureFeeder .. => .configureFeeder
  | .setOutput .. => .setOutput
  | .recloseFeeder .. => .recloseFeeder
  | .feederReport .. => .feederReport
  | .readChannel .. => .readChannel
  | .setNoticeMask .. => .setNoticeMask
  | .restartSchedule => .restartSchedule

/-- The row that takes the requests of a kind (section 11.5). -/
def rowOfKind (k : Nat) : Option Instr :=
  [Instr.book, .amend, .withdraw, .lookUp, .listUpcoming, .forecast, .programOpen, .programSteps, .programClose, .programRemove,
    .programReport, .configureZone, .clearNode, .zoneReport, .configureRiser, .riserReset, .rollCall, .riserReport, .markTime,
    .setCalendarBase, .timeReport, .loadAlmanac, .followAgain, .cueReport, .setCurfew, .setAmbient, .setHoldLook,
    .configureSchedule, .chainReport, .configureFeeder, .setOutput, .recloseFeeder, .feederReport, .readChannel,
    .setNoticeMask, .restartSchedule][k - 1]?

theorem rowOfKind_of_requestKind {c : Instr} {k : Nat} (h : requestKind c = some k) : rowOfKind k = some c := by
  cases c <;> cases h <;> rfl

theorem rowOfKind_fieldsKind (f : RequestFields) : rowOfKind (fieldsKind f) = some (rowOf f) := by
  cases f <;> rfl

/-- The kinds of the rows are distinct, so a row takes just the requests of its kind. -/
theorem rowOf_eq {c : Instr} {f : RequestFields} (h : requestKind c = some (fieldsKind f)) : rowOf f = c :=
  Option.some.inj ((rowOfKind_fieldsKind f).symm.trans (rowOfKind_of_requestKind h))

theorem exec_rowOf {s : State} {r : Request} {f : RequestFields} (h : AsksFor s r f) :
    exec (rowOf f) s = .next (replied s r (fieldsService f s.blocks).1 (fieldsService f s.blocks).2) := by
  cases f with
  | withdraw => exact exec_withdraw h
  | lookUp => exact exec_lookUp h
  | listUpcoming => exact exec_listUpcoming h
  | forecast => exact exec_forecast h
  | programOpen => exact exec_programOpen h
  | programSteps => exact exec_programSteps h
  | programClose => exact exec_programClose h
  | programRemove => exact exec_programRemove h
  | programReport => exact exec_programReport h
  | configureZone => exact exec_configureZone h
  | clearNode => exact exec_clearNode h
  | zoneReport => exact exec_zoneReport h
  | configureRiser => exact exec_configureRiser h
  | riserReset => exact exec_riserReset h
  | rollCall => exact exec_rollCall h
  | riserReport => exact exec_riserReport h
  | markTime => exact exec_markTime h
  | setCalendarBase => exact exec_setCalendarBase h
  | timeReport => exact exec_timeReport h
  | loadAlmanac => exact exec_loadAlmanac h
  | followAgain => exact exec_followAgain h
  | cueReport => exact exec_cueReport h
  | setCurfew => exact exec_setCurfew h
  | setAmbient => exact exec_setAmbient h
  | setHoldLook => exact exec_setHoldLook h
  | configureSchedule => exact exec_configureSchedule h
  | chainReport => exact exec_chainReport h
  | configureFeeder => exact exec_configureFeeder h
  | setOutput => exact exec_setOutput h
  | recloseFeeder => exact exec_recloseFeeder h
  | feederReport => exact exec_feederReport h
  | readChannel => exact exec_readChannel h
  | setNoticeMask => exact exec_setNoticeMask h
  | restartSchedule => exact exec_restartSchedule h

/-- A block's answer to a request, by its kind and its body. -/
def service (r : Request) (b : Blocks) : Blocks × Answer :=
  match r.body with
  | .fields f => fieldsService f b
  | .bytes l => if r.kind.toNat = 1 then book l b else amend l b
  | .other => (b, refuse .malformed)

theorem service_of_fields {r : Request} {f : RequestFields} (h : r.body = .fields f) (b : Blocks) :
    service r b = fieldsService f b := by
  simp only [service, h]

theorem service_of_book {r : Request} {l : List Byte} (h : r.body = .bytes l) (hk : r.kind.toNat = 1) (b : Blocks) :
    service r b = book l b := by
  simp only [service, h, hk, if_true]

theorem service_of_amend {r : Request} {l : List Byte} (h : r.body = .bytes l) (hk : r.kind.toNat = 2) (b : Blocks) :
    service r b = amend l b := by
  simp [service, h, hk]

/-- The bytes that suit a request are a Book's or an Amend's (section 11.6). -/
theorem kind_of_bytes {r : Request} {l : List Byte} (h : requestAcceptable r = true) (hb : r.body = .bytes l) :
    r.kind.toNat = 1 ∨ r.kind.toNat = 2 := by
  simp only [requestAcceptable, hb, bodySuits, Bool.and_eq_true, Bool.or_eq_true, decide_eq_true_eq] at h
  obtain ⟨-, ⟨⟨hbook, -⟩, -⟩ | ⟨⟨hamend, -⟩, -⟩⟩ := h
  · exact .inl hbook
  · exact .inr hamend

/-- R177: a request taken is served by its block and answered. -/
theorem exec_request {c : Instr} {k : Nat} {s : State} {r : Request} (hrow : requestKind c = some k) (hasks : Asks s r)
    (hkind : r.kind.toNat = k) : exec c s = .next (replied s r (service r s.blocks).1 (service r s.blocks).2) := by
  subst hkind
  obtain ⟨-, -, haccepted⟩ := id hasks
  cases hbody : r.body with
  | fields f =>
    have hfor : AsksFor s r f := ⟨hasks, hbody⟩
    rw [asksFor_kind hfor] at hrow
    rw [service_of_fields hbody, ← rowOf_eq hrow, exec_rowOf hfor]
  | bytes l =>
    have hrowOf := rowOfKind_of_requestKind hrow
    obtain hbook | hamend := kind_of_bytes haccepted hbody
    · rw [hbook] at hrowOf
      cases hrowOf
      rw [service_of_book hbody hbook, exec_book hasks hbody (BitVec.eq_of_toNat_eq hbook)]
    · rw [hamend] at hrowOf
      cases hrowOf
      rw [service_of_amend hbody hamend, exec_amend hasks hbody (BitVec.eq_of_toNat_eq hamend)]
  | other => simp [requestAcceptable, hbody, bodySuits] at haccepted

theorem exec_serves {c : Instr} {k : Nat} (hrow : requestKind c = some k) :
    ∃ block : RequestBody → Blocks → Blocks × Answer, ∀ s, exec c s = .next (serve k block s) := by
  cases c <;> cases hrow <;> exact ⟨_, fun _ => rfl⟩

/-- All that a request's row can do: nothing, or serve and answer the head request. -/
theorem exec_request_cases {c : Instr} {k : Nat} (hrow : requestKind c = some k) (s : State) :
    exec c s = .next s ∨
      ∃ r, Asks s r ∧ r.kind.toNat = k ∧ exec c s = .next (replied s r (service r s.blocks).1 (service r s.blocks).2) := by
  obtain ⟨block, hserves⟩ := exec_serves hrow
  obtain hidle | ⟨r, hasks, hkind, -⟩ := serve_cases k block s
  · exact .inl ((hserves s).trans (congrArg _ hidle))
  · exact .inr ⟨r, hasks, hkind, exec_request hrow hasks hkind⟩

/-! ## Every row -/

/-- All that a row other than FULL_RESET can do to the blocks. -/
inductive BlocksMove (a : Blocks) : Blocks → Prop
  | none : BlocksMove a a
  | event (c : Instr) : BlocksMove a (eventEffect c a)
  | request (r : Request) : BlocksMove a (service r a).1
  | notice : BlocksMove a (removeNotice a)

theorem exec_moves {c : Instr} {s t : State} (h : exec c s = .next t) (hc : c ≠ .fullReset) : BlocksMove s.blocks t.blocks := by
  cases hrow : requestKind c with
  | some k =>
    obtain hidle | ⟨r, -, -, hserved⟩ := exec_request_cases hrow s
    · cases hidle.symm.trans h; exact .none
    · cases hserved.symm.trans h; exact .request r
  | none =>
    cases hport : actsOnPort c with
    | false => cases (exec_event hrow hport s).symm.trans h; exact .event c
    | true =>
      cases c with
      | fullReset => exact absurd rfl hc
      | sendRequest r => cases h; exact .none
      | fetchReply whole => cases h; exact .none
      | fetchNotice whole =>
        cases h
        cases whole
        · exact .none
        · exact .notice
      | portStatus => cases h; exact .none
      | unknownTransactionKind kind =>
        cases h
        unfold unknownKind
        split <;> exact .none
      | portMalformedRefusal =>
        cases h
        unfold portMalformed
        split
        · exact .none
        · split <;> exact .none
      | _ => cases hport

/-- What the blocks' own effects keep, every row but FULL_RESET keeps. -/
theorem exec_keeps {P : Blocks → Blocks → Prop} (hrefl : ∀ b, P b b) (hevent : ∀ c b, P b (eventEffect c b))
    (hfields : ∀ f b, P b (fieldsService f b).1) (hbook : ∀ l b, P b (book l b).1) (hamend : ∀ l b, P b (amend l b).1)
    (hnotice : ∀ b, P b (removeNotice b)) {c : Instr} {s t : State} (h : exec c s = .next t) (hc : c ≠ .fullReset) :
    P s.blocks t.blocks := by
  have hservice : ∀ r b, P b (service r b).1 := by
    intro r b
    unfold service
    split
    · exact hfields _ b
    · split
      · exact hbook _ b
      · exact hamend _ b
    · exact hrefl b
  generalize hb : t.blocks = b
  obtain _ | c | r | _ := hb ▸ exec_moves h hc
  · exact hrefl _
  · exact hevent c _
  · exact hservice r _
  · exact hnotice _

/-- One step is the front command's row, or one µs of idling. -/
theorem step_cases {s t : State} (h : step s = .next t) :
    (∃ c rest, s.pending = c :: rest ∧ exec c { s with pending := rest } = .next t) ∨
      (s.pending = [] ∧ t = s.mapBlocks passIdle) := by
  unfold step at h
  split at h
  · rename_i c rest hpending
    exact .inl ⟨c, rest, hpending, h⟩
  · rename_i hpending
    cases h
    exact .inr ⟨hpending, rfl⟩

end Sys2Proof.Machine

/-! PROOFS. The sizes of the tables, operation by operation, and obligation O15. `Sized` is `TablesSized` with the deferral of a Restart
Schedule left open, so that it holds within one as well. -/

namespace Sys2Proof.Machine

/-- Every table has its fixed size, and a Restart Schedule is being taken or not. -/
def Sized (deferred : Bool) (b : Blocks) : Prop :=
  b.zones.length = 96 ∧ b.holding.length = 96 ∧ b.risers.length = 4 ∧ b.feeders.length = 4 ∧ b.programs.length = 64 ∧
    b.chain.faces.length = 4 ∧ b.chain.latest.length = 96 ∧ b.scan.channels.length = 8 ∧ b.deferral.isSome = deferred

theorem tablesSized_iff {b : Blocks} : TablesSized b ↔ Sized false b := by
  rw [TablesSized, Sized, Option.isSome_eq_false_iff, Option.isNone_iff_eq_none]

section
variable {d : Bool} {b : Blocks}

/-! ## One record of the blocks -/

@[simp] theorem setZone_sized (h : Sized d b) (z : Nat) (c : Option Zone) : Sized d (b.setZone z c) := by simpa [Sized] using h
@[simp] theorem updateZone_sized (h : Sized d b) (z : Nat) (g : Zone → Zone) : Sized d (b.updateZone z g) := by
  simpa [Sized] using h
@[simp] theorem updateRiser_sized (h : Sized d b) (r : Nat) (g : Riser → Riser) : Sized d (b.updateRiser r g) := by
  simpa [Sized] using h
@[simp] theorem updateFeeder_sized (h : Sized d b) (f : Nat) (g : Feeder → Feeder) : Sized d (b.updateFeeder f g) := by
  simpa [Sized] using h
@[simp] theorem updateLatest_sized (h : Sized d b) (z : Nat) (g : ZoneOut → ZoneOut) : Sized d (b.updateLatest z g) := by
  obtain ⟨hz, hh, hr, hf, hp, hfaces, hl, hc, hd⟩ := h
  exact ⟨hz, hh, hr, hf, hp, hfaces, (List.length_set ..).trans hl, hc, hd⟩
@[simp] theorem setProgram_sized (h : Sized d b) (n : Nat) (x : ProgramSlot) : Sized d (b.setProgram n x) := by
  simpa [Sized] using h
@[simp] theorem setChannel_sized (h : Sized d b) (c : Nat) (x : Channel) : Sized d (b.setChannel c x) := by
  obtain ⟨hz, hh, hr, hf, hp, hfaces, hl, hc, hd⟩ := h
  exact ⟨hz, hh, hr, hf, hp, hfaces, hl, (List.length_set ..).trans hc, hd⟩
@[simp] theorem updateBooking_sized (h : Sized d b) (n : Nat) (g : Booking → Booking) : Sized d (b.updateBooking n g) := h
@[simp] theorem updateActive_sized (h : Sized d b) (n : Nat) (g : Occurrence → Occurrence) : Sized d (b.updateActive n g) := h
@[simp] theorem updateTime_sized (h : Sized d b) (g : TimeBase → TimeBase) : Sized d (b.updateTime g) := h
@[simp] theorem updateCue_sized (h : Sized d b) (g : CueReceiver → CueReceiver) : Sized d (b.updateCue g) := h
@[simp] theorem advanceTo_sized (h : Sized d b) (us : Nat) : Sized d (b.advanceTo us) := h
@[simp] theorem noteRewritten_sized (h : Sized d b) (z : Nat) : Sized d (noteRewritten z b) := h
@[simp] theorem submit_sized (h : Sized d b) (r : RecordId) (k : ChangeKind) (o : Option LastOutcome) : Sized d (b.submit r k o) := by
  simpa [Sized] using h
@[simp] theorem report_sized (h : Sized d b) (r : RecordId) (k : ChangeKind) : Sized d (b.report r k) := submit_sized h r k none
@[simp] theorem reportEnded_sized (h : Sized d b) (n : Nat) (o : LastOutcome) : Sized d (b.reportEnded n o) := submit_sized h _ _ _

theorem forEach_sized {α : Type} {g : α → Blocks → Blocks} (hg : ∀ x b, Sized d b → Sized d (g x b)) (h : Sized d b) (l : List α) :
    Sized d (forEach l g b) := forEach_keeps hg l b h

/-! ## Feeder Control -/

@[simp] theorem setContactor_sized (f : Nat) (c : Bool) (h : Sized d b) : Sized d (setContactor f c b) := by
  unfold setContactor; split_ifs <;> simp [h]
@[simp] theorem evaluateFeeder_sized (f : Nat) (h : Sized d b) : Sized d (evaluateFeeder f b) := by
  have hstopped : ∀ g, Sized d (b.updateFeeder f g) := fun g => updateFeeder_sized h f g
  unfold evaluateFeeder
  split_ifs <;> simp [h, hstopped]
@[simp] theorem reevaluateFeeder_sized (f : Nat) (h : Sized d b) : Sized d (reevaluateFeeder f b) := by
  unfold reevaluateFeeder
  split
  · rename_i hl
    simpa [Sized, hl] using h
  · exact evaluateFeeder_sized f h
@[simp] theorem tellZoneFeeder_sized (z : Nat) (h : Sized d b) : Sized d (tellZoneFeeder z b) := by
  unfold tellZoneFeeder; split <;> simp [h]
@[simp] theorem claimFeeder_sized (n f : Nat) (h : Sized d b) : Sized d (claimFeeder n f b) :=
  reevaluateFeeder_sized f (updateFeeder_sized h f _)
@[simp] theorem releaseFeeder_sized (n f : Nat) (h : Sized d b) : Sized d (releaseFeeder n f b) := by
  unfold releaseFeeder
  split_ifs
  · exact reevaluateFeeder_sized f (updateFeeder_sized h f _)
  · exact h
@[simp] theorem releaseClaims_sized (n : Nat) (h : Sized d b) : Sized d (releaseClaims n b) :=
  forEach_sized (fun f _ => releaseFeeder_sized n f) h _
@[simp] theorem reevaluateShowLive_sized (h : Sized d b) : Sized d (reevaluateShowLive b) := by
  unfold reevaluateShowLive; split <;> exact h
@[simp] theorem driveCurfewActive_sized (h : Sized d b) : Sized d (driveCurfewActive b) := h

/-! ## Level Chain -/

@[simp] theorem startHandover_sized (z n : Nat) (h : Sized d b) : Sized d (startHandover z n b) := by
  have hnoted : ∀ c, Sized d (noteRewritten z (b.setZone z c)) := fun c => setZone_sized h z c
  unfold startHandover
  split
  · exact h
  · dsimp only
    split_ifs <;> simp [h, hnoted]
@[simp] theorem defaultHandovers_sized (p : Nat → Bool) (h : Sized d b) : Sized d (defaultHandovers p b) :=
  forEach_sized (fun z _ => startHandover_sized z _) h _
@[simp] theorem discardHandovers_sized (h : Sized d b) : Sized d (discardHandovers b) := by
  obtain ⟨hz, hrest⟩ := h
  exact ⟨(List.length_map ..).trans hz, hrest⟩
@[simp] theorem lowerZone_sized (k z : Nat) (h : Sized d b) : Sized d (lowerZone k z b) := by
  unfold lowerZone; split <;> simp [h]
@[simp] theorem lowerNonExempt_sized (h : Sized d b) : Sized d (lowerNonExempt b) :=
  forEach_sized (fun z _ => lowerZone_sized _ z) h _
@[simp] theorem openWindow_sized (h : Sized d b) : Sized d (openWindow b) :=
  driveCurfewActive_sized (lowerNonExempt_sized (b := { b with chain := { b.chain with windowOpen := true } }) h)
@[simp] theorem closeWindow_sized (h : Sized d b) : Sized d (closeWindow b) :=
  driveCurfewActive_sized (defaultHandovers_sized _ (b := { b with chain := { b.chain with windowOpen := false } }) h)
@[simp] theorem followWindow_sized (h : Sized d b) : Sized d (followWindow b) := by
  unfold followWindow; split_ifs <;> simp [h]
@[simp] theorem ambientSample_sized (f code : Nat) (h : Sized d b) : Sized d (ambientSample f code b) := by
  simpa [Sized, ambientSample] using h
@[simp] theorem reloadSettle_sized (h : Sized d b) : Sized d (reloadSettle b) := by simpa [Sized, reloadSettle] using h

/-! ## Zone Resolver -/

@[simp] theorem recountHeld_sized (n : Option Nat) (h : Sized d b) : Sized d (recountHeld n b) := by
  refine forEach_sized (fun o c hc => ?_) (b := { b with active := b.active.map (fun o => { o with held := b.countHeld o.id }) }) h _
  unfold reportHeld
  dsimp only
  split_ifs <;> simp [hc]

/-- Whatever the Holding Table's size was, a re-resolution writes one entry for each zone number. -/
@[simp] theorem resolve_sized (zones : List Nat) (n : Option Nat) (h : Sized d b) : Sized d (resolve zones n b) :=  by
  have hwritten : Sized d { b with holding := b.resolvedTable zones } := by
    obtain ⟨hz, -, hr, hf, hp, hfaces, hl, hc, hd⟩ := h
    exact ⟨hz, (List.length_map ..).trans List.length_range, hr, hf, hp, hfaces, hl, hc, hd⟩
  have hfaded : ∀ (l : List Nat) (c : Blocks), Sized d c →
      Sized d (if c.fades then forEach l (fun z x => startHandover z (x.handoverLength z) x) c else c) := by
    intro l c hc
    split_ifs
    · exact forEach_sized (fun z _ => startHandover_sized z _) hc _
    · exact hc
  unfold resolve
  exact reevaluateShowLive_sized (forEach_sized (fun f _ => reevaluateFeeder_sized f)
    (recountHeld_sized _ (forEach_sized (fun z _ hc => report_sized hc _ _) (hfaded _ _ hwritten) _)) _)


@[simp] theorem assertPanelHold_sized (h : Sized d b) : Sized d (assertPanelHold b) := by
  unfold assertPanelHold
  split_ifs
  · exact h
  · exact defaultHandovers_sized _ (b := { b with panelHold := true }) h
@[simp] theorem releasePanelHold_sized (h : Sized d b) : Sized d (releasePanelHold b) := by
  unfold releasePanelHold
  split_ifs
  · exact defaultHandovers_sized _ (b := { b with panelHold := false }) h
  · exact h

/-! ## Occurrence Engine -/

@[simp] theorem freeSlot_sized (n : Nat) (h : Sized d b) : Sized d (freeSlot n b) := by
  unfold freeSlot; split <;> exact h
@[simp] theorem retire_sized (n : Nat) (h : Sized d b) : Sized d (retire n b) := by
  unfold retire
  dsimp only
  split_ifs
  · simp [h]
  · exact freeSlot_sized n (b := { b.updateBooking n _ with lastFreed := _ }) h
@[simp] theorem recordOutcome_sized (n : Nat) (o : LastOutcome) (h : Sized d b) : Sized d (recordOutcome n o b) := h
@[simp] theorem setBookingState_sized (n : Nat) (st : BookingState) (h : Sized d b) : Sized d (setBookingState n st b) := h
@[simp] theorem setBoundary_sized (n : Nat) (x : Option Instant) (h : Sized d b) : Sized d (setBoundary n x b) := h
@[simp] theorem dispose_sized (n : Nat) (o : LastOutcome) (x : Option Instant) (h : Sized d b) : Sized d (dispose n o x b) :=
  setBoundary_sized n x (reportEnded_sized (recordOutcome_sized n o h) n o)
@[simp] theorem armEntry_sized (n : Nat) (h : Sized d b) : Sized d (armEntry n b) := by
  have hflagged : ∀ l, Sized d { b with upcoming := l } := fun _ => h
  exact forEach_sized (fun f _ => claimFeeder_sized n f) (hflagged _) _
@[simp] theorem armDue_sized (h : Sized d b) : Sized d (armDue b) := by
  unfold armDue
  split
  · exact h
  · exact forEach_sized (fun n _ => armEntry_sized n) h _
@[simp] theorem removeEntry_sized (n : Nat) (h : Sized d b) : Sized d (removeEntry n b) := by
  unfold removeEntry
  split
  · exact h
  · dsimp only
    split_ifs
    · exact releaseClaims_sized n (b := { b with upcoming := _ }) h
    · exact h
@[simp] theorem recordSkips_sized (n : Nat) (a : SearchAnswer) (h : Sized d b) : Sized d (recordSkips n a b) := by
  unfold recordSkips; split_ifs <;> simp [h]
@[simp] theorem insertWindow_sized (n : Nat) (t : Tier) (now : Instant) (w : Window) (h : Sized d b) :
    Sized d (insertWindow n t now w b) := by
  have hscheduled : ∀ l, Sized d (schedule n w.marks { b with upcoming := l }) := fun _ => h
  unfold insertWindow
  dsimp only
  split_ifs <;> simp [hscheduled]
@[simp] theorem placeOnly_sized (quiet : Bool) (n : Nat) (h : Sized d b) : Sized d (placeOnly quiet n b) := by
  unfold placeOnly
  split
  · exact h
  split
  · exact h
  dsimp only
  have hskipped := fun a => recordSkips_sized n a h
  split
  · exact retire_sized n (hskipped _)
  · split_ifs
    · exact setBookingState_sized n _ (hskipped _)
    · exact report_sized (setBookingState_sized n _ (hskipped _)) _ _
  · exact insertWindow_sized _ _ _ _ (hskipped _)
@[simp] theorem enter_sized (e : UpcomingEntry) (extra : List Nat) (h : Sized d b) : Sized d (enter e extra b) := by
  have hjoined : ∀ l m, Sized d ((setBookingState e.number .running { b with active := l, nextId := m }).report
    (.booking e.number) .started) := fun _ _ => report_sized (b := setBookingState _ _ { b with active := _, nextId := _ }) h _ _
  unfold enter
  dsimp only
  split_ifs
  · exact reloadSettle_sized (resolve_sized _ _ (hjoined _ _))
  · exact resolve_sized _ _ (hjoined _ _)
@[simp] theorem dropRecord_sized (o : Occurrence) (h : Sized d b) : Sized d (dropRecord o b) := h
@[simp] theorem leave_sized (o : Occurrence) (out : LastOutcome) (x : Option Instant) (h : Sized d b) : Sized d (leave o out x b) :=
  dispose_sized _ _ _ (resolve_sized _ _ (dropRecord_sized o h))
@[simp] theorem evictVictim_sized (v : Occurrence) (h : Sized d b) : Sized d (evictVictim v b) :=
  placeOnly_sized _ _ (dispose_sized _ _ _ (dropRecord_sized v h))
@[simp] theorem skipStart_sized (e : UpcomingEntry) (h : Sized d b) : Sized d (skipStart e b) :=
  placeOnly_sized _ _ (dispose_sized _ _ _ h)
@[simp] theorem startOnce_sized (n : Nat) (h : Sized d b) : Sized d (startOnce n b) := by
  have hleft := removeEntry_sized n h
  unfold startOnce
  split
  · exact h
  dsimp only
  split_ifs
  · exact enter_sized _ _ hleft
  split
  · exact enter_sized _ _ hleft
  · split_ifs
    · exact enter_sized _ _ (evictVictim_sized _ hleft)
    · exact skipStart_sized _ hleft
@[simp] theorem takeStart_sized (n : Nat) (h : Sized d b) : Sized d (takeStart n b) := by
  unfold takeStart
  dsimp only
  split
  · split_ifs <;> simp [h]
  · simp [h]
@[simp] theorem place_sized (n : Nat) (h : Sized d b) : Sized d (place n b) := by
  unfold place; dsimp only; split_ifs <;> simp [h]
@[simp] theorem missEntry_sized (e : UpcomingEntry) (h : Sized d b) : Sized d (missEntry e b) :=
  placeOnly_sized _ _ (dispose_sized _ _ _ (removeEntry_sized _ h))
theorem drain_sized (st : Bool) (fuel : Nat) : ∀ {b}, Sized d b → Sized d (drain st fuel b) := by
  induction fuel with
  | zero => exact id
  | succ fuel ih =>
    intro b h
    unfold drain
    split
    · split_ifs
      · exact ih (missEntry_sized _ h)
      · exact ih (startOnce_sized _ h)
      · exact h
    · exact h
@[simp] theorem placeBatch_sized (quiet : Bool) (ns : List Nat) (h : Sized d b) : Sized d (placeBatch quiet ns b) :=
  drain_sized _ _ (forEach_sized (fun n _ => placeOnly_sized quiet n) h _)
@[simp] theorem completeInStep_sized (o : Occurrence) (h : Sized d b) : Sized d (completeInStep o b) := by
  unfold completeInStep
  split
  · exact h
  · split_ifs
    · exact placeOnly_sized _ _ (leave_sized _ _ _ h)
    · exact h
@[simp] theorem forwardStep_sized (h : Sized d b) : Sized d (forwardStep b) := by
  unfold forwardStep
  split
  · exact h
  · exact armDue_sized (drain_sized _ _ (forEach_sized (fun o _ => completeInStep_sized o) h _))
@[simp] theorem reachLead_sized (n : Nat) (h : Sized d b) : Sized d (reachLead n b) := by
  unfold reachLead
  split
  · split_ifs <;> simp [h]
  · exact h
@[simp] theorem reachStart_sized (h : Sized d b) : Sized d (reachStart b) := by
  unfold reachStart
  split
  · split_ifs <;> simp [h]
  · exact h
@[simp] theorem reachEnd_sized (n : Nat) (h : Sized d b) : Sized d (reachEnd n b) := by
  unfold reachEnd
  split
  · split_ifs
    · exact place_sized _ (leave_sized _ _ _ h)
    · exact h
  · exact h

/-! ## Cue Clock Receiver -/

@[simp] theorem setCueState_sized (st : CueState) (h : Sized d b) : Sized d (setCueState st b) := by
  unfold setCueState; split_ifs <;> simp [h]
@[simp] theorem followAwaiting_sized (h : Sized d b) : Sized d (followAwaiting b) := h
@[simp] theorem setFollowing_sized (time : Nat) (h : Sized d b) : Sized d (setFollowing time b) := h
@[simp] theorem moveOnWord_sized (advance : Option Int) (h : Sized d b) : Sized d (moveOnWord advance b) := by
  unfold moveOnWord
  split
  · exact setCueState_sized _ (updateCue_sized h _)
  · split_ifs
    · exact h
    · exact followAwaiting_sized (setCueState_sized _ (updateCue_sized h _))
    · exact h
  · split_ifs <;> exact h
@[simp] theorem takeWord_sized (time : Nat) (running : Bool) (h : Sized d b) : Sized d (takeWord time running b) := by
  have hpaused : ∀ c : Blocks, Sized d c → Sized d (if b.cue.running = running then c else c.report .cueClock .cuePause) := by
    intro c hc
    split_ifs <;> simp [hc]
  have hfollowed : ∀ c : Blocks, Sized d c → Sized d (if c.cue.state = .locked then setFollowing time c else c) := by
    intro c hc
    split_ifs <;> simp [hc]
  exact hfollowed _ (moveOnWord_sized _ (hpaused _ (updateCue_sized h _)))
@[simp] theorem cueWord_sized (checked : Bool) (time : Nat) (running : Bool) (h : Sized d b) :
    Sized d (cueWord checked time running b) := by
  unfold cueWord; split_ifs <;> simp [h]
@[simp] theorem loseLock_sized (h : Sized d b) : Sized d (loseLock b) := by
  have hfreed : ∀ l, Sized d { b with active := l } := fun _ => h
  exact forEach_sized (fun n _ hc => report_sized hc _ _) (hfreed _) _
@[simp] theorem silenceTimeout_sized (h : Sized d b) : Sized d (silenceTimeout b) := by
  have hsilent := fun us g => setCueState_sized .silent (updateCue_sized (advanceTo_sized h us) g)
  unfold silenceTimeout
  split
  · exact h
  · dsimp only
    split_ifs
    · exact h
    · exact loseLock_sized (hsilent _ _)
    · exact hsilent _ _
@[simp] theorem followAgain_sized (n : Nat) (h : Sized d b) : Sized d (followAgain n b).1 := by
  unfold followAgain
  dsimp only
  repeat' split
  all_goals exact h

/-! ## Program Store -/

@[simp] theorem programOpen_sized (n steps length : Nat) (ea : Code EndAction) (l : Levels) (h : Sized d b) :
    Sized d (programOpen n steps length ea l b).1 := by
  unfold programOpen
  dsimp only
  split
  · exact h
  · split_ifs <;> simp [h]
@[simp] theorem programSteps_sized (n : Nat) (l : List StepBody) (h : Sized d b) : Sized d (programSteps n l b).1 := by
  unfold programSteps
  dsimp only
  split_ifs
  · exact h
  · exact h
  · cases b.program n with
    | loading p => dsimp only; split_ifs; exacts [h, by split <;> simp [h]]
    | empty => exact h
    | ready p => exact h
@[simp] theorem programClose_sized (n : Nat) (h : Sized d b) : Sized d (programClose n b).1 := by
  unfold programClose
  split_ifs
  · exact h
  · split
    · split_ifs <;> simp [h]
    · exact h
@[simp] theorem programRemove_sized (n : Nat) (h : Sized d b) : Sized d (programRemove n b).1 := by
  unfold programRemove
  repeat' split
  all_goals simp [h]

/-! ## Booking Table -/

theorem book_sized (l : List Byte) (h : Sized d b) : Sized d (book l b).1 := by
  have hadded : ∀ n f, Sized d (addBooking n f b) := by
    intro n f
    unfold addBooking takeSlot
    dsimp only
    split_ifs <;> exact h
  unfold book
  split
  · exact h
  split_ifs
  · exact h
  · exact h
  split
  · exact h
  split
  · exact h
  · exact place_sized _ (hadded _ _)

theorem amendRunning_sized (m : BitVec 16) (k : Booking) (f : BookingFields) (o : Occurrence) (h : Sized d b) :
    Sized d (amendRunning m k f o b).1 := by
  have hheld : ∀ {c}, Sized d c → Sized d (amendHolding m k.number k.fields f c) := by
    intro c hc
    unfold amendHolding
    split_ifs <;> simp [hc]
  have hexempt : ∀ {c}, Sized d c → Sized d (amendExempt k.number k.fields f c) := by
    intro c hc
    unfold amendExempt
    split_ifs
    · exact forEach_sized (fun z _ => lowerZone_sized _ z) hc _
    · exact hc
  have hfollow : ∀ {c}, Sized d c → Sized d (amendFollow m k.number k.fields f c) := by
    intro c hc
    unfold amendFollow
    split_ifs <;> exact hc
  have hamended := hfollow (hexempt (hheld (c := storeFields k.number f b) h))
  unfold amendRunning
  dsimp only
  split
  · exact hamended
  · exact hamended
  · exact hamended
  · exact place_sized _ (leave_sized _ _ _ hamended)

theorem amend_sized (l : List Byte) (h : Sized d b) : Sized d (amend l b).1 := by
  unfold amend
  split
  · exact h
  unfold amendWith
  dsimp only
  split_ifs
  · exact h
  · exact h
  split
  · exact h
  split_ifs
  · exact h
  split
  · exact h
  split
  · exact h
  · exact amendRunning_sized _ _ _ _ (b := { b with lastFreed := none }) h
  · exact place_sized _ (removeEntry_sized _ (b := { storeFields _ _ b with lastFreed := none }) h)

@[simp] theorem withdraw_sized (n : Nat) (h : Sized d b) : Sized d (withdraw n b).1 := by
  have hended : Sized d (withdrawActive n b) := by
    unfold withdrawActive
    split
    · exact h
    · exact recordOutcome_sized n _ (resolve_sized _ _ (dropRecord_sized _ h))
  unfold withdraw
  split_ifs
  · exact h
  · split
    · exact h
    · exact freeSlot_sized n (b := dropEntry n _) (removeEntry_sized n hended)

/-! ## Zone Directory -/

@[simp] theorem setNode_sized (z : Nat) (st : NodeState) (h : Sized d b) : Sized d (setNode z st b) := by
  unfold setNode
  split_ifs
  · exact h
  · exact tellZoneFeeder_sized z (report_sized (updateZone_sized h z _) _ _)
@[simp] theorem setFault_sized (z : Nat) (c : Option Nat) (h : Sized d b) : Sized d (setFault z c b) := by
  unfold setFault
  split
  · exact h
  · split_ifs <;> simp [h]
@[simp] theorem joinQueue_sized (r : Nat) (e : Exchange) (h : Sized d b) : Sized d (joinQueue r e b) := updateRiser_sized h r _
@[simp] theorem unconfirmedFallback_sized (z : Nat) (h : Sized d b) : Sized d (unconfirmedFallback z b) :=
  report_sized (updateZone_sized h z _) _ _
@[simp] theorem tellFeeders_sized (old : Option Zone) (c : Zone) (h : Sized d b) : Sized d (tellFeeders old c b) := by
  unfold tellFeeders
  split
  · simp [h]
  · split_ifs <;> simp [h]
@[simp] theorem queueFallback_sized (z : Nat) (c : Zone) (h : Sized d b) : Sized d (queueFallback z c b).1 := by
  unfold queueFallback; split_ifs <;> simp [h]
@[simp] theorem storeZone_sized (z : Nat) (x : ZoneBody) (c : Zone) (h : Sized d b) : Sized d (storeZone z x c b).1 := by
  have hstored : ∀ c, Sized d (setNode z (nodeBySerial c) (tellFeeders (b.zone? z) c (b.setZone z (some c)))) :=
    fun c => setNode_sized z _ (tellFeeders_sized _ c (setZone_sized h z _))
  unfold storeZone
  dsimp only
  split
  · exact queueFallback_sized z _ (hstored _)
  · exact hstored _
@[simp] theorem removeZone_sized (z : Nat) (c : Zone) (h : Sized d b) : Sized d (removeZone z c b).1 := by
  unfold removeZone
  dsimp only
  split_ifs
  · exact reevaluateFeeder_sized _ (updateLatest_sized (setZone_sized h z _) z _)
  · exact reevaluateFeeder_sized _ (updateLatest_sized (report_sized (setZone_sized h z _) _ _) z _)
@[simp] theorem configureZone_sized (z : Nat) (x : ZoneBody) (h : Sized d b) : Sized d (configureZone z x b).1 := by
  unfold configureZone
  dsimp only
  repeat' split
  all_goals simp [h]
@[simp] theorem clearNode_sized (z : Nat) (h : Sized d b) : Sized d (clearNode z b).1 := by
  have hcleared : ∀ r e g, Sized d ((joinQueue r e b).updateZone z g) := fun r e g =>
    updateZone_sized (joinQueue_sized r e h) z g
  unfold clearNode
  repeat' split
  all_goals simp [h, hcleared]

/-! ## Sensors, feeders and outputs -/

@[simp] theorem darkenFeeder_sized (f : Nat) (h : Sized d b) : Sized d (darkenFeeder f b) := by
  have hdark : Sized d (forEach (allZones.filter (b.onFeeder f)) darkenZone b) := by
    refine forEach_sized (fun z c hc => ?_) h _
    unfold darkenZone
    split_ifs <;> simp [hc]
  exact hdark
@[simp] theorem tripFeeder_sized (f : Nat) (h : Sized d b) : Sized d (tripFeeder f b) :=
  darkenFeeder_sized f (report_sized (setContactor_sized f _ (updateFeeder_sized h f _)) _ _)
@[simp] theorem currentSample_sized (f code : Nat) (h : Sized d b) : Sized d (currentSample f code b) := by
  unfold currentSample
  dsimp only
  split_ifs <;> simp [h]
@[simp] theorem scanChannel_sized (c x y : Nat) (h : Sized d b) : Sized d (scanChannel c x y b) := by
  have hscanned : ∀ us x, Sized d ((b.advanceTo us).setChannel c x) := fun us x =>
    setChannel_sized (advanceTo_sized h us) c x
  unfold scanChannel
  dsimp only
  split_ifs
  · exact h
  · exact ambientSample_sized _ _ (hscanned _ _)
  · exact currentSample_sized _ _ (hscanned _ _)
  · exact hscanned _ _
@[simp] theorem endCalibration_sized (h : Sized d b) : Sized d (endCalibration b) := by
  unfold endCalibration
  dsimp only
  split_ifs
  · simpa [Sized] using h
  · exact h
@[simp] theorem idleExpiry_sized (f : Nat) (h : Sized d b) : Sized d (idleExpiry f b) := by
  unfold idleExpiry
  split
  · exact h
  · exact setContactor_sized f _ (updateFeeder_sized (advanceTo_sized h _) f _)
@[simp] theorem driveReclosed_sized (f : Nat) (h : Sized d b) : Sized d (driveReclosed f b) := by
  unfold driveReclosed
  split
  · simp [h]
  · split_ifs <;> simp [h]
@[simp] theorem recloseFeeder_sized (f : Nat) (h : Sized d b) : Sized d (recloseFeeder f b).1 := by
  unfold recloseFeeder fadeUpFeeder
  split_ifs
  · exact h
  · exact h
  · exact driveReclosed_sized f (defaultHandovers_sized _ (updateFeeder_sized h f _))
@[simp] theorem driveLine_sized (line : OutputLine) (so : Option OutputSource) (co : Option OutputCommand) (h : Sized d b) :
    Sized d (driveLine line so co b) := by
  cases line with
  | contactor f =>
    have hset : ∀ g, Sized d (b.updateFeeder f g) := fun g => updateFeeder_sized h f g
    have hstopped : ∀ g k, Sized d ((b.updateFeeder f g).updateFeeder f k) := fun g k => updateFeeder_sized (hset g) f k
    unfold driveLine setContactorOutput
    dsimp only
    repeat' split
    all_goals simp [hset, hstopped]
  | showLive => exact h
  | curfewActive => exact h
@[simp] theorem setOutput_sized (line : Code OutputLine) (so : Option (Code OutputSource)) (co : Option (Code OutputCommand))
    (h : Sized d b) : Sized d (setOutput line so co b).1 := by
  unfold setOutput
  split
  · dsimp only
    split_ifs <;> simp [h]
  · exact h
@[simp] theorem configureFeeder_sized (f : Nat) (budget mark : Option Nat) (h : Sized d b) :
    Sized d (configureFeeder f budget mark b).1 := by
  unfold configureFeeder; split_ifs <;> simp [h]

/-! ## Time Base -/

@[simp] theorem issueTick_sized (h : Sized d b) : Sized d (issueTick b) := by
  unfold issueTick
  split
  · exact h
  · split_ifs <;> exact h
@[simp] theorem regularTick_sized (h : Sized d b) : Sized d (regularTick b) := by
  have hcounted : ∀ us g, Sized d ((b.advanceTo us).updateTime g) := fun us g => updateTime_sized (advanceTo_sized h us) g
  unfold regularTick
  dsimp only
  split_ifs
  · exact h
  · exact updateTime_sized (hcounted _ _) _
  · exact issueTick_sized (hcounted _ _)
@[simp] theorem prune_sized (h : Sized d b) : Sized d (prune b) := by
  unfold prune; split <;> exact h
@[simp] theorem takeMidnight_sized (h : Sized d b) : Sized d (takeMidnight b) := by
  unfold takeMidnight
  split_ifs
  · exact prune_sized (updateTime_sized h _)
  · exact h
@[simp] theorem stepTo_sized (target : Instant) (h : Sized d b) : Sized d (stepTo target b) := by
  have hnoted : ∀ g, Sized d ((b.updateTime g).report .timeBase .stepped) := fun g => report_sized (updateTime_sized h g) _ _
  have hfollowed : ∀ g, Sized d (followWindow (forwardStep ((b.updateTime g).report .timeBase .stepped))) := fun g =>
    followWindow_sized (forwardStep_sized (hnoted g))
  unfold stepTo
  split
  · exact h
  · dsimp only
    split_ifs <;> simp [hnoted, hfollowed]
@[simp] theorem setTimeState_sized (st : TimeState) (h : Sized d b) : Sized d (setTimeState st b) := by
  unfold setTimeState; split_ifs <;> simp [h]
@[simp] theorem setRate_sized (rate : Nat) (h : Sized d b) : Sized d (setRate rate b) := by
  unfold setRate; split_ifs <;> simp [h]
@[simp] theorem discipline_sized (h : Sized d b) : Sized d (discipline b) := by
  unfold discipline
  split
  · exact h
  · dsimp only
    split_ifs
    · exact h
    · exact h
    · exact issueTick_sized (updateTime_sized (updateTime_sized h _) _)
    · exact stepTo_sized _ (updateTime_sized (updateTime_sized h _) _)
@[simp] theorem applyMark_sized (v : Instant) (edge : Option Nat) (h : Sized d b) : Sized d (applyMark v edge b) := by
  have hrestarted := setTimeState_sized .free (updateTime_sized h (restartMeasurement edge b.ownUs))
  unfold applyMark firstSetting
  split
  · exact stepTo_sized v hrestarted
  · exact prune_sized (followWindow_sized (placeBatch_sized _ _ (updateTime_sized hrestarted _)))
@[simp] theorem validEdge_sized (n : Nat) (h : Sized d b) : Sized d (validEdge n b) := by
  unfold validEdge
  dsimp only
  split_ifs
  · exact discipline_sized (setRate_sized _ (setTimeState_sized _ (updateTime_sized h _)))
  · exact h
@[simp] theorem invalidEdge_sized (n : Nat) (h : Sized d b) : Sized d (invalidEdge n b) := by
  have hcounted : ∀ g, Sized d (b.updateTime g) := fun g => updateTime_sized h g
  have hfrozen : ∀ (c : Blocks) f g, Sized d c →
      Sized d (if c.time.frozen then c.updateTime f else (c.updateTime g).report .timeBase .timeState) := by
    intro c f g hc
    split_ifs <;> simp [hc]
  have hmoved : ∀ c : Blocks, Sized d c → Sized d (if c.time.state = .locked then setTimeState .holdover c else c) := by
    intro c hc
    split_ifs <;> simp [hc]
  exact hmoved _ (hfrozen _ _ _ (hcounted _))
@[simp] theorem takeEdge_sized (h : Sized d b) : Sized d (takeEdge b) := by
  unfold takeEdge
  split
  · simp [h]
  · dsimp only
    split
    · simp [h]
    · split_ifs <;> simp [h]
@[simp] theorem holdoverTimeout_sized (h : Sized d b) : Sized d (holdoverTimeout b) := by
  unfold holdoverTimeout
  split
  · split_ifs <;> simp [h]
  · exact h
@[simp] theorem edgeSaturation_sized (h : Sized d b) : Sized d (edgeSaturation b) := by
  unfold edgeSaturation; split <;> simp [h]
@[simp] theorem pendingExpiry_sized (h : Sized d b) : Sized d (pendingExpiry b) := by
  unfold pendingExpiry; split <;> simp [h]
@[simp] theorem markTime_sized (day tod : Nat) (mode : Code MarkMode) (h : Sized d b) : Sized d (markTime day tod mode b).1 := by
  unfold markTime
  split_ifs
  · exact h
  · split <;> simp [h]
@[simp] theorem loadAlmanac_sized (days : List AlmanacDay) (h : Sized d b) : Sized d (loadAlmanac days b).1 := by
  have hstored : ∀ l, Sized d { b with almanac := l } := fun _ => h
  unfold loadAlmanac
  dsimp only
  split_ifs
  · exact h
  · exact h
  · exact h
  · exact placeBatch_sized _ _ (forEach_sized (fun n _ => removeEntry_sized n) (hstored _) _)

/-! ## Restart Schedule -/

theorem restartPlace_sized (h : Sized d b) : Sized d (restartPlace b) := by
  have hended : Sized d (forEach b.active restartOccurrence b) :=
    forEach_sized (fun o _ hc => reportEnded_sized (recordOutcome_sized _ _ (resolve_sized _ _ (dropRecord_sized o hc))) _ _) h _
  exact placeBatch_sized _ _ (forEach_sized (fun n _ => removeEntry_sized n) (b := clearBoundaries _) hended _)

theorem endDeferral_sized (h : Sized d b) : Sized false (endDeferral b) := by
  obtain ⟨hz, hh, hr, hf, hp, hfaces, hl, hc, -⟩ := h
  exact reevaluateShowLive_sized (forEach_sized (fun f _ => evaluateFeeder_sized f)
    (b := { b with deferral := none }) ⟨hz, hh, hr, hf, hp, hfaces, hl, hc, rfl⟩ _)

theorem restartBegin_sized (h : Sized d b) : Sized true (restartBegin b) := by
  obtain ⟨hz, hh, hr, hf, hp, hfaces, hl, hc, -⟩ := h
  exact ⟨(List.length_map ..).trans hz, hh, hr, hf, (List.length_map ..).trans hp, hfaces, hl, hc, rfl⟩

/-- A Restart Schedule defers Feeder Control at its beginning and ends that deferral at its end (R174). -/
theorem restartSchedule_sized (h : Sized d b) : Sized false (restartSchedule b).1 :=
  endDeferral_sized (forEach_sized (fun z _ => startHandover_sized z _) (restartPlace_sized (restartBegin_sized h)) _)

theorem removeNotice_sized (h : Sized d b) : Sized d (removeNotice b) := by
  unfold removeNotice
  split
  · exact h
  · dsimp only
    split
    · exact freeSlot_sized _ (b := { b with notices := _ }) h
    · exact h

/-! ## Render -/

@[simp] theorem expireRenderTimer_sized (h : Sized d b) : Sized d (expireRenderTimer b) := h
@[simp] theorem startRender_sized (h : Sized d b) : Sized d (startRender b) := h
@[simp] theorem passIdle_sized (h : Sized d b) : Sized d (passIdle b) := by
  unfold passIdle progressRender
  split
  · exact h
  · split_ifs <;> exact h
@[simp] theorem completeRender_sized (h : Sized d b) : Sized d (completeRender b) := by
  unfold completeRender
  split
  · exact h
  refine forEach_sized (fun f c hc => ?_) ?_ _
  · unfold recordScale
    dsimp only
    split_ifs <;> simp [hc]
  · obtain ⟨-, hh, hr, hf, hp, hfaces, -, hc, hd⟩ := h
    exact ⟨by simp [allZones, Config.zoneCount], hh, (List.length_map ..).trans hr, hf, hp, hfaces,
      by simp [finishResults, allZones, Config.zoneCount], hc, hd⟩

/-! ## Riser Controllers -/

@[simp] theorem enterRiserState_sized (r : Nat) (st : RiserState) (h : Sized d b) : Sized d (enterRiserState r st b) := by
  simp [enterRiserState, h]
@[simp] theorem absentZone_sized (all : Bool) (z : Nat) (h : Sized d b) : Sized d (absentZone all z b) := by
  unfold absentZone
  split
  · exact h
  · exact setNode_sized z _ (updateZone_sized h z _)
@[simp] theorem startRollCall_sized (r : Nat) (h : Sized d b) : Sized d (startRollCall r b) := by
  have hjoined : Sized d (joinQueue r roundEntry
      (b.updateRiser r (fun x => { x with rollCall := .running, rounds := 0, round := .contention }))) :=
    joinQueue_sized r _ (updateRiser_sized h r _)
  unfold startRollCall recomputeRate
  split
  · exact hjoined
  · exact updateRiser_sized hjoined r _
@[simp] theorem applyRate_sized (r : Nat) (h : Sized d b) : Sized d (applyRate r b) := by
  unfold applyRate
  split
  · exact h
  · exact report_sized (updateRiser_sized h r _) _ _
@[simp] theorem ageZone_sized (lag lost z : Nat) (h : Sized d b) : Sized d (ageZone lag lost z b) := by
  unfold ageZone
  split
  · exact h
  · exact setNode_sized z _ (setZone_sized h z _)
@[simp] theorem sendFrame_sized (r : Nat) (h : Sized d b) : Sized d (sendFrame r b) := by
  have haged : Sized d (forEach ((applyRate r b).liveOn r)
      (ageZone ((applyRate r b).riser r).lag ((applyRate r b).riser r).lost) (applyRate r b)) :=
    forEach_sized (fun z _ => ageZone_sized _ _ z) (applyRate_sized r h) _
  unfold sendFrame
  dsimp only
  split_ifs <;> simp [haged]
@[simp] theorem nextFrame_sized (r : Nat) (h : Sized d b) : Sized d (nextFrame r b) := by
  unfold nextFrame; dsimp only; split_ifs <;> simp [h]
@[simp] theorem lineFault_sized (r : Nat) (h : Sized d b) : Sized d (lineFault r b) := by
  unfold lineFault
  split_ifs
  · exact enterRiserState_sized r _ (updateRiser_sized h r _)
  · exact h
@[simp] theorem beginFrames_sized (r : Nat) (held : Bool) (h : Sized d b) : Sized d (beginFrames r held b) := by
  have hstarted := startRollCall_sized r (enterRiserState_sized r .starting h)
  cases held
  · exact sendFrame_sized r hstarted
  · exact lineFault_sized r hstarted
@[simp] theorem enterStarting_sized (r : Nat) (h : Sized d b) : Sized d (enterStarting r b) :=
  beginFrames_sized r _ (forEach_sized (fun z _ => absentZone_sized true z) (updateRiser_sized h r _) _)
@[simp] theorem disableRiser_sized (r : Nat) (h : Sized d b) : Sized d (disableRiser r b) :=
  enterRiserState_sized r _ (forEach_sized (fun z _ => absentZone_sized false z) (updateRiser_sized h r _) _)
@[simp] theorem configureRiser_sized (r : Nat) (y : RiserBody) (h : Sized d b) : Sized d (configureRiser r y b).1 := by
  have hset : ∀ x, Sized d (b.updateRiser r (fun _ => x)) := fun x => updateRiser_sized h r _
  have hentered : ∀ x, Sized d (enterStarting r (b.updateRiser r (fun _ => x))) := fun x => enterStarting_sized r (hset x)
  have hleft : ∀ x, Sized d (disableRiser r (b.updateRiser r (fun _ => x))) := fun x => disableRiser_sized r (hset x)
  unfold configureRiser
  split_ifs
  · exact h
  · split
    · exact h
    · dsimp only
      split_ifs <;> simp [hset, hentered, hleft]
@[simp] theorem riserReset_sized (r : Nat) (h : Sized d b) : Sized d (riserReset r b).1 := by
  unfold riserReset; split_ifs <;> simp [h]
@[simp] theorem rollCall_sized (r : Nat) (h : Sized d b) : Sized d (rollCall r b).1 := by
  unfold rollCall; split_ifs <;> simp [h]
@[simp] theorem retryExpiry_sized (r : Nat) (h : Sized d b) : Sized d (retryExpiry r b) := by
  unfold retryExpiry
  split
  · exact beginFrames_sized r _ (updateRiser_sized (advanceTo_sized h _) r _)
  · exact h
@[simp] theorem takeTally_sized (z : Nat) (flags : TallyStatus) (h : Sized d b) : Sized d (takeTally z flags b) := by
  have hready : ∀ c, Sized d (setNode z .ready (b.setZone z (some c))) := fun c => setNode_sized z _ (setZone_sized h z _)
  unfold takeTally
  split
  · exact h
  · dsimp only
    split_ifs <;> simp [h, hready]
@[simp] theorem tallyReply_sized (r : Nat) (reply : List Byte) (h : Sized d b) : Sized d (tallyReply r reply b) := by
  unfold tallyReply
  dsimp only
  repeat' split
  all_goals simp [h]
@[simp] theorem noticeWindow_sized (r : Nat) (contender : Option Nat) (h : Sized d b) : Sized d (noticeWindow r contender b) := by
  unfold noticeWindow noticeResult
  dsimp only
  repeat' split
  all_goals simp [h]
@[simp] theorem sendDirected_sized (r : Nat) (m : Directed) (p : Phase) (h : Sized d b) : Sized d (sendDirected r m p b) :=
  updateRiser_sized h r _
@[simp] theorem dropHead_sized (r : Nat) (h : Sized d b) : Sized d (dropHead r b) := updateRiser_sized h r _
@[simp] theorem endWindow_sized (r : Nat) (h : Sized d b) : Sized d (endWindow r b) := updateRiser_sized h r _
@[simp] theorem assignZone_sized (r z : Nat) (o : Offer) (c : Zone) (h : Sized d b) : Sized d (assignZone r z o c b) :=
  setNode_sized z _ (setFault_sized z _ (updateZone_sized (updateRiser_sized h r _) z _))
@[simp] theorem standBy_sized (r serial : Nat) (h : Sized d b) : Sized d (standBy r serial b) :=
  report_sized (updateRiser_sized (sendDirected_sized r _ _ h) r _) _ _
@[simp] theorem decideRound_sized (r serial : Nat) (o : Option Offer) (h : Sized d b) : Sized d (decideRound r serial o b) := by
  have hsent : ∀ m, Sized d (sendDirected r m .done b) := fun m => sendDirected_sized r m .done h
  unfold decideRound
  split
  · dsimp only
    split_ifs <;> simp [hsent]
  · simp [h]
@[simp] theorem contend_sized (r : Nat) (w : Option SerialWord) (h : Sized d b) : Sized d (contend r w b) := by
  have hsent : Sized d (sendDirected r .rollCall .done b) := sendDirected_sized r _ _ h
  unfold contend finishRollCall
  dsimp only
  split
  · simp [hsent]
  · split_ifs
    · exact enterRiserState_sized r _ (report_sized (updateRiser_sized hsent r _) _ _)
    · exact report_sized (updateRiser_sized hsent r _) _ _
@[simp] theorem directedWindow_sized (r : Nat) (w : Option SerialWord) (h : Sized d b) : Sized d (directedWindow r w b) := by
  unfold directedWindow serveRound
  dsimp only
  repeat' split
  all_goals simp [h]
@[simp] theorem attemptFailed_sized (r : Nat) (h : Sized d b) : Sized d (attemptFailed r b) := by
  have hdropped : Sized d (dropHead r (endWindow r b)) := dropHead_sized r (endWindow_sized r h)
  unfold attemptFailed failExchange
  repeat' split
  all_goals simp [h, hdropped]
@[simp] theorem noticeReply_sized (r : Nat) (reply : List Byte) (h : Sized d b) : Sized d (noticeReply r reply b) := by
  have hdropped : Sized d (dropHead r (endWindow r b)) := dropHead_sized r (endWindow_sized r h)
  unfold noticeReply
  dsimp only
  repeat' split
  all_goals simp [h, hdropped]
@[simp] theorem fallbackReply_sized (r : Nat) (reply : List Byte) (h : Sized d b) : Sized d (fallbackReply r reply b) := by
  have hdropped : Sized d (dropHead r (endWindow r b)) := dropHead_sized r (endWindow_sized r h)
  unfold fallbackReply
  dsimp only
  repeat' split
  all_goals simp [h, hdropped]
@[simp] theorem offerReply_sized (r : Nat) (reply : List Byte) (h : Sized d b) : Sized d (offerReply r reply b) := by
  unfold offerReply
  repeat' split
  all_goals simp [h]
@[simp] theorem offerFailed_sized (r : Nat) (h : Sized d b) : Sized d (offerFailed r b) := by
  unfold offerFailed; split <;> simp [h]

/-! ## The Level Chain's requests -/

@[simp] theorem setCurfew_sized (body : CurfewBody) (h : Sized d b) : Sized d (setCurfew body b).1 := by
  have hstored : ∀ c, Sized d { b with chain := { b.chain with curfew := c } } := fun _ => h
  unfold setCurfew
  dsimp only
  split <;> split_ifs <;> simp [hstored]
@[simp] theorem setAmbient_sized (x : AmbientBody) (h : Sized d b) : Sized d (setAmbient x b).1 := by
  have hstored : ∀ a (l : List Face), l.length = b.chain.faces.length → Sized d { b with chain := { b.chain with ambient := a, faces := l } } := by
    intro a l hl
    simpa [Sized, hl] using h
  unfold setAmbient
  dsimp only
  split_ifs <;> simp [hstored]
@[simp] theorem setHoldLook_sized (l : Levels) (h : Sized d b) : Sized d (setHoldLook l b).1 := by
  have hstored : Sized d { b with chain := { b.chain with holdLook := l } } := h
  unfold setHoldLook
  dsimp only
  split_ifs <;> simp [hstored, h]
@[simp] theorem configureSchedule_sized (lead handover : Option Nat) (h : Sized d b) :
    Sized d (configureSchedule lead handover b).1 := by
  have hstored : ∀ n m, Sized d { b with armLead := n, chain := { b.chain with defaultHandover := m } } := fun _ _ => h
  unfold configureSchedule
  dsimp only
  split_ifs <;> simp [hstored]

end

/-! ## Every row -/

theorem eventEffect_sized {d : Bool} (c : Instr) {b : Blocks} (h : Sized d b) : Sized d (eventEffect c b) := by
  cases c with
  | entryArmed => exact reachLead_sized _ h
  | occurrenceStart => exact reachStart_sized h
  | occurrenceEnd => exact reachEnd_sized _ h
  | panelHoldAssertion => exact assertPanelHold_sized h
  | panelHoldRelease => exact releasePanelHold_sized h
  | renderStart => unfold eventEffect; dsimp only; split_ifs; exacts [startRender_sized h, h]
  | renderTimerExpiryLost => unfold eventEffect; dsimp only; split_ifs; exacts [expireRenderTimer_sized h, h]
  | renderCompletion => exact completeRender_sized h
  | curfewOpening => unfold eventEffect; dsimp only; split_ifs; exacts [openWindow_sized h, h]
  | curfewClosing => unfold eventEffect; dsimp only; split_ifs; exacts [closeWindow_sized h, h]
  | civilTick => exact regularTick_sized h
  | midnight => exact takeMidnight_sized h
  | pulseEdge => exact takeEdge_sized (advanceTo_sized h _)
  | holdoverTimeout => exact holdoverTimeout_sized h
  | edgeCounterSaturation => exact edgeSaturation_sized h
  | pendingMarkExpiry => exact pendingExpiry_sized h
  | cueWord => exact cueWord_sized _ _ _ h
  | silenceTimeout => exact silenceTimeout_sized h
  | frameSend => exact nextFrame_sized _ h
  | tallyReply => exact tallyReply_sized _ _ h
  | noticeWindow => exact noticeWindow_sized _ _ h
  | directedWindow => exact directedWindow_sized _ _ h
  | directedAttemptFailed => exact attemptFailed_sized _ h
  | noticeRead => exact noticeReply_sized _ _ h
  | setFallback => exact fallbackReply_sized _ _ h
  | offer => exact offerReply_sized _ _ h
  | offerMissingOrNotGood => exact offerFailed_sized _ h
  | lineFault => exact lineFault_sized _ h
  | retryTimerExpiry => exact retryExpiry_sized _ h
  | calibrationEnd => exact endCalibration_sized h
  | sensorScan => exact scanChannel_sized _ _ _ h
  | idleTimerExpiry => exact idleExpiry_sized _ h
  | _ => exact h

/-- The requests that only read hand the blocks on as they are. -/
theorem fieldsService_sized (f : RequestFields) {b : Blocks} (h : Sized false b) : Sized false (fieldsService f b).1 := by
  cases f with
  | restartSchedule => exact restartSchedule_sized h
  | lookUp => unfold fieldsService lookUp; dsimp only; split_ifs; exacts [h, by split <;> exact h]
  | forecast => unfold fieldsService forecast; dsimp only; split_ifs <;> exact h
  | programReport => unfold fieldsService programReport; dsimp only; split_ifs <;> exact h
  | zoneReport => unfold fieldsService zoneReport; dsimp only; split_ifs <;> exact h
  | riserReport => unfold fieldsService riserReport; dsimp only; split_ifs <;> exact h
  | setCalendarBase => unfold fieldsService setCalendarBase; dsimp only; split_ifs <;> exact h
  | timeReport => unfold fieldsService timeReport; dsimp only; split_ifs <;> exact h
  | feederReport => unfold fieldsService feederReport; dsimp only; split_ifs <;> exact h
  | readChannel => unfold fieldsService readChannel; dsimp only; split_ifs <;> exact h
  | listUpcoming => exact h
  | cueReport => exact h
  | chainReport => exact h
  | setNoticeMask => exact h
  | _ => simp [fieldsService, h]

end Sys2Proof.Machine

/-! PROOFS. What a placement may touch, the length of the Active Table operation by operation, and obligation O15. -/

namespace Sys2Proof.Machine

/-! ## What a placement may touch

A placement that starts nothing writes the bookings, the Upcoming List and the arm claims, and so no holding, no occurrence and no
zone. -/

/-- Only what a placement without a start writes may differ. -/
def TouchesPlacement (a b : Blocks) : Prop :=
  b = { a with
    bookings := b.bookings, upcoming := b.upcoming, lastFreed := b.lastFreed, feeders := b.feeders, notices := b.notices,
    deferral := b.deferral }

theorem TouchesPlacement.refl (b : Blocks) : TouchesPlacement b b := rfl

theorem TouchesPlacement.trans {a b c : Blocks} (h : TouchesPlacement a b) (k : TouchesPlacement b c) : TouchesPlacement a c := by
  unfold TouchesPlacement at *; rw [k, h]

theorem TouchesFeeders.placement {a b : Blocks} (h : TouchesFeeders a b) : TouchesPlacement a b := by
  unfold TouchesFeeders TouchesPlacement at *; rw [h]

section
variable {a b : Blocks} (h : TouchesPlacement a b)
include h

theorem TouchesPlacement.active : b.active = a.active := by rw [h]
theorem TouchesPlacement.holding : b.holding = a.holding := by rw [h]
theorem TouchesPlacement.time : b.time = a.time := by rw [h]
theorem TouchesPlacement.almanac : b.almanac = a.almanac := by rw [h]
theorem TouchesPlacement.mask : b.mask = a.mask := by rw [h]
theorem TouchesPlacement.zones : b.zones = a.zones := by rw [h]
theorem TouchesPlacement.armLead : b.armLead = a.armLead := by rw [h]

end

theorem submit_placement (b : Blocks) (r : RecordId) (k : ChangeKind) (o : Option LastOutcome) :
    TouchesPlacement b (b.submit r k o) := by
  unfold TouchesPlacement Blocks.submit; split <;> rfl

theorem freeSlot_placement (n : Nat) (b : Blocks) : TouchesPlacement b (freeSlot n b) := by
  unfold freeSlot; split <;> rfl

theorem retire_placement (n : Nat) (b : Blocks) : TouchesPlacement b (retire n b) := by
  have hretiring : TouchesPlacement b (b.updateBooking n (fun k => { k with state := .retiring })) := rfl
  have hgiven : ∀ (c : Blocks) k, TouchesPlacement c { c with lastFreed := k } := fun _ _ => rfl
  unfold retire
  dsimp only
  split
  · exact hretiring.trans (submit_placement _ _ _ _)
  · exact hretiring.trans ((hgiven _ _).trans (freeSlot_placement n _))

theorem updateBooking_placement (n : Nat) (g : Booking → Booking) (b : Blocks) : TouchesPlacement b (b.updateBooking n g) := rfl

theorem setBookingState_placement (n : Nat) (st : BookingState) (b : Blocks) : TouchesPlacement b (setBookingState n st b) := rfl

theorem dispose_placement (n : Nat) (o : LastOutcome) (x : Option Instant) (b : Blocks) : TouchesPlacement b (dispose n o x b) :=
  .trans (updateBooking_placement n _ b) ((submit_placement _ _ _ _).trans (updateBooking_placement n _ _))

theorem armEntry_placement (n : Nat) (b : Blocks) : TouchesPlacement b (armEntry n b) := by
  have hflagged : ∀ l, TouchesPlacement b { b with upcoming := l } := fun _ => rfl
  exact (hflagged _).trans (forEach_rel TouchesPlacement.refl TouchesPlacement.trans
    (fun f c => (claimFeeder_touches n f c).placement) _ _)

theorem armDue_placement (b : Blocks) : TouchesPlacement b (armDue b) := by
  unfold armDue
  split
  · rfl
  · exact forEach_rel TouchesPlacement.refl TouchesPlacement.trans armEntry_placement _ _

theorem removeEntry_placement (n : Nat) (b : Blocks) : TouchesPlacement b (removeEntry n b) := by
  have hleft : ∀ l, TouchesPlacement b { b with upcoming := l } := fun _ => rfl
  unfold removeEntry
  split
  · rfl
  · dsimp only
    split
    · exact (hleft _).trans (releaseClaims_touches n _).placement
    · exact hleft _

theorem recordSkips_placement (n : Nat) (a : SearchAnswer) (b : Blocks) : TouchesPlacement b (recordSkips n a b) := by
  unfold recordSkips
  split
  · exact dispose_placement _ _ _ _
  · rfl

theorem insertWindow_placement (n : Nat) (t : Tier) (now : Instant) (w : Window) (b : Blocks) :
    TouchesPlacement b (insertWindow n t now w b) := by
  have hscheduled : ∀ l, TouchesPlacement b (schedule n w.marks { b with upcoming := l }) := fun _ => rfl
  have hreported : ∀ c : Blocks, TouchesPlacement c (if w.estimated then c.report (.booking n) .estimated else c) := by
    intro c
    split
    · exact submit_placement _ _ _ _
    · rfl
  have harmed : ∀ (c : Blocks) (e : UpcomingEntry), TouchesPlacement c (if c.withinLead now e then armEntry n c else c) := by
    intro c e
    split
    · exact armEntry_placement n c
    · rfl
  exact (hscheduled _).trans ((hreported _).trans (harmed _ _))

theorem placeOnly_placement (quiet : Bool) (n : Nat) (b : Blocks) : TouchesPlacement b (placeOnly quiet n b) := by
  unfold placeOnly
  split
  · rfl
  split
  · rfl
  have hskips := fun a => recordSkips_placement n a b
  dsimp only
  split
  · exact (hskips _).trans (retire_placement n _)
  · split
    · exact (hskips _).trans (setBookingState_placement n _ _)
    · exact (hskips _).trans ((setBookingState_placement n _ _).trans (submit_placement _ _ _ _))
  · exact (hskips _).trans (insertWindow_placement _ _ _ _ _)

theorem missEntry_placement (e : UpcomingEntry) (b : Blocks) : TouchesPlacement b (missEntry e b) :=
  (removeEntry_placement _ _).trans ((dispose_placement _ _ _ _).trans (placeOnly_placement _ _ _))

theorem skipStart_placement (e : UpcomingEntry) (b : Blocks) : TouchesPlacement b (skipStart e b) :=
  (dispose_placement _ _ _ _).trans (placeOnly_placement _ _ _)

/-! ## What a fade may touch -/

/-- Only the zone records, the latest render and the render in flight may differ. -/
def TouchesFades (a b : Blocks) : Prop :=
  b = { a with zones := b.zones, chain := { a.chain with latest := b.chain.latest, flight := b.chain.flight } }

theorem TouchesFades.refl (b : Blocks) : TouchesFades b b := rfl

theorem TouchesFades.trans {a b c : Blocks} (h : TouchesFades a b) (k : TouchesFades b c) : TouchesFades a c := by
  unfold TouchesFades at *; rw [k, h]

theorem startHandover_fades (z h : Nat) (b : Blocks) : TouchesFades b (startHandover z h b) := by
  unfold startHandover
  split
  · rfl
  split
  · rfl
  dsimp only
  split <;> rfl

theorem defaultHandovers_fades (p : Nat → Bool) (b : Blocks) : TouchesFades b (defaultHandovers p b) :=
  forEach_rel TouchesFades.refl TouchesFades.trans (fun z c => startHandover_fades z _ c) _ b

theorem lowerZone_fades (k z : Nat) (b : Blocks) : TouchesFades b (lowerZone k z b) := by
  unfold lowerZone; split <;> rfl

theorem lowerNonExempt_fades (b : Blocks) : TouchesFades b (lowerNonExempt b) :=
  forEach_rel TouchesFades.refl TouchesFades.trans (lowerZone_fades _) _ b

/-! ## The occurrences of a re-resolution -/

@[simp] theorem startHandover_active (z h : Nat) (b : Blocks) : (startHandover z h b).active = b.active := by
  rw [startHandover_fades z h b]

@[simp] theorem reevaluateShowLive_active (b : Blocks) : (reevaluateShowLive b).active = b.active := by
  unfold reevaluateShowLive; split <;> rfl

/-- A re-resolution rewrites the zones held of each occurrence and nothing else of the Active Table (R69). -/
theorem resolve_active (zones : List Nat) (n : Option Nat) (b : Blocks) :
    (resolve zones n b).active = b.active.map (fun o =>
      { o with held := ((b.resolvedTable zones).filter (fun h => h.holder.map (fun k => k.id) == some o.id)).length }) := by
  have hfaded : ∀ (l : List Nat) (c : Blocks), TouchesFades c
      (if c.fades then forEach l (fun z x => startHandover z (x.handoverLength z) x) c else c) := by
    intro l c
    split
    · exact forEach_rel TouchesFades.refl TouchesFades.trans (fun z x => startHandover_fades z _ x) _ _
    · rfl
  have hreported : ∀ (l : List Nat) (c : Blocks), TouchesFeeders c (forEach l (fun z x => x.report (.zone z) .holderChanged) c) :=
    fun l c => forEach_rel TouchesFeeders.refl TouchesFeeders.trans (fun z x => report_touches x _ _) _ _
  have hheld : ∀ c : Blocks, (recountHeld n c).active = c.active.map (fun o => { o with held := c.countHeld o.id }) := by
    intro c
    refine forEach_keeps (P := fun x => x.active = _) (fun o x hx => ?_) _ _ rfl
    unfold reportHeld
    dsimp only
    split_ifs <;> simpa using hx
  have htold : ∀ (l : List Nat) (c : Blocks), (forEach l reevaluateFeeder c).active = c.active := by
    intro l c
    rw [forEach_rel TouchesFeeders.refl TouchesFeeders.trans reevaluateFeeder_touches l c]
  unfold resolve
  dsimp only
  rw [reevaluateShowLive_active, htold, hheld, hreported, hfaded]
  rfl

@[simp] theorem resolve_active_length (zones : List Nat) (n : Option Nat) (b : Blocks) :
    (resolve zones n b).active.length = b.active.length := by
  rw [resolve_active, List.length_map]

/-! ## Entering and leaving the Active Table -/

@[simp] theorem reloadSettle_active (b : Blocks) : (reloadSettle b).active = b.active := rfl

@[simp] theorem enter_active_length (e : UpcomingEntry) (extra : List Nat) (b : Blocks) :
    (enter e extra b).active.length = b.active.length + 1 := by
  unfold enter
  dsimp only
  split_ifs <;> simp [setBookingState]

theorem victim_mem {l : List Occurrence} {v : Occurrence} (h : victim l = some v) : v ∈ l := by
  induction l generalizing v with
  | nil => cases h
  | cons x xs ih =>
    unfold victim at h
    split at h
    · cases h; exact List.mem_cons_self
    · rename_i y hy
      split_ifs at h <;> cases h
      · exact List.mem_cons_of_mem _ (ih hy)
      · exact List.mem_cons_self

theorem dropRecord_active_length_lt {o : Occurrence} {b : Blocks} (h : o ∈ b.active) :
    (dropRecord o b).active.length < b.active.length := by
  refine lt_of_le_of_ne (List.length_filter_le ..) fun heq => ?_
  simpa using List.length_filter_eq_length_iff.1 heq o h

theorem dropRecord_active_length_le (o : Occurrence) (b : Blocks) : (dropRecord o b).active.length ≤ b.active.length :=
  List.length_filter_le ..

theorem leave_active_length_le (o : Occurrence) (out : LastOutcome) (x : Option Instant) (b : Blocks) :
    (leave o out x b).active.length ≤ b.active.length := by
  unfold leave
  rw [(dispose_placement _ _ _ _).active, resolve_active_length]
  exact dropRecord_active_length_le o b

theorem evictVictim_active_length_lt {v : Occurrence} {b : Blocks} (h : v ∈ b.active) :
    (evictVictim v b).active.length < b.active.length := by
  unfold evictVictim
  rw [(placeOnly_placement _ _ _).active, (dispose_placement _ _ _ _).active]
  exact dropRecord_active_length_lt h

theorem victim_eq_none {l : List Occurrence} (h : victim l = none) : l = [] := by
  cases l with
  | nil => rfl
  | cons x xs =>
    unfold victim at h
    split at h
    · cases h
    · split_ifs at h

/-- R37, R39, R40: a start into a full table evicts first or is Skipped. -/
theorem startOnce_bounded (n : Nat) {b : Blocks} (h : ActiveBounded b) : ActiveBounded (startOnce n b) := by
  unfold ActiveBounded at *
  have hleft : (removeEntry n b).active = b.active := (removeEntry_placement n b).active
  unfold startOnce
  split
  · exact h
  dsimp only
  split
  · rename_i hfree
    rw [enter_active_length]
    exact hfree
  rename_i hfull
  split
  · rename_i hnone
    rw [victim_eq_none hnone] at hfull
    exact absurd (by decide) hfull
  · rename_i v hv
    split
    · have hless := evictVictim_active_length_lt (victim_mem hv)
      rw [enter_active_length]
      rw [hleft] at hless
      omega
    · rw [(skipStart_placement _ _).active, hleft]
      exact h

theorem takeStart_bounded (n : Nat) {b : Blocks} (h : ActiveBounded b) : ActiveBounded (takeStart n b) := by
  unfold takeStart
  dsimp only
  split
  · split_ifs
    · exact startOnce_bounded _ (startOnce_bounded n h)
    · exact startOnce_bounded n h
  · exact startOnce_bounded n h

theorem TouchesPlacement.bounded {a b : Blocks} (ht : TouchesPlacement a b) (h : ActiveBounded a) : ActiveBounded b := by
  unfold ActiveBounded
  rw [ht.active]
  exact h

theorem place_bounded (n : Nat) {b : Blocks} (h : ActiveBounded b) : ActiveBounded (place n b) := by
  have hplaced := (placeOnly_placement false n b).bounded h
  unfold place
  dsimp only
  split_ifs
  · exact takeStart_bounded n hplaced
  · exact hplaced

theorem leave_bounded (o : Occurrence) (out : LastOutcome) (x : Option Instant) {b : Blocks} (h : ActiveBounded b) :
    ActiveBounded (leave o out x b) := (leave_active_length_le o out x b).trans h

theorem drain_bounded (st : Bool) (fuel : Nat) : ∀ {b}, ActiveBounded b → ActiveBounded (drain st fuel b) := by
  induction fuel with
  | zero => exact id
  | succ fuel ih =>
    intro b h
    unfold drain
    split
    · split_ifs
      · exact ih ((missEntry_placement _ b).bounded h)
      · exact ih (startOnce_bounded _ h)
      · exact h
    · exact h

theorem placeBatch_bounded (quiet : Bool) (ns : List Nat) {b : Blocks} (h : ActiveBounded b) : ActiveBounded (placeBatch quiet ns b) :=
  drain_bounded _ _ (forEach_keeps (P := ActiveBounded) (fun n c hc => (placeOnly_placement quiet n c).bounded hc) _ b h)

theorem forwardStep_bounded {b : Blocks} (h : ActiveBounded b) : ActiveBounded (forwardStep b) := by
  unfold forwardStep
  split
  · exact h
  · refine (armDue_placement _).bounded (drain_bounded _ _ (forEach_keeps (P := ActiveBounded) (fun o c hc => ?_) _ b h))
    unfold completeInStep
    split
    · exact hc
    · split_ifs
      · exact (placeOnly_placement _ _ _).bounded (leave_bounded _ _ _ hc)
      · exact hc

/-! ## The Active Table under the other operations -/

theorem TouchesFades.active {a b : Blocks} (h : TouchesFades a b) : b.active = a.active := by rw [h]

@[simp] theorem followWindow_active (b : Blocks) : (followWindow b).active = b.active := by
  unfold followWindow
  split_ifs
  · exact (lowerNonExempt_fades _).active
  · exact (defaultHandovers_fades _ _).active
  · rfl

@[simp] theorem issueTick_active_length (b : Blocks) : (issueTick b).active.length = b.active.length := by
  unfold issueTick
  split
  · rfl
  · split_ifs <;> simp

@[simp] theorem prune_active (b : Blocks) : (prune b).active = b.active := by
  unfold prune; split <;> rfl

@[simp] theorem updateTime_active (g : TimeBase → TimeBase) (b : Blocks) : (b.updateTime g).active = b.active := rfl

@[simp] theorem updateCue_active (g : CueReceiver → CueReceiver) (b : Blocks) : (b.updateCue g).active = b.active := rfl

@[simp] theorem setTimeState_active (st : TimeState) (b : Blocks) : (setTimeState st b).active = b.active := by
  unfold setTimeState; split_ifs <;> simp

@[simp] theorem setRate_active (rate : Nat) (b : Blocks) : (setRate rate b).active = b.active := by
  unfold setRate; split_ifs <;> simp

theorem stepTo_bounded (target : Instant) {b : Blocks} (h : ActiveBounded b) : ActiveBounded (stepTo target b) := by
  have hnoted : ∀ g, ActiveBounded ((b.updateTime g).report .timeBase .stepped) := fun g => by
    unfold ActiveBounded
    rw [report_active]
    exact h
  have hfollowed : ∀ {c}, ActiveBounded c → ActiveBounded (followWindow c) ∧ ActiveBounded (prune (followWindow c)) := fun {c} hc => by
    unfold ActiveBounded
    rw [prune_active, followWindow_active]
    exact ⟨hc, hc⟩
  unfold stepTo
  split
  · exact h
  · dsimp only
    split_ifs
    · exact hnoted _
    · exact (hfollowed (forwardStep_bounded (hnoted _))).2
    · exact (hfollowed (hnoted _)).2
    · exact (hfollowed (forwardStep_bounded (hnoted _))).1
    · exact (hfollowed (hnoted _)).1

theorem applyMark_bounded (v : Instant) (edge : Option Nat) {b : Blocks} (h : ActiveBounded b) : ActiveBounded (applyMark v edge b) := by
  have hrestarted : ActiveBounded (setTimeState .free (b.updateTime (restartMeasurement edge b.ownUs))) := by
    unfold ActiveBounded
    rw [setTimeState_active]
    exact h
  unfold applyMark
  split
  · exact stepTo_bounded v hrestarted
  · unfold firstSetting ActiveBounded
    rw [prune_active, followWindow_active]
    exact placeBatch_bounded _ _ hrestarted

theorem discipline_bounded {b : Blocks} (h : ActiveBounded b) : ActiveBounded (discipline b) := by
  unfold discipline
  split
  · exact h
  · dsimp only
    split_ifs
    · exact h
    · exact h
    · exact (issueTick_active_length _).trans_le h
    · exact stepTo_bounded _ h

theorem validEdge_bounded (n : Nat) {b : Blocks} (h : ActiveBounded b) : ActiveBounded (validEdge n b) := by
  unfold validEdge
  dsimp only
  split_ifs
  · refine discipline_bounded ?_
    unfold ActiveBounded
    rw [setRate_active, setTimeState_active]
    exact h
  · exact h

@[simp] theorem invalidEdge_active (n : Nat) (b : Blocks) : (invalidEdge n b).active = b.active := by
  unfold invalidEdge
  dsimp only
  split_ifs <;> simp

theorem takeEdge_bounded {b : Blocks} (h : ActiveBounded b) : ActiveBounded (takeEdge b) := by
  unfold takeEdge
  split
  · exact applyMark_bounded _ _ h
  · dsimp only
    split
    · exact h
    · split_ifs
      · exact validEdge_bounded _ h
      · unfold ActiveBounded
        rw [invalidEdge_active]
        exact h

@[simp] theorem regularTick_active_length (b : Blocks) : (regularTick b).active.length = b.active.length := by
  unfold regularTick
  dsimp only
  split_ifs <;> simp

@[simp] theorem takeMidnight_active (b : Blocks) : (takeMidnight b).active = b.active := by
  unfold takeMidnight; split_ifs <;> simp

@[simp] theorem holdoverTimeout_active (b : Blocks) : (holdoverTimeout b).active = b.active := by
  unfold holdoverTimeout
  split
  · split_ifs <;> simp
  · rfl

@[simp] theorem edgeSaturation_active (b : Blocks) : (edgeSaturation b).active = b.active := by
  unfold edgeSaturation; split <;> simp

theorem pendingExpiry_bounded {b : Blocks} (h : ActiveBounded b) : ActiveBounded (pendingExpiry b) := by
  unfold pendingExpiry
  split
  · exact applyMark_bounded _ _ h
  · exact h

@[simp] theorem setCueState_active (st : CueState) (b : Blocks) : (setCueState st b).active = b.active := by
  unfold setCueState; split_ifs <;> simp

@[simp] theorem cueWord_active_length (checked : Bool) (time : Nat) (running : Bool) (b : Blocks) :
    (cueWord checked time running b).active.length = b.active.length := by
  have hfollowing : ∀ c, (setFollowing time c).active.length = c.active.length := fun c => List.length_map ..
  have hawaiting : ∀ c, (followAwaiting c).active.length = c.active.length := fun c => List.length_map ..
  have hmoved : ∀ a c, (moveOnWord a c).active.length = c.active.length := by
    intro a c
    unfold moveOnWord
    repeat' split
    all_goals simp [hawaiting]
  unfold cueWord takeWord
  dsimp only
  split_ifs <;> simp [hfollowing, hmoved]

@[simp] theorem loseLock_active (b : Blocks) : (loseLock b).active =
    b.active.map (fun o => if o.follow = .following then { o with follow := .free } else o) := by
  unfold loseLock
  exact forEach_keeps (P := fun c => c.active = _) (fun n c hc => (report_active c _ _).trans hc) _ _ rfl

@[simp] theorem silenceTimeout_active_length (b : Blocks) : (silenceTimeout b).active.length = b.active.length := by
  unfold silenceTimeout
  split
  · rfl
  · dsimp only
    split_ifs <;> simp

@[simp] theorem completeRender_active (b : Blocks) : (completeRender b).active = b.active := by
  unfold completeRender
  split
  · rfl
  · refine forEach_keeps (P := fun c => c.active = b.active) (fun f c hc => ?_) _ _ rfl
    unfold recordScale
    dsimp only
    split_ifs <;> simpa using hc

@[simp] theorem darkenFeeder_active (f : Nat) (b : Blocks) : (darkenFeeder f b).active = b.active := by
  have hdark : (forEach (allZones.filter (b.onFeeder f)) darkenZone b).active = b.active := by
    refine forEach_keeps (P := fun c => c.active = b.active) (fun z c hc => ?_) _ _ rfl
    unfold darkenZone
    split_ifs <;> simpa using hc
  exact hdark

@[simp] theorem setContactor_active (f : Nat) (closed : Bool) (b : Blocks) : (setContactor f closed b).active = b.active := by
  rw [setContactor_touches f closed b]

@[simp] theorem reevaluateFeeder_active (f : Nat) (b : Blocks) : (reevaluateFeeder f b).active = b.active := by
  rw [reevaluateFeeder_touches f b]

@[simp] theorem scanChannel_active (c x y : Nat) (b : Blocks) : (scanChannel c x y b).active = b.active := by
  obtain ⟨-, h⟩ | ⟨-, -, h⟩ | ⟨-, -, -, h⟩ | ⟨-, -, -, h⟩ := scanChannel_cases c x y b
  · rw [h]
  · rw [h]; rfl
  · rw [h]; rfl
  · rw [h]
    obtain ⟨-, k⟩ | ⟨-, -, k⟩ | ⟨-, -, k⟩ := currentSample_cases (c - 4) ((x + y) / 2) (storeScan c (some ((x + y) / 2)) 0 b)
    · rw [k]; rfl
    · rw [k]; rfl
    · rw [k, tripFeeder, darkenFeeder_active, report_active, setContactor_active]; rfl

@[simp] theorem endCalibration_active (b : Blocks) : (endCalibration b).active = b.active := by
  unfold endCalibration; split_ifs <;> rfl

@[simp] theorem idleExpiry_active (f : Nat) (b : Blocks) : (idleExpiry f b).active = b.active := by
  unfold idleExpiry; split <;> simp

end Sys2Proof.Machine

/-! PROOFS. What the rows of the Riser Controllers and the Zone Directory may touch, and obligation O15 put together. -/

namespace Sys2Proof.Machine

/-! ## The Riser Controllers -/

section
variable {a b : Blocks} (h : TouchesNodes a b)
include h

theorem TouchesNodes.active : b.active = a.active := by rw [h]
theorem TouchesNodes.time : b.time = a.time := by rw [h]
theorem TouchesNodes.scan : b.scan = a.scan := by rw [h]

end

theorem updateRiser_nodes (r : Nat) (g : Riser → Riser) (b : Blocks) : TouchesNodes b (b.updateRiser r g) := rfl

theorem updateZone_nodes (z : Nat) (g : Zone → Zone) (b : Blocks) : TouchesNodes b (b.updateZone z g) := rfl

theorem setZone_nodes (z : Nat) (c : Option Zone) (b : Blocks) : TouchesNodes b (b.setZone z c) := rfl

theorem advanceTo_nodes (us : Nat) (b : Blocks) : TouchesNodes b (b.advanceTo us) := rfl

theorem report_nodes (r : RecordId) (k : ChangeKind) (b : Blocks) : TouchesNodes b (b.report r k) := (report_touches b r k).nodes

theorem absentZone_nodes (all : Bool) (z : Nat) (b : Blocks) : TouchesNodes b (absentZone all z b) := by
  unfold absentZone
  split
  · rfl
  · exact (updateZone_nodes z _ b).trans (setNode_touches z _ _)

theorem enterStarting_nodes (r : Nat) (b : Blocks) : TouchesNodes b (enterStarting r b) :=
  (updateRiser_nodes r _ b).trans ((forEach_rel TouchesNodes.refl TouchesNodes.trans (absentZone_nodes true) _ _).trans
    (beginFrames_touches r _ _))

theorem disableRiser_nodes (r : Nat) (b : Blocks) : TouchesNodes b (disableRiser r b) :=
  (updateRiser_nodes r _ b).trans ((forEach_rel TouchesNodes.refl TouchesNodes.trans (absentZone_nodes false) _ _).trans
    (enterRiserState_touches r _ _))

theorem configureRiser_nodes (r : Nat) (y : RiserBody) (b : Blocks) : TouchesNodes b (configureRiser r y b).1 := by
  have hset := fun x => updateRiser_nodes r (fun _ => x) b
  unfold configureRiser
  split
  · rfl
  split
  · rfl
  · dsimp only
    split_ifs
    · exact (hset _).trans (enterStarting_nodes r _)
    · exact (hset _).trans (disableRiser_nodes r _)
    · rfl
    · exact (hset _).trans ((enterStarting_nodes r _).trans (updateRiser_nodes r _ _))
    · exact (hset _).trans ((disableRiser_nodes r _).trans (updateRiser_nodes r _ _))
    · rfl

theorem riserReset_nodes (r : Nat) (b : Blocks) : TouchesNodes b (riserReset r b).1 := by
  unfold riserReset
  split_ifs
  · rfl
  · rfl
  · exact enterStarting_nodes r b

theorem rollCall_nodes (r : Nat) (b : Blocks) : TouchesNodes b (rollCall r b).1 := by
  unfold rollCall
  split_ifs
  · rfl
  · rfl
  · rfl
  · exact startRollCall_touches r b

theorem nextFrame_nodes (r : Nat) (b : Blocks) : TouchesNodes b (nextFrame r b) := by
  unfold nextFrame
  dsimp only
  split
  · exact (advanceTo_nodes _ b).trans (sendFrame_touches r _)
  · rfl

theorem retryExpiry_nodes (r : Nat) (b : Blocks) : TouchesNodes b (retryExpiry r b) := by
  unfold retryExpiry
  split
  · exact (advanceTo_nodes _ b).trans ((updateRiser_nodes r _ _).trans (beginFrames_touches r _ _))
  · rfl

theorem takeTally_nodes (z : Nat) (flags : TallyStatus) (b : Blocks) : TouchesNodes b (takeTally z flags b) := by
  have hready := fun c => (setZone_nodes z c b).trans (setNode_touches z .ready _)
  unfold takeTally
  split
  · rfl
  · dsimp only
    split_ifs
    · exact (hready _).trans ((report_nodes _ _ _).trans (report_nodes _ _ _))
    · exact (hready _).trans (report_nodes _ _ _)
    · exact (hready _).trans (report_nodes _ _ _)
    · exact hready _
    · rfl

theorem tallyReply_nodes (r : Nat) (reply : List Byte) (b : Blocks) : TouchesNodes b (tallyReply r reply b) := by
  unfold tallyReply
  split
  · split
    · rfl
    split
    · rfl
    · dsimp only
      split
      · exact (updateRiser_nodes r _ b).trans (takeTally_nodes _ _ _)
      · rfl
  · rfl

theorem noticeWindow_nodes (r : Nat) (contender : Option Nat) (b : Blocks) : TouchesNodes b (noticeWindow r contender b) := by
  unfold noticeWindow noticeResult
  dsimp only
  split
  · split
    · rfl
    · split
      · exact (updateRiser_nodes r _ b).trans (startRollCall_touches r _)
      · rfl
    · rfl
  · rfl

theorem assignZone_nodes (r z : Nat) (o : Offer) (c : Zone) (b : Blocks) : TouchesNodes b (assignZone r z o c b) :=
  (updateRiser_nodes r _ b).trans ((updateZone_nodes z _ _).trans ((setFault_touches z _ _).trans (setNode_touches z _ _)))

theorem decideRound_nodes (r serial : Nat) (o : Option Offer) (b : Blocks) : TouchesNodes b (decideRound r serial o b) := by
  have hsent : ∀ m, TouchesNodes b (sendDirected r m .done b) := fun _ => rfl
  unfold decideRound standBy
  split
  · dsimp only
    split_ifs
    · rfl
    · exact (hsent _).trans ((assignZone_nodes _ _ _ _ _).trans (updateRiser_nodes r _ _))
  · exact (hsent _).trans ((updateRiser_nodes r _ _).trans ((report_nodes _ _ _).trans (updateRiser_nodes r _ _)))

theorem contend_nodes (r : Nat) (w : Option SerialWord) (b : Blocks) : TouchesNodes b (contend r w b) := by
  have hended : TouchesNodes b (((sendDirected r .rollCall .done b).updateRiser r endRollCall).report (.riser r) .rollCallDone) :=
    (updateRiser_nodes r _ b).trans ((updateRiser_nodes r _ _).trans (report_nodes _ _ _))
  unfold contend finishRollCall
  dsimp only
  split
  · rfl
  · split
    · exact hended.trans (enterRiserState_touches r _ _)
    · exact hended

theorem directedWindow_nodes (r : Nat) (w : Option SerialWord) (b : Blocks) : TouchesNodes b (directedWindow r w b) := by
  unfold directedWindow serveRound
  dsimp only
  split
  · rfl
  split
  · rfl
  split
  · rfl
  · rfl
  · rfl
  · split
    · exact contend_nodes r w b
    · rfl
    · exact decideRound_nodes r _ _ b

theorem unconfirmedFallback_nodes (z : Nat) (b : Blocks) : TouchesNodes b (unconfirmedFallback z b) :=
  (updateZone_nodes z _ b).trans (report_nodes _ _ _)

theorem attemptFailed_nodes (r : Nat) (b : Blocks) : TouchesNodes b (attemptFailed r b) := by
  have hdropped : TouchesNodes b (dropHead r (endWindow r b)) := rfl
  unfold attemptFailed failExchange
  split
  · rfl
  · split_ifs
    · rfl
    · rfl
    · split
      · exact hdropped.trans (unconfirmedFallback_nodes _ _)
      · exact hdropped

theorem noticeReply_nodes (r : Nat) (reply : List Byte) (b : Blocks) : TouchesNodes b (noticeReply r reply b) := by
  have hdropped : TouchesNodes b (dropHead r (endWindow r b)) := rfl
  unfold noticeReply
  split
  · split
    · rfl
    · dsimp only
      split
      · exact hdropped.trans (setFault_touches _ _ _)
      · exact hdropped
  · rfl

theorem fallbackReply_nodes (r : Nat) (reply : List Byte) (b : Blocks) : TouchesNodes b (fallbackReply r reply b) := by
  have hdropped : TouchesNodes b (dropHead r (endWindow r b)) := rfl
  unfold fallbackReply
  split
  · split
    · dsimp only
      split
      · split
        · exact hdropped.trans (setFault_touches _ _ _)
        · exact hdropped
      · exact hdropped
    · rfl
  · rfl

theorem offerReply_nodes (r : Nat) (reply : List Byte) (b : Blocks) : TouchesNodes b (offerReply r reply b) := by
  unfold offerReply
  split
  · rfl
  · split <;> rfl

theorem offerFailed_nodes (r : Nat) (b : Blocks) : TouchesNodes b (offerFailed r b) := by
  unfold offerFailed; split <;> rfl

/-! ## The Zone Directory -/

theorem clearNode_nodes (z : Nat) (b : Blocks) : TouchesNodes b (clearNode z b).1 := by
  have hjoined : ∀ r e g, TouchesNodes b ((joinQueue r e b).updateZone z g) := fun _ _ _ => rfl
  unfold clearNode
  split
  · rfl
  split
  · rfl
  split_ifs
  · rfl
  · rfl
  · rfl
  · exact (hjoined _ _ _).trans (setNode_touches z _ _)

theorem tellFeeders_touches (old : Option Zone) (c : Zone) (b : Blocks) : TouchesFeeders b (tellFeeders old c b) := by
  unfold tellFeeders
  split
  · exact reevaluateFeeder_touches _ b
  · split
    · rfl
    · exact (reevaluateFeeder_touches _ b).trans (reevaluateFeeder_touches _ _)

theorem queueFallback_nodes (z : Nat) (c : Zone) (b : Blocks) : TouchesNodes b (queueFallback z c b).1 := by
  unfold queueFallback
  split_ifs
  · rfl
  · exact unconfirmedFallback_nodes z b
  · rfl

theorem storeZone_nodes (z : Nat) (x : ZoneBody) (c : Zone) (b : Blocks) : TouchesNodes b (storeZone z x c b).1 := by
  have hstored : ∀ c, TouchesNodes b (setNode z (nodeBySerial c) (tellFeeders (b.zone? z) c (b.setZone z (some c)))) :=
    fun c => (setZone_nodes z _ b).trans ((tellFeeders_touches _ c _).nodes.trans (setNode_touches z _ _))
  unfold storeZone
  dsimp only
  split
  · exact (hstored _).trans (queueFallback_nodes z _ _)
  · exact hstored _

/-- Only the zone records, the risers, the feeders, the latest render and the Notice List may differ. -/
def TouchesDirectory (a b : Blocks) : Prop :=
  b = { a with
    ownUs := b.ownUs, zones := b.zones, risers := b.risers, feeders := b.feeders, notices := b.notices, deferral := b.deferral
    chain := { a.chain with latest := b.chain.latest } }

theorem TouchesNodes.directory {a b : Blocks} (h : TouchesNodes a b) : TouchesDirectory a b := by
  unfold TouchesNodes TouchesDirectory at *; rw [h]

theorem TouchesDirectory.trans {a b c : Blocks} (h : TouchesDirectory a b) (k : TouchesDirectory b c) : TouchesDirectory a c := by
  unfold TouchesDirectory at *; rw [k, h]

theorem TouchesDirectory.active {a b : Blocks} (h : TouchesDirectory a b) : b.active = a.active := by rw [h]

theorem removeZone_directory (z : Nat) (c : Zone) (b : Blocks) : TouchesDirectory b (removeZone z c b).1 := by
  have hout : ∀ x : Blocks, TouchesDirectory x (x.updateLatest z (fun _ => .absent)) := fun _ => rfl
  have hset : TouchesDirectory b (b.setZone z none) := rfl
  unfold removeZone
  dsimp only
  split
  · exact (hset.trans (hout _)).trans (reevaluateFeeder_touches _ _).nodes.directory
  · exact ((hset.trans (report_nodes _ _ _).directory).trans (hout _)).trans (reevaluateFeeder_touches _ _).nodes.directory

theorem configureZone_directory (z : Nat) (x : ZoneBody) (b : Blocks) : TouchesDirectory b (configureZone z x b).1 := by
  unfold configureZone
  dsimp only
  repeat' split
  all_goals first | rfl | exact removeZone_directory z _ b | exact (storeZone_nodes z x _ b).directory

/-! ## The other requests -/

theorem driveLine_active (line : OutputLine) (so : Option OutputSource) (co : Option OutputCommand) (b : Blocks) :
    (driveLine line so co b).active = b.active := by
  cases line with
  | contactor f =>
    unfold driveLine setContactorOutput
    dsimp only
    repeat' split
    all_goals simp
  | showLive => rfl
  | curfewActive => rfl

theorem setOutput_active (line : Code OutputLine) (so : Option (Code OutputSource)) (co : Option (Code OutputCommand)) (b : Blocks) :
    (setOutput line so co b).1.active = b.active := by
  unfold setOutput
  split
  · dsimp only
    split_ifs
    · rfl
    · exact driveLine_active _ _ _ b
    · rfl
  · rfl

theorem recloseFeeder_active (f : Nat) (b : Blocks) : (recloseFeeder f b).1.active = b.active := by
  unfold recloseFeeder
  split_ifs
  · rfl
  · rfl
  · have hdriven : ∀ c : Blocks, (driveReclosed f c).active = c.active := by
      intro c
      unfold driveReclosed
      repeat' split
      all_goals simp
    exact (hdriven _).trans (defaultHandovers_fades _ _).active

theorem armDue_active (b : Blocks) : (armDue b).active = b.active := (armDue_placement b).active

theorem withdraw_active_length_le (n : Nat) (b : Blocks) : (withdraw n b).1.active.length ≤ b.active.length := by
  have hended : (withdrawActive n b).active.length ≤ b.active.length := by
    unfold withdrawActive
    split
    · rfl
    · exact (resolve_active_length _ _ _).trans_le (dropRecord_active_length_le _ b)
  have hfreed : ∀ c : Blocks, (freeSlot n (dropEntry n c)).active = c.active := fun c => (freeSlot_placement n (dropEntry n c)).active
  unfold withdraw
  split_ifs
  · rfl
  · split
    · rfl
    · dsimp only
      rw [hfreed, (removeEntry_placement n _).active]
      exact hended

theorem setCurfew_active (body : CurfewBody) (b : Blocks) : (setCurfew body b).1.active = b.active := by
  have hstored : ∀ c : Blocks, (lowerNonExempt c).active = c.active := fun c => (lowerNonExempt_fades c).active
  unfold setCurfew
  dsimp only
  split <;> split_ifs <;> simp [hstored]

theorem setAmbient_active (x : AmbientBody) (b : Blocks) : (setAmbient x b).1.active = b.active := by
  unfold setAmbient
  dsimp only
  split_ifs <;> rfl

theorem setHoldLook_active (l : Levels) (b : Blocks) : (setHoldLook l b).1.active = b.active := by
  unfold setHoldLook
  dsimp only
  split_ifs
  · rfl
  · exact (defaultHandovers_fades _ _).active
  · rfl

theorem configureSchedule_active (lead handover : Option Nat) (b : Blocks) : (configureSchedule lead handover b).1.active = b.active := by
  unfold configureSchedule
  dsimp only
  split_ifs
  · rfl
  · rfl
  · exact armDue_active _

/-- Every occurrence ends at a Restart Schedule before any is placed, so the Active Table then holds no more than before. -/
theorem restartSchedule_bounded {b : Blocks} (h : ActiveBounded b) : ActiveBounded (restartSchedule b).1 := by
  have hended : ActiveBounded (forEach (restartBegin b).active restartOccurrence (restartBegin b)) := by
    refine forEach_keeps (P := ActiveBounded) (fun o c hc => ?_) _ _ h
    have hless : (restartOccurrence o c).active.length ≤ c.active.length := by
      unfold restartOccurrence
      rw [reportEnded_active]
      exact (resolve_active_length _ _ _).trans_le (dropRecord_active_length_le o c)
    exact hless.trans hc
  have hplaced : ActiveBounded (restartPlace (restartBegin b)) :=
    placeBatch_bounded _ _ (forEach_keeps (P := ActiveBounded) (fun n c hc => (removeEntry_placement n c).bounded hc) _ _ hended)
  have hhandovers : (restartHandovers (restartPlace (restartBegin b))).active = (restartPlace (restartBegin b)).active :=
    (forEach_rel TouchesFades.refl TouchesFades.trans (fun z c => startHandover_fades z _ c) _ _ : TouchesFades _ _).active
  have hdeferral : ∀ c : Blocks, (endDeferral c).active = c.active := by
    intro c
    unfold endDeferral
    rw [reevaluateShowLive_active, forEach_rel TouchesFeeders.refl TouchesFeeders.trans evaluateFeeder_touches _ _]
  show ActiveBounded (endDeferral _)
  unfold ActiveBounded
  rw [hdeferral, hhandovers]
  exact hplaced

theorem amend_bounded (l : List Byte) {b : Blocks} (h : ActiveBounded b) : ActiveBounded (amend l b).1 := by
  have hrunning : ∀ m k f o, ActiveBounded (amendRunning m k f o { b with lastFreed := none }).1 := by
    intro m k f o
    have hheld : ∀ {c}, ActiveBounded c → ActiveBounded (amendHolding m k.number k.fields f c) := by
      intro c hc
      unfold amendHolding
      split_ifs
      · refine (resolve_active_length _ _ _).trans_le ?_
        rw [updateActive_active, List.length_map]
        exact hc
      · exact hc
    have hexempt : ∀ c, (amendExempt k.number k.fields f c).active = c.active := by
      intro c
      unfold amendExempt
      split_ifs
      · exact (forEach_rel TouchesFades.refl TouchesFades.trans (lowerZone_fades _) _ c).active
      · rfl
    have hfollow : ∀ c, (amendFollow m k.number k.fields f c).active.length = c.active.length := by
      intro c
      unfold amendFollow
      split_ifs <;> simp
    have hamended := (hfollow (amendExempt k.number k.fields f _)).trans_le ((congrArg List.length (hexempt _)).trans_le
      (hheld (c := storeFields k.number f { b with lastFreed := none }) h))
    unfold amendRunning
    dsimp only
    split
    · exact hamended
    · exact hamended
    · unfold moveEnd ActiveBounded
      simpa using hamended
    · exact place_bounded _ (leave_bounded _ _ _ hamended)
  unfold amend
  split
  · exact h
  unfold amendWith
  dsimp only
  repeat' split
  all_goals try exact h
  · exact hrunning _ _ _ _
  · exact place_bounded _ ((removeEntry_placement _ _).bounded h)

theorem book_bounded (l : List Byte) {b : Blocks} (h : ActiveBounded b) : ActiveBounded (book l b).1 := by
  have hadded : ∀ n f, ActiveBounded (addBooking n f b) := by
    intro n f
    unfold addBooking takeSlot
    dsimp only
    split_ifs <;> exact h
  unfold book
  repeat' split
  all_goals try exact h
  exact place_bounded _ (hadded _ _)

theorem removeNotice_placement (b : Blocks) : TouchesPlacement b (removeNotice b) := by
  have hleft : ∀ l, TouchesPlacement b { b with notices := l } := fun _ => rfl
  unfold removeNotice
  split
  · rfl
  · dsimp only
    split
    · exact (hleft _).trans (freeSlot_placement _ _)
    · exact hleft _

/-! ## O15 -/

theorem eventEffect_bounded (c : Instr) {b : Blocks} (h : ActiveBounded b) : ActiveBounded (eventEffect c b) := by
  have hsame : ∀ {x : Blocks}, x.active = b.active → ActiveBounded x := fun hx => by
    unfold ActiveBounded
    rw [hx]
    exact h
  cases c with
  | entryArmed =>
    refine TouchesPlacement.bounded ?_ h
    show TouchesPlacement b (reachLead _ b)
    unfold reachLead
    repeat' split
    all_goals first | rfl | exact armEntry_placement _ b
  | occurrenceStart =>
    show ActiveBounded (reachStart b)
    unfold reachStart
    repeat' split
    all_goals first | exact h | exact takeStart_bounded _ h
  | occurrenceEnd =>
    show ActiveBounded (reachEnd _ b)
    unfold reachEnd
    repeat' split
    all_goals first | exact h | exact place_bounded _ (leave_bounded _ _ _ h)
  | panelHoldAssertion =>
    show ActiveBounded (assertPanelHold b)
    unfold assertPanelHold
    split
    · exact h
    · exact hsame (defaultHandovers_fades _ _).active
  | panelHoldRelease =>
    show ActiveBounded (releasePanelHold b)
    unfold releasePanelHold
    split
    · exact hsame (defaultHandovers_fades _ _).active
    · exact h
  | renderStart => unfold eventEffect; dsimp only; split_ifs <;> exact h
  | renderTimerExpiryLost => unfold eventEffect; dsimp only; split_ifs <;> exact h
  | renderCompletion => exact hsame (completeRender_active b)
  | curfewOpening => unfold eventEffect; dsimp only; split_ifs; exacts [hsame (lowerNonExempt_fades _).active, h]
  | curfewClosing => unfold eventEffect; dsimp only; split_ifs; exacts [hsame (defaultHandovers_fades _ _).active, h]
  | civilTick => exact (regularTick_active_length b).trans_le h
  | midnight => exact hsame (takeMidnight_active b)
  | pulseEdge elapsed => exact takeEdge_bounded (b := b.advanceTo _) h
  | holdoverTimeout => exact hsame (holdoverTimeout_active b)
  | edgeCounterSaturation => exact hsame (edgeSaturation_active b)
  | pendingMarkExpiry => exact pendingExpiry_bounded h
  | cueWord => exact (cueWord_active_length _ _ _ b).trans_le h
  | silenceTimeout => exact (silenceTimeout_active_length b).trans_le h
  | frameSend => exact hsame (nextFrame_nodes _ b).active
  | tallyReply => exact hsame (tallyReply_nodes _ _ b).active
  | noticeWindow => exact hsame (noticeWindow_nodes _ _ b).active
  | directedWindow => exact hsame (directedWindow_nodes _ _ b).active
  | directedAttemptFailed => exact hsame (attemptFailed_nodes _ b).active
  | noticeRead => exact hsame (noticeReply_nodes _ _ b).active
  | setFallback => exact hsame (fallbackReply_nodes _ _ b).active
  | offer => exact hsame (offerReply_nodes _ _ b).active
  | offerMissingOrNotGood => exact hsame (offerFailed_nodes _ b).active
  | lineFault => exact hsame (lineFault_touches _ b).active
  | retryTimerExpiry => exact hsame (retryExpiry_nodes _ b).active
  | calibrationEnd => exact hsame (endCalibration_active b)
  | sensorScan => exact hsame (scanChannel_active _ _ _ b)
  | idleTimerExpiry => exact hsame (idleExpiry_active _ b)
  | _ => exact h

theorem fieldsService_bounded (f : RequestFields) {b : Blocks} (h : ActiveBounded b) : ActiveBounded (fieldsService f b).1 := by
  have hsame : ∀ {x : Blocks}, x.active = b.active → ActiveBounded x := fun hx => by
    unfold ActiveBounded
    rw [hx]
    exact h
  cases f with
  | restartSchedule => exact restartSchedule_bounded h
  | withdraw n => exact (withdraw_active_length_le n b).trans h
  | markTime day tod mode =>
    show ActiveBounded (markTime day tod mode b).1
    unfold markTime
    repeat' split
    all_goals first | exact h | exact applyMark_bounded _ _ h
  | loadAlmanac days =>
    show ActiveBounded (loadAlmanac days b).1
    unfold loadAlmanac
    dsimp only
    repeat' split
    all_goals try exact h
    exact placeBatch_bounded _ _ (forEach_keeps (P := ActiveBounded) (fun n c hc => (removeEntry_placement n c).bounded hc)
      _ { b with almanac := _ } h)
  | followAgain n =>
    show ActiveBounded (followAgain n b).1
    unfold followAgain
    dsimp only
    repeat' split
    all_goals first | exact h | exact (List.length_map ..).trans_le h
  | configureZone z x => exact hsame (configureZone_directory z x b).active
  | clearNode z => exact hsame (clearNode_nodes z b).active
  | configureRiser r y => exact hsame (configureRiser_nodes r y b).active
  | riserReset r => exact hsame (riserReset_nodes r b).active
  | rollCall r => exact hsame (rollCall_nodes r b).active
  | setCurfew body => exact hsame (setCurfew_active body b)
  | setAmbient x => exact hsame (setAmbient_active x b)
  | setHoldLook l => exact hsame (setHoldLook_active l b)
  | configureSchedule lead handover => exact hsame (configureSchedule_active lead handover b)
  | setOutput line so co => exact hsame (setOutput_active line so co b)
  | recloseFeeder n => exact hsame (recloseFeeder_active n b)
  | _ =>
    unfold fieldsService lookUp listUpcoming forecast programOpen programSteps programClose programRemove programReport zoneReport
      riserReport setCalendarBase timeReport configureFeeder feederReport readChannel setNoticeMask
    dsimp only
    repeat' split
    all_goals exact h

theorem resetBlocks_sized : TablesSized resetBlocks := by
  unfold TablesSized; decide

theorem resetBlocks_bounded : ActiveBounded resetBlocks := by
  unfold ActiveBounded; decide

/-- Settles O15: what each row does to the sizes of the tables and to the number of occurrences, and a full reset's tables. -/
theorem stepKeepsTablesSized : Obligations.StepKeepsTablesSized := by
  unfold Obligations.StepKeepsTablesSized
  constructor
  · intro s t h hstep
    obtain ⟨c, rest, -, hexec⟩ | ⟨-, rfl⟩ := step_cases hstep
    · by_cases hc : c = .fullReset
      · subst hc; cases hexec; exact resetBlocks_sized
      · rw [tablesSized_iff] at h ⊢
        exact exec_keeps (P := fun a b => Sized false a → Sized false b) (fun _ => id) (fun c _ => eventEffect_sized c)
          (fun f _ => fieldsService_sized f) (fun l _ => book_sized l) (fun l _ => amend_sized l) (fun _ => removeNotice_sized)
          hexec hc h
    · exact tablesSized_iff.2 (passIdle_sized (tablesSized_iff.1 h))
  · intro s t h hstep
    obtain ⟨c, rest, -, hexec⟩ | ⟨-, rfl⟩ := step_cases hstep
    · by_cases hc : c = .fullReset
      · subst hc; cases hexec; exact resetBlocks_bounded
      · exact exec_keeps (P := fun a b => ActiveBounded a → ActiveBounded b) (fun _ => id) (fun c _ => eventEffect_bounded c)
          (fun f _ => fieldsService_bounded f) (fun l _ => book_bounded l) (fun l _ => amend_bounded l)
          (fun b => (removeNotice_placement b).bounded) hexec hc h
    · show ActiveBounded (passIdle s.blocks)
      unfold passIdle progressRender
      repeat' split
      all_goals exact h

end Sys2Proof.Machine

/-! PROOFS. The machine, the Request Port and the Notice List: obligations O1 to O5, O8 to O11, O13, O14, O17, O19 and O20. -/

namespace Sys2Proof.Machine

/-! ## The machine -/

/-- Settles O1: a step with a command at the front is `exec` by definition. -/
theorem stepRunsFrontCommand : Obligations.StepRunsFrontCommand := by
  unfold Obligations.StepRunsFrontCommand
  intro c rest s
  rfl

/-- A render in flight goes on by one zone number, and stays as it is once it has reached them all. -/
theorem progressRender_eq (b : Blocks) :
    progressRender b = { b with chain := { b.chain with
      flight := b.chain.flight.map (fun fl => if fl.nextZone < 96 then reachNext b fl else fl) } } := by
  have hkept : ∀ x, b.chain.flight = x → { b with chain := { b.chain with flight := x } } = b := by rintro _ rfl; rfl
  unfold progressRender
  cases hflight : b.chain.flight with
  | none => exact (hkept _ hflight).symm
  | some fl =>
    by_cases hleft : fl.nextZone < 96
    · simp [hleft, Config.zoneCount]
    · simp [hleft, Config.zoneCount, hkept _ hflight]

/-- Settles O2: idling is one µs of own count and the render's progress. -/
theorem idleStepPassesOneMicrosecond : Obligations.IdleStepPassesOneMicrosecond := by
  unfold Obligations.IdleStepPassesOneMicrosecond
  intro s hpending
  unfold step
  rw [hpending]
  simp only [State.mapBlocks, passIdle, progressRender_eq]
  rw [← hpending]

/-! ## What each row leaves of the port -/

/-- Every row but FULL_RESET answers a next state in which the commands that wait stand and at most one queue of the port has
grown, by one. -/
theorem exec_next (c : Instr) (s : State) :
    ∃ t, exec c s = .next t ∧ t.pending = s.pending ∧ (PortBounded s → PortBounded t) := by
  have hanswered : ∀ (r : Request) (kind : Byte) (a : Answer), s.port.replies.length < 4 → PortBounded s →
      (s.port.answer r kind a).requests.length ≤ 4 ∧ (s.port.answer r kind a).replies.length ≤ 4 := by
    rintro r kind a hroom ⟨hrequests, -⟩
    simp only [Port.answer, List.length_tail, List.length_append, List.length_singleton]
    omega
  cases hrow : requestKind c with
  | some k =>
    obtain hidle | ⟨r, ⟨-, hroom, -⟩, -, hserved⟩ := exec_request_cases hrow s
    · exact ⟨s, hidle, rfl, id⟩
    · exact ⟨_, hserved, rfl, hanswered r r.kind _ hroom⟩
  | none =>
    cases hport : actsOnPort c with
    | false => exact ⟨_, exec_event hrow hport s, rfl, id⟩
    | true =>
      cases c with
      | fullReset => exact ⟨_, rfl, rfl, fun _ => ⟨Nat.zero_le 4, Nat.zero_le 4⟩⟩
      | sendRequest r =>
        refine ⟨_, rfl, rfl, fun ⟨hrequests, hreplies⟩ => ?_⟩
        unfold PortBounded sendRequest
        dsimp only
        split
        · exact ⟨hrequests, hreplies⟩
        · rename_i htaken
          simp only [beginTransaction, Config.queuePlaces, not_or, not_le] at htaken
          refine ⟨?_, hreplies⟩
          simp only [beginTransaction, List.length_append, List.length_singleton]
          omega
      | fetchReply whole =>
        refine ⟨_, rfl, rfl, fun ⟨hrequests, hreplies⟩ => ?_⟩
        cases whole
        · exact ⟨hrequests, hreplies⟩
        · refine ⟨hrequests, ?_⟩
          simp only [fetchReply, beginTransaction, if_true, List.length_tail]
          omega
      | fetchNotice whole => exact ⟨_, rfl, rfl, id⟩
      | portStatus => exact ⟨_, rfl, rfl, id⟩
      | unknownTransactionKind kind =>
        refine ⟨_, rfl, ?_⟩
        unfold unknownKind
        split <;> exact ⟨rfl, id⟩
      | portMalformedRefusal =>
        refine ⟨_, rfl, ?_⟩
        unfold portMalformed
        split
        · exact ⟨rfl, id⟩
        · split
          · rename_i r _ _ htaken
            simp only [Port.mayTake, Bool.and_eq_true, decide_eq_true_eq] at htaken
            exact ⟨rfl, hanswered r _ _ htaken.1⟩
          · exact ⟨rfl, id⟩
      | _ => cases hport

/-- Settles O3. -/
theorem everyCommandHasAnEffect : Obligations.EveryCommandHasAnEffect := by
  unfold Obligations.EveryCommandHasAnEffect
  intro c s
  obtain ⟨t, ht, hpending, -⟩ := exec_next c s
  exact ⟨t, ht, hpending⟩

/-- Settles O14: a request joins only a queue with a free place, and a reply only where the port may take a request. -/
theorem stepKeepsPortBounded : Obligations.StepKeepsPortBounded := by
  unfold Obligations.StepKeepsPortBounded
  intro s t hbounded hstep
  obtain ⟨c, rest, -, hexec⟩ | ⟨-, rfl⟩ := step_cases hstep
  · obtain ⟨u, hu, -, hkept⟩ := exec_next c { s with pending := rest }
    cases hu.symm.trans hexec
    exact hkept hbounded
  · exact hbounded

/-- Settles O11. -/
theorem everyTakenRequestGetsOneReply : Obligations.EveryTakenRequestGetsOneReply := by
  unfold Obligations.EveryTakenRequestGetsOneReply
  intro c k s r hrow hasks hkind
  exact ⟨_, _, exec_request hrow hasks hkind⟩

/-- Settles O13. -/
theorem eventsLeaveThePort : Obligations.EventsLeaveThePort := by
  unfold Obligations.EventsLeaveThePort
  intro c s hrequest hport
  exact ⟨_, exec_event hrequest hport s⟩

/-! ## The full reset -/

/-- Settles O4: the records of `resetBlocks`, read off. -/
theorem resetValues : Obligations.ResetValues := by
  unfold Obligations.ResetValues
  have hrisers : ∀ r ∈ resetBlocks.risers, r = resetRiser := fun r hr => List.eq_of_mem_replicate hr
  have hchannels : ∀ c ∈ resetBlocks.scan.channels, c = ⟨none, 0, 0⟩ := fun c hc => List.eq_of_mem_replicate hc
  have hfeeders : ∀ f ∈ resetBlocks.feeders, f = resetFeeder := fun f hf => List.eq_of_mem_replicate hf
  have hpool : resetBlocks.freeCount = 4096 := by decide
  refine ⟨rfl, rfl, rfl, rfl, rfl, rfl, rfl, rfl, rfl, rfl, rfl, hpool, rfl, rfl, rfl, rfl, rfl, rfl, rfl, rfl, rfl, rfl, rfl, rfl,
    rfl, rfl, rfl, rfl, rfl, rfl, rfl, rfl, rfl, rfl, rfl, rfl, rfl, rfl, rfl, rfl, rfl, rfl, rfl, ?_, rfl, rfl, ?_, rfl, ?_, rfl, rfl,
    rfl, rfl⟩
  · intro r hr
    cases hrisers r hr
    simp [resetRiser]
  · intro c hc
    cases hchannels c hc
    simp
  · intro f hf
    cases hfeeders f hf
    simp [resetFeeder]

/-- Settles O5. -/
theorem fullResetReturnsEveryRecord : Obligations.FullResetReturnsEveryRecord := by
  unfold Obligations.FullResetReturnsEveryRecord
  intro s
  rfl

/-- Settles O17. -/
theorem resetIsSafe : Obligations.ResetIsSafe := by
  unfold Obligations.ResetIsSafe
  refine ⟨⟨by decide, by decide⟩, resetBlocks_sized, fun _ ch hch => ?_, resetBlocks_bounded, ?_⟩
  · cases List.eq_of_mem_replicate hch
    rfl
  · exact ⟨by decide, by decide, by decide, fun n hn => absurd hn (List.not_mem_nil)⟩

/-! ## The transactions -/

theorem beginTransaction_eq_clocked (payload : SpiPayload) (s : State) : beginTransaction payload s = clocked s payload := rfl

/-- R175: the four parts of the status byte add up to less than 256, so none carries into the next. -/
theorem statusByte_toNat {s : State} (h : PortBounded s) :
    (statusByte s).toNat = (4 - s.port.requests.length) + 8 * s.port.replies.length
      + (if s.blocks.notices.isEmpty then 0 else 64) + (if s.port.notTaken then 128 else 0) := by
  obtain ⟨hrequests, hreplies⟩ := h
  unfold statusByte
  rw [BitVec.toNat_ofNat]
  apply Nat.mod_eq_of_lt
  have hnotices : (if s.blocks.notices.isEmpty then 0 else 64) ≤ 64 := by split <;> decide
  have hflag : (if s.port.notTaken then 128 else 0) ≤ 128 := by split <;> decide
  simp only [Config.queuePlaces]
  omega

/-- Settles O8. -/
theorem transactionsActOnThePort : Obligations.TransactionsActOnThePort := by
  unfold Obligations.TransactionsActOnThePort
  refine ⟨fun s hbounded => ?_, fun r s hwhole hroom => ?_, fun r s hnot => ?_, fun s => rfl, fun s => rfl, fun s => rfl,
    fun k s hk => ?_⟩
  · have hbyte := statusByte_toNat hbounded
    obtain ⟨hrequests, hreplies⟩ := hbounded
    have hbit : ∀ i, (statusByte s).getLsbD i = decide ((statusByte s).toNat / 2 ^ i % 2 = 1) := fun i => by
      rw [BitVec.getLsbD, Nat.testBit_eq_decide_div_mod_eq]
    rw [hbit 6, hbit 7, hbyte]
    cases s.blocks.notices.isEmpty <;> cases s.port.notTaken <;> simp <;> omega
  · have htaken : ¬ (r.carried < 4 ∨ Config.queuePlaces ≤ s.port.requests.length) := by
      simp only [Config.queuePlaces]; omega
    exact congrArg (fun p => Host.Outcome.next { s with port := p }) (if_neg htaken)
  · have hrefused : r.carried < 4 ∨ Config.queuePlaces ≤ s.port.requests.length := hnot
    exact congrArg (fun p => Host.Outcome.next { s with port := p }) (if_pos hrefused)
  · have hunknown : ¬ (1 ≤ k.toNat ∧ k.toNat ≤ 4) := by omega
    simp only [exec, execUnknownTransactionKind, unknownKind, if_neg hunknown, beginTransaction_eq_clocked]

theorem exec_fetchNotice_false (s : State) :
    exec (.fetchNotice false) s = .next { s with
      port := clocked s (.notice (s.blocks.notices.head?.map (fun e => (e, s.blocks.summary e)))) } := rfl

theorem exec_fetchNotice_true (s : State) :
    exec (.fetchNotice true) s = .next { s with
      port := clocked s (.notice (s.blocks.notices.head?.map (fun e => (e, s.blocks.summary e))))
      blocks := removeNotice s.blocks } := rfl

theorem removeNotice_nil {b : Blocks} (h : b.notices = []) : removeNotice b = b := by
  unfold removeNotice; rw [h]

theorem removeNotice_of_freed {b : Blocks} {e : NoticeEntry} {es : List NoticeEntry} {n : Nat} (h : b.notices = e :: es)
    (hfreed : b.freedBy e = some n) : removeNotice b = freeSlot n { b with notices := es } := by
  simp only [removeNotice, h, hfreed]

theorem removeNotice_of_kept {b : Blocks} {e : NoticeEntry} {es : List NoticeEntry} (h : b.notices = e :: es)
    (hkept : b.freedBy e = none) : removeNotice b = { b with notices := es } := by
  simp only [removeNotice, h, hkept]

theorem freedBy_eq_none {b : Blocks} {e : NoticeEntry} (h : ChangeKind.retired ∉ e.changes) : b.freedBy e = none := by
  unfold Blocks.freedBy
  split
  · rw [if_neg (fun hfreed => h hfreed.1)]
  · rfl

theorem freedBy_eq_some {b : Blocks} {e : NoticeEntry} {k : Booking} (hrecord : e.record = .booking k.number)
    (hopen : e.closed = none) (hretired : ChangeKind.retired ∈ e.changes) (hbooking : b.booking? k.number = some k)
    (hstate : k.state = .retiring) : b.freedBy e = some k.number := by
  unfold Blocks.freedBy
  rw [hrecord, hopen]
  simp only [hbooking, hretired, hstate, Option.any_some, decide_true, and_self, if_true]

/-- A booking without an open entry has none to close. -/
theorem closeEntry_of_closed {n : Nat} {v : BookingView} {l : List NoticeEntry} (h : ∀ e ∈ l, e.opens (.booking n) = false) :
    closeEntry n v l = l := by
  unfold closeEntry
  refine (List.map_congr_left fun e he => ?_).trans (List.map_id l)
  rw [if_neg (by rw [h e he]; decide)]
  rfl

/-- Settles O9: the head leaves, and only an open entry that holds Retired frees a slot, whose other entries are all closed. -/
theorem fetchNoticeTakesTheHead : Obligations.FetchNoticeTakesTheHead := by
  unfold Obligations.FetchNoticeTakesTheHead
  refine ⟨fun whole s hnone => ?_, fun s e es hcons => ?_, fun s e es hcons hretired => ?_,
    fun s e es k hcons hrecord hopen hretired hbooking hstate hclosed => ?_⟩
  · cases whole
    · rw [exec_fetchNotice_false, hnone]; rfl
    · rw [exec_fetchNotice_true, removeNotice_nil hnone, hnone]; rfl
  · rw [exec_fetchNotice_false, hcons]; rfl
  · rw [exec_fetchNotice_true, removeNotice_of_kept hcons (freedBy_eq_none hretired), hcons]; rfl
  · have hfound : Blocks.booking? { s.blocks with notices := es } k.number = some k := hbooking
    rw [exec_fetchNotice_true, removeNotice_of_freed hcons (freedBy_eq_some hrecord hopen hretired hbooking hstate), hcons]
    simp only [freeSlot, hfound, closeEntry_of_closed hclosed]
    rfl

/-- Settles O10. -/
theorem portRefusesMalformedRequests : Obligations.PortRefusesMalformedRequests := by
  unfold Obligations.PortRefusesMalformedRequests
  intro s r hhead hroom hfails
  have htake : s.port.mayTake = true := decide_eq_true hroom
  obtain ⟨rest, hrequests⟩ : ∃ rest, s.port.requests = r :: rest := List.head?_eq_some_iff.1 hhead
  simp only [exec, execPortMalformedRefusal, portMalformed, hrequests, htake, hfails, Port.answer, echoedKind]
  rfl

/-! ## The Notice List -/

/-- A record without an open entry gets a new entry at the tail. -/
theorem addChange_of_closed {r : RecordId} {l : List NoticeEntry} (k : ChangeKind) (o : Option LastOutcome)
    (h : ∀ e ∈ l, e.opens r = false) : addChange r k o l = l ++ [⟨r, [k], o, none⟩] := by
  induction l with
  | nil => rfl
  | cons e es ih =>
    unfold addChange
    rw [h e List.mem_cons_self, ih (fun x hx => h x (List.mem_cons_of_mem _ hx))]
    rfl

/-- A change joins the first open entry of its record, which keeps its place. -/
theorem addChange_of_open {r : RecordId} {pre post : List NoticeEntry} {e : NoticeEntry} (k : ChangeKind) (o : Option LastOutcome)
    (hpre : ∀ x ∈ pre, x.opens r = false) (he : e.opens r = true) :
    addChange r k o (pre ++ e :: post) = pre ++ { e with changes := insertKind k e.changes, outcome := o <|> e.outcome } :: post := by
  induction pre with
  | nil => simp only [List.nil_append, addChange, he, if_true]
  | cons x xs ih =>
    simp only [List.cons_append, addChange, hpre x List.mem_cons_self, ih (fun y hy => hpre y (List.mem_cons_of_mem _ hy))]
    rfl

theorem submit_of_unmasked {b : Blocks} {k : ChangeKind} (h : k ∈ b.mask) (r : RecordId) (o : Option LastOutcome) :
    b.submit r k o = { b with notices := addChange r k o b.notices } := by
  unfold Blocks.submit; rw [if_pos h]

theorem submit_of_masked {b : Blocks} {k : ChangeKind} (h : k ∉ b.mask) (r : RecordId) (o : Option LastOutcome) :
    b.submit r k o = b := by
  unfold Blocks.submit; rw [if_neg h]

/-- Settles O19. -/
theorem submitGathersChanges : Obligations.SubmitGathersChanges := by
  unfold Obligations.SubmitGathersChanges
  refine ⟨fun r k o b hmasked => submit_of_masked hmasked r o, fun r k o b hmask hnone => ?_,
    fun r k o b pre post e hmask hsplit hpre he => ?_,
    fun k x l => ⟨mem_insertKind k x l, ?_⟩⟩
  · rw [submit_of_unmasked hmask, addChange_of_closed k o hnone]
  · rw [submit_of_unmasked hmask, hsplit, addChange_of_open k o hpre he]
  · rintro (rfl | hold)
    · exact insertKind_self _ l
    · exact insertKind_old k x l hold

/-- Settles O20: the mask that the reply shows is the kinds carried, in the order of R180. -/
theorem setNoticeMaskReplacesTheMask : Obligations.SetNoticeMaskReplacesTheMask := by
  unfold Obligations.SetNoticeMaskReplacesTheMask
  intro s r kinds hasks
  refine ⟨allKinds.filter (fun k => decide (k ∈ kinds)), fun k => ?_, exec_setNoticeMask hasks⟩
  simp [mem_allKinds]

end Sys2Proof.Machine

/-! PROOFS. The bytes of a booking body (section 11.6), field by field: obligation O6. -/

namespace Sys2Proof

/-! ## Bytes of a word -/

/-- Two neighbouring fields of a word, side by side, are the field of both. -/
theorem field_append_field {w : Nat} (x : BitVec w) (i m n : Nat) :
    x.extractLsb' (i + m) n ++ x.extractLsb' i m = x.extractLsb' i (n + m) :=
  BitVec.extractLsb'_append_extractLsb'_eq_extractLsb' rfl

theorem low_of_append {w : Nat} (y : BitVec w) (c : Byte) : (y ++ c).extractLsb' 0 8 = c := BitVec.extractLsb'_append_eq_right

theorem high_of_append {w i : Nat} (y : BitVec w) (c : Byte) : (y ++ c).extractLsb' (i + 8) 8 = y.extractLsb' i 8 := by
  rw [BitVec.extractLsb'_append_eq_of_le (by omega), Nat.add_sub_cancel]

theorem beWord16_fields (x : BitVec 16) : beWord16 (x.extractLsb' 8 8) (x.extractLsb' 0 8) = x :=
  (field_append_field x 0 8 8).trans BitVec.extractLsb'_eq_self

theorem beWord32_fields (x : BitVec 32) :
    beWord32 (x.extractLsb' 24 8) (x.extractLsb' 16 8) (x.extractLsb' 8 8) (x.extractLsb' 0 8) = x := by
  unfold beWord32
  rw [field_append_field x 16 8 8, field_append_field x 8 8 16, field_append_field x 0 8 24]
  exact BitVec.extractLsb'_eq_self

theorem zones_fields (x : BitVec 96) : x.extractLsb' 88 8 ++ x.extractLsb' 80 8 ++ x.extractLsb' 72 8 ++ x.extractLsb' 64 8 ++
    x.extractLsb' 56 8 ++ x.extractLsb' 48 8 ++ x.extractLsb' 40 8 ++ x.extractLsb' 32 8 ++ x.extractLsb' 24 8 ++
    x.extractLsb' 16 8 ++ x.extractLsb' 8 8 ++ x.extractLsb' 0 8 = x := by
  rw [field_append_field x 80 8 8, field_append_field x 72 8 16, field_append_field x 64 8 24, field_append_field x 56 8 32,
    field_append_field x 48 8 40, field_append_field x 40 8 48, field_append_field x 32 8 56, field_append_field x 24 8 64,
    field_append_field x 16 8 72, field_append_field x 8 8 80, field_append_field x 0 8 88]
  exact BitVec.extractLsb'_eq_self

/-! ## A field is read as it was written -/

theorem read8_append (x : Byte) (l : List Byte) : read8 ([x] ++ l) = some (x, l) := rfl

theorem read16_append (x : BitVec 16) (l : List Byte) : read16 (beBytes16 x ++ l) = some (x, l) :=
  congrArg (fun y => some (y, l)) (beWord16_fields x)

theorem read32_append (x : BitVec 32) (l : List Byte) : read32 (beBytes32 x ++ l) = some (x, l) :=
  congrArg (fun y => some (y, l)) (beWord32_fields x)

theorem readZones_append (x : BitVec 96) (l : List Byte) : readZones (zoneBytes x ++ l) = some (x, l) :=
  congrArg (fun y => some (y, l)) (zones_fields x)

/-! ## A field that is read stood in the bytes -/

theorem read8_eq_some {l m : List Byte} {x : Byte} (h : read8 l = some (x, m)) : l = [x] ++ m := by
  cases l with
  | nil => cases h
  | cons y l => cases h; rfl

theorem read16_eq_some {l m : List Byte} {x : BitVec 16} (h : read16 l = some (x, m)) : l = beBytes16 x ++ m := by
  unfold read16 at h
  split at h
  · cases h
    simp [beBytes16, beWord16, low_of_append, high_of_append]
  · cases h

theorem read32_eq_some {l m : List Byte} {x : BitVec 32} (h : read32 l = some (x, m)) : l = beBytes32 x ++ m := by
  unfold read32 at h
  split at h
  · cases h
    simp [beBytes32, beWord32, low_of_append, high_of_append]
  · cases h

theorem readZones_eq_some {l m : List Byte} {x : BitVec 96} (h : readZones l = some (x, m)) : l = zoneBytes x ++ m := by
  unfold readZones at h
  split at h
  · cases h
    simp [zoneBytes, low_of_append, high_of_append]
  · cases h

/-! ## The body -/

theorem encodeBookingBody_length (x : BookingBody) : (encodeBookingBody x).length = 52 := rfl

/-- A read that succeeds hands its field and its rest to what follows. -/
theorem bind_of_eq_some {α β : Type} {o : Option α} {a : α} {f : α → Option β} {y : Option β} (h : o = some a) (hf : f a = y) :
    o.bind f = y := by rw [h]; exact hf

theorem decode_encodeBookingBody (x : BookingBody) : decodeBookingBody (encodeBookingBody x) = some x := by
  unfold decodeBookingBody encodeBookingBody
  refine bind_of_eq_some (read16_append x.number _) ?_
  refine bind_of_eq_some (read8_append x.tier _) ?_
  refine bind_of_eq_some (read8_append x.kind _) ?_
  refine bind_of_eq_some (read16_append x.first _) ?_
  refine bind_of_eq_some (read16_append x.last _) ?_
  refine bind_of_eq_some (read8_append x.weekdays _) ?_
  refine bind_of_eq_some (read8_append x.skipCount _) ?_
  refine bind_of_eq_some (read16_append x.skip1 _) ?_
  refine bind_of_eq_some (read16_append x.skip2 _) ?_
  refine bind_of_eq_some (read16_append x.skip3 _) ?_
  refine bind_of_eq_some (read16_append x.skip4 _) ?_
  refine bind_of_eq_some (read8_append x.startKind _) ?_
  refine bind_of_eq_some (read32_append x.startValue _) ?_
  refine bind_of_eq_some (read8_append x.endKind _) ?_
  refine bind_of_eq_some (read32_append x.endValue _) ?_
  refine bind_of_eq_some (read8_append x.program _) ?_
  refine bind_of_eq_some (readZones_append x.zones _) ?_
  refine bind_of_eq_some (read16_append x.ceiling _) ?_
  refine bind_of_eq_some (read8_append x.exempt _) ?_
  refine bind_of_eq_some (read8_append x.followFlag _) ?_
  refine bind_of_eq_some (read32_append x.follow _) ?_
  refine bind_of_eq_some (read8_append x.handoverFlag _) ?_
  refine bind_of_eq_some (read16_append x.handover _) ?_
  rfl

theorem encode_of_decodeBookingBody {l : List Byte} {x : BookingBody} (h : decodeBookingBody l = some x) :
    encodeBookingBody x = l := by
  obtain ⟨⟨_, _⟩, hNumber, h⟩ := Option.bind_eq_some_iff.1 h
  obtain ⟨⟨_, _⟩, hTier, h⟩ := Option.bind_eq_some_iff.1 h
  obtain ⟨⟨_, _⟩, hKind, h⟩ := Option.bind_eq_some_iff.1 h
  obtain ⟨⟨_, _⟩, hFirst, h⟩ := Option.bind_eq_some_iff.1 h
  obtain ⟨⟨_, _⟩, hLast, h⟩ := Option.bind_eq_some_iff.1 h
  obtain ⟨⟨_, _⟩, hWeekdays, h⟩ := Option.bind_eq_some_iff.1 h
  obtain ⟨⟨_, _⟩, hSkipCount, h⟩ := Option.bind_eq_some_iff.1 h
  obtain ⟨⟨_, _⟩, hSkip1, h⟩ := Option.bind_eq_some_iff.1 h
  obtain ⟨⟨_, _⟩, hSkip2, h⟩ := Option.bind_eq_some_iff.1 h
  obtain ⟨⟨_, _⟩, hSkip3, h⟩ := Option.bind_eq_some_iff.1 h
  obtain ⟨⟨_, _⟩, hSkip4, h⟩ := Option.bind_eq_some_iff.1 h
  obtain ⟨⟨_, _⟩, hStartKind, h⟩ := Option.bind_eq_some_iff.1 h
  obtain ⟨⟨_, _⟩, hStartValue, h⟩ := Option.bind_eq_some_iff.1 h
  obtain ⟨⟨_, _⟩, hEndKind, h⟩ := Option.bind_eq_some_iff.1 h
  obtain ⟨⟨_, _⟩, hEndValue, h⟩ := Option.bind_eq_some_iff.1 h
  obtain ⟨⟨_, _⟩, hProgram, h⟩ := Option.bind_eq_some_iff.1 h
  obtain ⟨⟨_, _⟩, hZones, h⟩ := Option.bind_eq_some_iff.1 h
  obtain ⟨⟨_, _⟩, hCeiling, h⟩ := Option.bind_eq_some_iff.1 h
  obtain ⟨⟨_, _⟩, hExempt, h⟩ := Option.bind_eq_some_iff.1 h
  obtain ⟨⟨_, _⟩, hFollowFlag, h⟩ := Option.bind_eq_some_iff.1 h
  obtain ⟨⟨_, _⟩, hFollow, h⟩ := Option.bind_eq_some_iff.1 h
  obtain ⟨⟨_, _⟩, hHandoverFlag, h⟩ := Option.bind_eq_some_iff.1 h
  obtain ⟨⟨_, _⟩, hHandover, h⟩ := Option.bind_eq_some_iff.1 h
  dsimp only at h
  split at h
  · rename_i hnil
    cases h
    rw [read16_eq_some hNumber, read8_eq_some hTier, read8_eq_some hKind, read16_eq_some hFirst, read16_eq_some hLast,
      read8_eq_some hWeekdays, read8_eq_some hSkipCount, read16_eq_some hSkip1, read16_eq_some hSkip2,
      read16_eq_some hSkip3, read16_eq_some hSkip4, read8_eq_some hStartKind, read32_eq_some hStartValue,
      read8_eq_some hEndKind, read32_eq_some hEndValue, read8_eq_some hProgram, readZones_eq_some hZones,
      read16_eq_some hCeiling, read8_eq_some hExempt, read8_eq_some hFollowFlag, read32_eq_some hFollow,
      read8_eq_some hHandoverFlag, read16_eq_some hHandover, hnil]
    rfl
  · cases h

/-- Settles O6. -/
theorem bookingBodyDecodesWhatItEncodes : Obligations.BookingBodyDecodesWhatItEncodes := by
  unfold Obligations.BookingBodyDecodesWhatItEncodes
  exact ⟨fun x => ⟨encodeBookingBody_length x, decode_encodeBookingBody x⟩, fun _ _ h => encode_of_decodeBookingBody h⟩

end Sys2Proof

/-! PROOFS. A refused request changes nothing (R179): obligation O12. -/

namespace Sys2Proof.Machine

/-- A service that changes the blocks only where it answers Ok. -/
def WholeOrNothing (service : Blocks → Blocks × Answer) : Prop := ∀ b, (service b).2.status = .ok ∨ (service b).1 = b

/-! ## Each service -/

theorem withdraw_whole (n : Nat) : WholeOrNothing (withdraw n) := by
  intro b
  unfold withdraw
  split
  · exact .inr rfl
  · split
    · exact .inr rfl
    · exact .inl rfl

theorem lookUp_whole (n : Nat) : WholeOrNothing (lookUp n) := by
  intro b
  refine .inr ?_
  unfold lookUp
  split
  · rfl
  · split <;> rfl

theorem forecast_whole (t z : Nat) : WholeOrNothing (forecast t z) := by
  intro b
  refine .inr ?_
  unfold forecast
  split <;> rfl

theorem programOpen_whole (n steps length : Nat) (ea : Code EndAction) (fallback : Levels) :
    WholeOrNothing (programOpen n steps length ea fallback) := by
  intro b
  unfold programOpen
  repeat' split
  all_goals first | exact .inl rfl | exact .inr rfl

theorem programSteps_whole (n : Nat) (steps : List StepBody) : WholeOrNothing (programSteps n steps) := by
  intro b
  unfold programSteps
  repeat' split
  all_goals first | exact .inl rfl | exact .inr rfl

theorem programRemove_whole (n : Nat) : WholeOrNothing (programRemove n) := by
  intro b
  unfold programRemove
  repeat' split
  all_goals first | exact .inl rfl | exact .inr rfl

theorem programReport_whole (n : Nat) : WholeOrNothing (programReport n) := by
  intro b
  refine .inr ?_
  unfold programReport
  split <;> rfl

theorem configureZone_whole (z : Nat) (body : ZoneBody) : WholeOrNothing (configureZone z body) := by
  intro b
  unfold configureZone
  dsimp only
  repeat' split
  all_goals first | exact .inl rfl | exact .inr rfl

theorem clearNode_whole (z : Nat) : WholeOrNothing (clearNode z) := by
  intro b
  unfold clearNode
  repeat' split
  all_goals first | exact .inl rfl | exact .inr rfl

theorem zoneReport_whole (z : Nat) : WholeOrNothing (zoneReport z) := by
  intro b
  refine .inr ?_
  unfold zoneReport
  split <;> rfl

theorem configureRiser_whole (r : Nat) (body : RiserBody) : WholeOrNothing (configureRiser r body) := by
  intro b
  unfold configureRiser
  repeat' split
  all_goals first | exact .inl rfl | exact .inr rfl

theorem riserReset_whole (r : Nat) : WholeOrNothing (riserReset r) := by
  intro b
  unfold riserReset
  repeat' split
  all_goals first | exact .inl rfl | exact .inr rfl

theorem rollCall_whole (r : Nat) : WholeOrNothing (rollCall r) := by
  intro b
  unfold rollCall
  repeat' split
  all_goals first | exact .inl rfl | exact .inr rfl

theorem riserReport_whole (r : Nat) : WholeOrNothing (riserReport r) := by
  intro b
  refine .inr ?_
  unfold riserReport
  split <;> rfl

theorem markTime_whole (day tod : Nat) (mode : Code MarkMode) : WholeOrNothing (markTime day tod mode) := by
  intro b
  unfold markTime
  repeat' split
  all_goals first | exact .inl rfl | exact .inr rfl

theorem setCalendarBase_whole (base : Nat) : WholeOrNothing (setCalendarBase base) := by
  intro b
  unfold setCalendarBase
  split
  · exact .inr rfl
  · exact .inl rfl

theorem loadAlmanac_whole (days : List AlmanacDay) : WholeOrNothing (loadAlmanac days) := by
  intro b
  unfold loadAlmanac
  dsimp only
  repeat' split
  all_goals first | exact .inl rfl | exact .inr rfl

theorem followAgain_whole (n : Nat) : WholeOrNothing (followAgain n) := by
  intro b
  unfold followAgain
  dsimp only
  repeat' split
  all_goals first | exact .inl rfl | exact .inr rfl

theorem setCurfew_whole (body : CurfewBody) : WholeOrNothing (setCurfew body) := by
  intro b
  unfold setCurfew
  cases body with
  | off => exact .inl rfl
  | window =>
    dsimp only
    split
    · exact .inr rfl
    · exact .inl rfl

theorem setAmbient_whole (body : AmbientBody) : WholeOrNothing (setAmbient body) := by
  intro b
  unfold setAmbient
  dsimp only
  split
  · exact .inr rfl
  · exact .inl rfl

theorem setHoldLook_whole (look : Levels) : WholeOrNothing (setHoldLook look) := by
  intro b
  unfold setHoldLook
  split
  · exact .inr rfl
  · exact .inl rfl

theorem configureSchedule_whole (lead handover : Option Nat) : WholeOrNothing (configureSchedule lead handover) := by
  intro b
  unfold configureSchedule
  dsimp only
  split
  · exact .inr rfl
  · exact .inl rfl

theorem configureFeeder_whole (f : Nat) (budget mark : Option Nat) : WholeOrNothing (configureFeeder f budget mark) := by
  intro b
  unfold configureFeeder
  split
  · exact .inr rfl
  · exact .inl rfl

theorem setOutput_whole (line : Code OutputLine) (source : Option (Code OutputSource)) (command : Option (Code OutputCommand)) :
    WholeOrNothing (setOutput line source command) := by
  intro b
  unfold setOutput
  split
  · split
    · exact .inl rfl
    · exact .inr rfl
  · exact .inr rfl

theorem recloseFeeder_whole (f : Nat) : WholeOrNothing (recloseFeeder f) := by
  intro b
  unfold recloseFeeder
  repeat' split
  all_goals first | exact .inl rfl | exact .inr rfl

theorem feederReport_whole (f : Nat) : WholeOrNothing (feederReport f) := by
  intro b
  refine .inr ?_
  unfold feederReport
  split <;> rfl

theorem readChannel_whole (c : Nat) : WholeOrNothing (readChannel c) := by
  intro b
  refine .inr ?_
  unfold readChannel
  split <;> rfl

/-- An accepted Book or Amend is always answered Ok. -/
theorem bookingReply_status (n : Nat) (before : Option Nat) (amended stalled : Bool) (b : Blocks) :
    (bookingReply n before amended stalled b).status = .ok := by
  unfold bookingReply
  split <;> rfl

theorem book_whole (l : List Byte) : WholeOrNothing (book l) := by
  intro b
  unfold book
  repeat' split
  all_goals first | exact .inr rfl | exact .inl (bookingReply_status _ _ _ _ _)

theorem amendRunning_status (mask : BitVec 16) (k : Booking) (f : BookingFields) (o : Occurrence) (b : Blocks) :
    (amendRunning mask k f o b).2.status = .ok := by
  unfold amendRunning
  dsimp only
  split <;> exact bookingReply_status _ _ _ _ _

theorem amend_whole (l : List Byte) : WholeOrNothing (amend l) := by
  intro b
  unfold amend amendWith
  dsimp only
  repeat' split
  all_goals first
    | exact .inr rfl
    | exact .inl (amendRunning_status _ _ _ _ _)
    | exact .inl (bookingReply_status _ _ _ _ _)

/-! ## Every service but one -/

/-- R77: a Program Close refused on a Loading slot discards the short load; every other refusal changes nothing. -/
theorem programClose_whole (n : Nat) (b : Blocks) :
    ((programClose n b).2.status = .ok ∨ (programClose n b).1 = b) ∨
      ∃ p : ProgramData, n < 64 ∧ b.program n = .loading p ∧ p.steps.length ≠ p.declared ∧
        (programClose n b).2.status = .outOfRange ∧ (programClose n b).1 = { b with programs := b.programs.set n .empty } := by
  unfold programClose
  split
  · exact .inl (.inr rfl)
  · rename_i hslot
    split
    · rename_i p hloading
      split
      · exact .inl (.inl rfl)
      · rename_i hshort
        exact .inr ⟨p, not_le.1 hslot, hloading, hshort, rfl, rfl⟩
    · exact .inl (.inr rfl)

theorem fieldsService_whole {f : RequestFields} (h : ∀ n, f ≠ .programClose n) : WholeOrNothing (fieldsService f) := by
  cases f with
  | withdraw => exact withdraw_whole _
  | lookUp => exact lookUp_whole _
  | listUpcoming => exact fun _ => .inr rfl
  | forecast => exact forecast_whole _ _
  | programOpen => exact programOpen_whole _ _ _ _ _
  | programSteps => exact programSteps_whole _ _
  | programClose n => exact absurd rfl (h n)
  | programRemove => exact programRemove_whole _
  | programReport => exact programReport_whole _
  | configureZone => exact configureZone_whole _ _
  | clearNode => exact clearNode_whole _
  | zoneReport => exact zoneReport_whole _
  | configureRiser => exact configureRiser_whole _ _
  | riserReset => exact riserReset_whole _
  | rollCall => exact rollCall_whole _
  | riserReport => exact riserReport_whole _
  | markTime => exact markTime_whole _ _ _
  | setCalendarBase => exact setCalendarBase_whole _
  | timeReport => exact fun _ => .inl rfl
  | loadAlmanac => exact loadAlmanac_whole _
  | followAgain => exact followAgain_whole _
  | cueReport => exact fun _ => .inr rfl
  | setCurfew => exact setCurfew_whole _
  | setAmbient => exact setAmbient_whole _
  | setHoldLook => exact setHoldLook_whole _
  | configureSchedule => exact configureSchedule_whole _ _
  | chainReport => exact fun _ => .inr rfl
  | configureFeeder => exact configureFeeder_whole _ _ _
  | setOutput => exact setOutput_whole _ _ _
  | recloseFeeder => exact recloseFeeder_whole _
  | feederReport => exact feederReport_whole _
  | readChannel => exact readChannel_whole _
  | setNoticeMask => exact fun _ => .inl rfl
  | restartSchedule => exact fun _ => .inl rfl

/-! ## The row that takes a request -/

/-- A reply tells the blocks and the answer that it was made of. -/
theorem replied_inj {s : State} {r : Request} {b b' : Blocks} {a a' : Answer} (h : replied s r b a = replied s r b' a') :
    b = b' ∧ a.status = a'.status := by
  unfold replied at h
  simp only [State.mk.injEq, Port.mk.injEq, List.append_cancel_left_eq, List.cons.injEq, Reply.mk.injEq] at h
  obtain ⟨-, ⟨-, ⟨⟨-, -, hstatus, -⟩, -⟩, -⟩, hblocks⟩ := h
  exact ⟨hblocks, hstatus⟩

/-- Settles O12. -/
theorem refusedRequestsChangeNothing : Obligations.RefusedRequestsChangeNothing := by
  unfold Obligations.RefusedRequestsChangeNothing
  intro c k s r b a hrow hasks hkind hexec hrefused
  obtain ⟨rfl, hstatus⟩ := replied_inj (Host.Outcome.next.inj ((exec_request hrow hasks hkind).symm.trans hexec))
  rw [← hstatus] at hrefused ⊢
  have hwhole : ∀ {g : Blocks → Blocks × Answer}, WholeOrNothing g → service r s.blocks = g s.blocks →
      (service r s.blocks).1 = s.blocks := by
    intro g hg hserved
    rw [hserved] at hrefused ⊢
    exact (hg s.blocks).resolve_left hrefused
  cases hbody : r.body with
  | fields f =>
    have hserved := service_of_fields hbody s.blocks
    by_cases hclose : ∃ n, f = .programClose n
    · obtain ⟨n, rfl⟩ := hclose
      rw [hserved] at hrefused ⊢
      obtain (hok | hkept) | ⟨p, hn, hloading, hshort, hst, hblocks⟩ := programClose_whole n s.blocks
      · exact absurd hok hrefused
      · exact .inl hkept
      · exact .inr ⟨n, p, rfl, hn, hloading, hshort, hst, hblocks⟩
    · exact .inl (hwhole (fieldsService_whole (fun n hn => hclose ⟨n, hn⟩)) hserved)
  | bytes l =>
    obtain hbook | hamend := kind_of_bytes hasks.2.2 hbody
    · exact .inl (hwhole (book_whole l) (service_of_book hbody hbook s.blocks))
    · exact .inl (hwhole (amend_whole l) (service_of_amend hbody hamend s.blocks))
  | other => exact .inl (by simp only [service, hbody])

end Sys2Proof.Machine

/-! PROOFS. What the operations of the Time Base do to its record, and obligations O16 and O18. -/

namespace Sys2Proof.Machine

/-! ## What a step of civil time may touch -/

/-- Only what the hand-on of a step writes may differ: what the Occurrence Engine writes, the almanac and the Curfew Active line. -/
def TouchesCivil (a b : Blocks) : Prop :=
  b = { a with
    bookings := b.bookings, upcoming := b.upcoming, nextId := b.nextId, lastFreed := b.lastFreed,
    holding := b.holding, active := b.active, zones := b.zones, chain := b.chain, feeders := b.feeders, showLive := b.showLive,
    notices := b.notices, deferral := b.deferral, almanac := b.almanac, curfewActive := b.curfewActive }

theorem TouchesCivil.refl (b : Blocks) : TouchesCivil b b := rfl

theorem TouchesCivil.trans {a b c : Blocks} (h : TouchesCivil a b) (k : TouchesCivil b c) : TouchesCivil a c := by
  unfold TouchesCivil at *; rw [k, h]

theorem TouchesEngine.civil {a b : Blocks} (h : TouchesEngine a b) : TouchesCivil a b := by
  unfold TouchesEngine TouchesCivil at *; rw [h]

theorem TouchesFades.civil {a b : Blocks} (h : TouchesFades a b) : TouchesCivil a b := by
  unfold TouchesFades TouchesCivil at *; rw [h]

section
variable {a b : Blocks} (h : TouchesCivil a b)
include h

theorem TouchesCivil.time : b.time = a.time := by rw [h]
theorem TouchesCivil.scan : b.scan = a.scan := by rw [h]
theorem TouchesCivil.cue : b.cue = a.cue := by rw [h]
theorem TouchesCivil.risers : b.risers = a.risers := by rw [h]
theorem TouchesCivil.programs : b.programs = a.programs := by rw [h]
theorem TouchesCivil.ownUs : b.ownUs = a.ownUs := by rw [h]

end

theorem openWindow_civil (b : Blocks) : TouchesCivil b (openWindow b) := by
  have hopened : ∀ c : Blocks, TouchesCivil b { b with chain := c.chain } := fun _ => rfl
  have hdriven : ∀ c : Blocks, TouchesCivil c (driveCurfewActive c) := fun _ => rfl
  exact (hopened { b with chain := { b.chain with windowOpen := true } }).trans
    ((lowerNonExempt_fades _).civil.trans (hdriven _))

theorem closeWindow_civil (b : Blocks) : TouchesCivil b (closeWindow b) := by
  have hclosed : ∀ c : Blocks, TouchesCivil b { b with chain := c.chain } := fun _ => rfl
  have hdriven : ∀ c : Blocks, TouchesCivil c (driveCurfewActive c) := fun _ => rfl
  exact (hclosed { b with chain := { b.chain with windowOpen := false } }).trans
    ((defaultHandovers_fades _ _).civil.trans (hdriven _))

theorem followWindow_civil (b : Blocks) : TouchesCivil b (followWindow b) := by
  unfold followWindow
  split
  · exact openWindow_civil b
  · split
    · exact closeWindow_civil b
    · rfl

theorem prune_civil (b : Blocks) : TouchesCivil b (prune b) := by
  unfold prune; split <;> rfl

theorem report_civil (r : RecordId) (k : ChangeKind) (b : Blocks) : TouchesCivil b (b.report r k) :=
  (report_touches b r k).holding.engine.civil

/-! ## Steps (R117) -/

/-- The Time Base's record after a step from `old` to `new` (R110, R117). -/
def steppedTime (old new : Instant) (t : TimeBase) : TimeBase := { t with now := some new, lastStep := some (new - old, new) }

theorem stepTo_unset {b : Blocks} (h : b.time.now = none) (target : Instant) : stepTo target b = b := by
  simp only [stepTo, h]

/-- A step writes now and the last step, and hands on to the engine, the curfew window and the almanac. -/
theorem stepTo_civil {b : Blocks} {old : Instant} (h : b.time.now = some old) (target : Instant) :
    TouchesCivil (b.updateTime (steppedTime old (min target Config.lastInstant))) (stepTo target b) := by
  have hnoted := report_civil .timeBase .stepped (b.updateTime (steppedTime old (min target Config.lastInstant)))
  have hhanded : ∀ {c d : Blocks}, TouchesCivil c d → TouchesCivil c (followWindow d) ∧ TouchesCivil c (prune (followWindow d)) :=
    fun {_ d} hd => ⟨hd.trans (followWindow_civil d), hd.trans ((followWindow_civil d).trans (prune_civil _))⟩
  have hforward := hnoted.trans (forwardStep_touches _).civil
  unfold stepTo
  simp only [h]
  split_ifs
  · exact hnoted
  · exact (hhanded hforward).2
  · exact (hhanded hnoted).2
  · exact (hhanded hforward).1
  · exact (hhanded hnoted).1

theorem stepTo_time {b : Blocks} {old : Instant} (h : b.time.now = some old) (target : Instant) :
    (stepTo target b).time = steppedTime old (min target Config.lastInstant) b.time := (stepTo_civil h target).time

/-! ## Marks (R118) -/

/-- The Time Base's record once a mark's value is applied (R118). -/
def markedTime (value : Instant) (edge : Option Nat) (own : Nat) (t : TimeBase) : TimeBase :=
  { restartMeasurement edge own t with
    state := .free
    slew := if t.state = .locked then 0 else t.slew
    now := some (min value Config.lastInstant)
    lastStep := match t.now with
      | some old => some (min value Config.lastInstant - old, min value Config.lastInstant)
      | none => t.lastStep }

/-- The state takes a value and a change of it is told; leaving Locked ends the slew (R113). -/
theorem setTimeState_eq (st : TimeState) (b : Blocks) :
    setTimeState st b =
      { b with
        time := { b.time with
          state := st
          slew := if b.time.state = .locked ∧ st ≠ .locked then 0 else b.time.slew }
        notices := (if b.time.state = st then b else b.report .timeBase .timeState).notices } := by
  unfold setTimeState
  by_cases hsame : b.time.state = st
  · subst hsame
    simp
  · rw [if_neg hsame, if_neg hsame]
    have hleft : (b.time.state = .locked ∧ st ≠ .locked) = (b.time.state = .locked) := by
      simp only [ne_eq, eq_iff_iff, and_iff_left_iff_imp]
      rintro hlocked rfl
      exact hsame hlocked
    simp only [hleft, Blocks.updateTime, Blocks.report, Blocks.submit]
    by_cases hmask : ChangeKind.timeState ∈ b.mask <;> simp only [hmask, if_true, if_false]

theorem applyMark_civil (value : Instant) (edge : Option Nat) (b : Blocks) :
    TouchesCivil (b.updateTime (markedTime value edge b.ownUs)) (applyMark value edge b) := by
  have hfree : ∀ l, TouchesCivil (b.updateTime (markedTime value edge b.ownUs))
      { b.updateTime (markedTime value edge b.ownUs) with notices := l } := fun _ => rfl
  have hslew : ∀ st : TimeState, (if st = .locked ∧ TimeState.free ≠ .locked then (0 : Int) else b.time.slew) =
      if st = .locked then 0 else b.time.slew := fun st => by simp
  have hplaced : ∀ c, TouchesCivil c (firstSetting c) := fun c =>
    (placeBatch_touches _ _ c).civil.trans ((followWindow_civil _).trans (prune_civil _))
  cases hnow : b.time.now with
  | some old =>
    simp only [applyMark, hnow, setTimeState_eq]
    refine .trans ?_ (stepTo_civil (old := old) ?_ value)
    · simp only [Blocks.updateTime, steppedTime, markedTime, restartMeasurement, hnow, hslew]
      rfl
    · exact hnow
  | none =>
    simp only [applyMark, hnow, setTimeState_eq]
    refine .trans ?_ (hplaced _)
    simp only [Blocks.updateTime, markedTime, restartMeasurement, hnow, hslew]
    rfl

theorem applyMark_time (value : Instant) (edge : Option Nat) (b : Blocks) :
    (applyMark value edge b).time = markedTime value edge b.ownUs b.time := (applyMark_civil value edge b).time

/-! ## Ticks (R111) -/

theorem issueTick_unset {b : Blocks} (h : b.time.now = none) : issueTick b = b := by simp only [issueTick, h]

theorem issueTick_last {b : Blocks} {now : Instant} (h : b.time.now = some now) (hlast : Config.lastInstant ≤ now) :
    issueTick b = b := by
  simp only [issueTick, h, if_pos hlast]

theorem issueTick_moves {b : Blocks} {now : Instant} (h : b.time.now = some now) (hlast : now < Config.lastInstant) :
    issueTick b = { b with
      time := { b.time with now := some (now + 1), midnightDue := b.time.midnightDue || beginsDay (now + 1) }
      active := b.active.map (tickPosition b.cue.running)
      cue := { b.cue with ticks := min 65535 (b.cue.ticks + 1) } } := by
  simp only [issueTick, h, if_neg (not_le.2 hlast)]

/-! ## Discipline (R115, R116) -/

section
variable {b : Blocks} {now : Instant} (h : b.time.now = some now)
include h

/-- The record once the phase error is recorded, with the slew that is left. -/
theorem discipline_exact (he : phaseError now = 0) :
    discipline b = b.updateTime (fun t => { t with phase := some 0, slew := 0 }) := by
  simp only [discipline, h, he, if_true]
  rfl

theorem discipline_ahead (hpos : 0 < phaseError now) (hle : phaseError now ≤ 250) :
    discipline b = b.updateTime (fun t => { t with phase := some (phaseError now), slew := phaseError now - 1, withhold := true }) := by
  have hslew : (0 < phaseError now && decide (phaseError now ≤ Config.slewMax)) = true := by
    simp only [Bool.and_eq_true, decide_eq_true_eq]
    exact ⟨hpos, hle⟩
  simp only [discipline, h, if_neg hpos.ne', hslew, if_true]
  rfl

theorem discipline_behind (hneg : phaseError now < 0) (hle : -250 ≤ phaseError now) :
    discipline b = issueTick (b.updateTime (fun t => { t with phase := some (phaseError now), slew := phaseError now + 1 })) := by
  have hnot : ¬ (0 < phaseError now && decide (phaseError now ≤ Config.slewMax)) = true := by
    simp only [Bool.and_eq_true, decide_eq_true_eq]
    omega
  have hslew : (phaseError now < 0 && decide (-Config.slewMax ≤ phaseError now)) = true := by
    simp only [Bool.and_eq_true, decide_eq_true_eq]
    exact ⟨hneg, hle⟩
  simp only [discipline, h, if_neg hneg.ne, if_neg hnot, hslew, if_true]
  rfl

theorem discipline_far (hfar : phaseError now < -250 ∨ 250 < phaseError now) :
    discipline b = stepTo (now - phaseError now) (b.updateTime (fun t => { t with phase := some (phaseError now), slew := 0 })) := by
  have hne : phaseError now ≠ 0 := by omega
  have hnot : ¬ (0 < phaseError now && decide (phaseError now ≤ Config.slewMax)) = true := by
    simp only [Bool.and_eq_true, decide_eq_true_eq]
    unfold Config.slewMax
    omega
  have hnot' : ¬ (phaseError now < 0 && decide (-Config.slewMax ≤ phaseError now)) = true := by
    simp only [Bool.and_eq_true, decide_eq_true_eq]
    unfold Config.slewMax
    omega
  simp only [discipline, h, if_neg hne, if_neg hnot, if_neg hnot']
  rfl

end

theorem discipline_unset {b : Blocks} (h : b.time.now = none) : discipline b = b := by simp only [discipline, h]

/-- The record of a disciplined Time Base: the clock and the slew move, and the measurement stands. -/
def DisciplinedFrom (t u : TimeBase) : Prop :=
  u = { t with
    now := u.now, phase := u.phase, slew := u.slew, withhold := u.withhold, midnightDue := u.midnightDue, lastStep := u.lastStep } ∧
    (t.now.isSome → u.now.isSome)

theorem issueTick_frame (b : Blocks) :
    DisciplinedFrom b.time (issueTick b).time ∧ (issueTick b).scan = b.scan ∧ (issueTick b).ownUs = b.ownUs := by
  cases hnow : b.time.now with
  | none => rw [issueTick_unset hnow]; exact ⟨⟨rfl, id⟩, rfl, rfl⟩
  | some now =>
    by_cases hlast : now < Config.lastInstant
    · rw [issueTick_moves hnow hlast]; exact ⟨⟨rfl, fun _ => rfl⟩, rfl, rfl⟩
    · rw [issueTick_last hnow (not_lt.1 hlast)]; exact ⟨⟨rfl, id⟩, rfl, rfl⟩

/-- A discipline moves the clock and the slew, and nothing of the scan. -/
theorem discipline_frame (b : Blocks) :
    DisciplinedFrom b.time (discipline b).time ∧ (discipline b).scan = b.scan ∧ (discipline b).ownUs = b.ownUs := by
  cases hnow : b.time.now with
  | none => rw [discipline_unset hnow]; exact ⟨⟨rfl, id⟩, rfl, rfl⟩
  | some now =>
    by_cases he : phaseError now = 0
    · rw [discipline_exact hnow he]; exact ⟨⟨rfl, id⟩, rfl, rfl⟩
    by_cases hfar : phaseError now < -250 ∨ 250 < phaseError now
    · rw [discipline_far hnow hfar]
      have hstep := stepTo_civil (b := b.updateTime (fun t => { t with phase := some (phaseError now), slew := 0 })) hnow
        (now - phaseError now)
      rw [hstep.time, hstep.scan, hstep.ownUs]
      exact ⟨⟨rfl, fun _ => rfl⟩, rfl, rfl⟩
    by_cases hpos : 0 < phaseError now
    · rw [discipline_ahead hnow hpos (by omega)]; exact ⟨⟨rfl, id⟩, rfl, rfl⟩
    · rw [discipline_behind hnow (by omega) (by omega)]
      obtain ⟨⟨htime, hset⟩, hrest⟩ := issueTick_frame
        (b.updateTime (fun t => { t with phase := some (phaseError now), slew := phaseError now + 1 }))
      exact ⟨⟨htime, hset⟩, hrest⟩

end Sys2Proof.Machine

/-! PROOFS. The measurement of the pulse edges, and obligations O16 and O18. -/

namespace Sys2Proof.Machine

/-! ## Edges (R112 to R114) -/

theorem lastFour_length (l : List Nat) : (lastFour l).length = min 4 l.length := by
  unfold lastFour
  rw [List.length_drop]
  omega

theorem mem_of_mem_lastFour {n : Nat} {l : List Nat} (h : n ∈ lastFour l) : n ∈ l := List.mem_of_mem_drop h

/-- The record once a valid interval has joined the run (R112, R114). -/
def measured (n : Nat) (t : TimeBase) : TimeBase :=
  { t with run := lastFour (t.run ++ [n]), lastInterval := n, interval := if t.frozen then t.interval else n }

/-- Whether a valid edge finds the Time Base locked, or locks it by the fourth interval of its run (R113). -/
def EdgeLocks (t : TimeBase) : Prop := t.state = .locked ∨ (t.state ≠ .unset ∧ 3 ≤ t.run.length)

theorem locks_iff (n : Nat) (t : TimeBase) :
    (decide (t.state = .locked) || (decide ((measured n t).run.length = 4) &&
      (decide (t.state = .free) || decide (t.state = .holdover)))) = true ↔ EdgeLocks t := by
  have hfull : (measured n t).run.length = 4 ↔ 3 ≤ t.run.length := by
    simp only [measured, lastFour_length, List.length_append, List.length_singleton]
    omega
  simp only [Bool.or_eq_true, Bool.and_eq_true, decide_eq_true_eq, hfull, EdgeLocks]
  cases t.state <;> simp

theorem validEdge_of_measures {n : Nat} {b : Blocks} (h : ¬ EdgeLocks b.time) : validEdge n b = b.updateTime (measured n) := by
  unfold validEdge
  exact if_neg (fun hlocks => h ((locks_iff n b.time).1 hlocks))

/-- The blocks that a locking edge hands to its discipline: Locked, at the rate of the run's average (R113, R114). -/
def lockedEdge (n : Nat) (b : Blocks) : Blocks := setRate (averageInterval (measured n b.time).run) (setTimeState .locked (b.updateTime (measured n)))

theorem setTimeState_run (st : TimeState) (b : Blocks) : (setTimeState st b).time.run = b.time.run := by rw [setTimeState_eq]

theorem validEdge_of_locks {n : Nat} {b : Blocks} (h : EdgeLocks b.time) : validEdge n b = discipline (lockedEdge n b) := by
  unfold validEdge
  refine (if_pos ((locks_iff n b.time).2 h)).trans ?_
  dsimp only
  rw [setTimeState_run]
  rfl

theorem setRate_eq (rate : Nat) (b : Blocks) :
    setRate rate b = { b with time := { b.time with
      rate := rate
      tickFrom := if b.time.rate = rate then b.time.tickFrom else b.ownUs
      ticks := if b.time.rate = rate then b.time.ticks else 0 } } := by
  unfold setRate
  by_cases hsame : b.time.rate = rate
  · subst hsame
    simp
  · simp only [if_neg hsame]
    rfl

theorem lockedEdge_eq (n : Nat) (b : Blocks) :
    lockedEdge n b = { b with
      time := { b.time with
        state := .locked
        run := lastFour (b.time.run ++ [n])
        lastInterval := n
        interval := if b.time.frozen then b.time.interval else n
        rate := (lastFour (b.time.run ++ [n])).sum / (lastFour (b.time.run ++ [n])).length
        tickFrom := if b.time.rate = (lastFour (b.time.run ++ [n])).sum / (lastFour (b.time.run ++ [n])).length
          then b.time.tickFrom else b.ownUs
        ticks := if b.time.rate = (lastFour (b.time.run ++ [n])).sum / (lastFour (b.time.run ++ [n])).length
          then b.time.ticks else 0 }
      notices := (if b.time.state = .locked then b else b.report .timeBase .timeState).notices } := by
  unfold lockedEdge
  rw [setRate_eq, setTimeState_eq]
  simp only [Blocks.updateTime, measured, averageInterval, Blocks.report]
  by_cases hlocked : b.time.state = .locked <;> simp only [hlocked, if_true, if_false, submit_notices] <;> rfl

/-- An invalid interval empties the run, freezes or counts, and takes Locked to Holdover (R112, R113). -/
theorem invalidEdge_time (n : Nat) (b : Blocks) :
    (invalidEdge n b).time = { b.time with
      run := []
      lastInterval := n
      frozen := true
      bad := if b.time.frozen then min 255 (b.time.bad + 1) else b.time.bad
      interval := if b.time.frozen then b.time.interval else n
      state := if b.time.state = .locked then .holdover else b.time.state
      slew := if b.time.state = .locked then 0 else b.time.slew } := by
  unfold invalidEdge
  simp only [setTimeState_eq]
  by_cases hfrozen : b.time.frozen = true <;> by_cases hlocked : b.time.state = .locked <;>
    simp [hfrozen, hlocked, Blocks.updateTime]

/-! ## What every row but a full reset keeps of the clocks -/

/-- Neither the Time Base's record nor the Sensor Scan changes. -/
def SameClocks (a b : Blocks) : Prop := b.time = a.time ∧ b.scan = a.scan

/-- From one set of blocks to the next: the rate and the run stay within bounds, no code appears while the scan calibrates, and civil
time once set stays set. -/
def ClocksKept (a b : Blocks) : Prop :=
  (RateWithin a → RateWithin b) ∧ (CalibrationHoldsNoCode a → CalibrationHoldsNoCode b) ∧
    (a.time.now.isSome = true → b.time.now.isSome = true)

theorem SameClocks.kept {a b : Blocks} (h : SameClocks a b) : ClocksKept a b := by
  obtain ⟨htime, hscan⟩ := h
  unfold ClocksKept RateWithin CalibrationHoldsNoCode
  rw [htime, hscan]
  exact ⟨id, id, id⟩

theorem ClocksKept.refl (b : Blocks) : ClocksKept b b := ⟨id, id, id⟩

theorem ClocksKept.trans {a b c : Blocks} (h : ClocksKept a b) (k : ClocksKept b c) : ClocksKept a c :=
  ⟨k.1 ∘ h.1, k.2.1 ∘ h.2.1, k.2.2 ∘ h.2.2⟩

/-- A new record of the Time Base that keeps the rate, the run and whether civil time is set. -/
theorem ClocksKept.of_time {a b : Blocks} (hscan : b.scan = a.scan) (hrate : b.time.rate = a.time.rate) (hrun : b.time.run = a.time.run ∨ b.time.run = [])
    (hnow : a.time.now.isSome = true → b.time.now.isSome = true) : ClocksKept a b := by
  refine ⟨fun h => ?_, fun h => ?_, hnow⟩
  · obtain ⟨hlow, hhigh, hlength, hmem⟩ := h
    unfold RateWithin
    rw [hrate]
    obtain hsame | hempty := hrun
    · rw [hsame]; exact ⟨hlow, hhigh, hlength, hmem⟩
    · rw [hempty]; exact ⟨hlow, hhigh, Nat.zero_le 4, fun n hn => absurd hn List.not_mem_nil⟩
  · unfold CalibrationHoldsNoCode
    rw [hscan]
    exact h

theorem TouchesCivil.sameClocks {a b : Blocks} (h : TouchesCivil a b) : SameClocks a b := ⟨h.time, h.scan⟩

theorem TouchesEngine.sameClocks {a b : Blocks} (h : TouchesEngine a b) : SameClocks a b := h.civil.sameClocks

theorem TouchesNodes.sameClocks {a b : Blocks} (h : TouchesNodes a b) : SameClocks a b := ⟨h.time, h.scan⟩

theorem TouchesFades.sameClocks {a b : Blocks} (h : TouchesFades a b) : SameClocks a b := h.civil.sameClocks

theorem TouchesPlacement.engine {a b : Blocks} (h : TouchesPlacement a b) : TouchesEngine a b := by
  unfold TouchesPlacement TouchesEngine at *; rw [h]

theorem SameClocks.trans {a b c : Blocks} (h : SameClocks a b) (k : SameClocks b c) : SameClocks a c :=
  ⟨k.1.trans h.1, k.2.trans h.2⟩

/-! ### Rate and run -/

theorem sum_ge {l : List Nat} {m : Nat} (h : ∀ n ∈ l, m ≤ n) : m * l.length ≤ l.sum := by
  rw [Nat.mul_comm, ← smul_eq_mul]
  exact List.card_nsmul_le_sum l m h

theorem sum_le {l : List Nat} {m : Nat} (h : ∀ n ∈ l, n ≤ m) : l.sum ≤ m * l.length := by
  rw [Nat.mul_comm, ← smul_eq_mul]
  exact List.sum_le_card_nsmul l m h

/-- R114: the average of valid intervals is a valid interval. -/
theorem average_within {l : List Nat} (hl : l ≠ []) (h : ∀ n ∈ l, 999800 ≤ n ∧ n ≤ 1000200) :
    999800 ≤ l.sum / l.length ∧ l.sum / l.length ≤ 1000200 := by
  have hpos := List.length_pos_iff.2 hl
  exact ⟨(Nat.le_div_iff_mul_le hpos).2 (sum_ge fun n hn => (h n hn).1),
    Nat.div_le_of_le_mul (by rw [Nat.mul_comm]; exact sum_le fun n hn => (h n hn).2)⟩

theorem measured_run_within {n : Nat} {t : TimeBase} (hn : validInterval n = true) (h : ∀ m ∈ t.run, 999800 ≤ m ∧ m ≤ 1000200) :
    ∀ m ∈ lastFour (t.run ++ [n]), 999800 ≤ m ∧ m ≤ 1000200 := by
  intro m hm
  obtain hold | hnew := List.mem_append.1 (mem_of_mem_lastFour hm)
  · exact h m hold
  · rw [List.mem_singleton.1 hnew]
    unfold validInterval at hn
    rwa [Bool.and_eq_true, decide_eq_true_eq, decide_eq_true_eq] at hn

theorem validEdge_kept {n : Nat} (hn : validInterval n = true) (b : Blocks) : ClocksKept b (validEdge n b) := by
  by_cases hlocks : EdgeLocks b.time
  · rw [validEdge_of_locks hlocks]
    obtain ⟨⟨htime, hset⟩, hscan, -⟩ := discipline_frame (lockedEdge n b)
    rw [lockedEdge_eq] at htime hset hscan ⊢
    refine ⟨fun ⟨_, _, _, hmem⟩ => ?_, fun h => ?_, hset⟩
    · have hrun := measured_run_within hn hmem
      have hsome : lastFour (b.time.run ++ [n]) ≠ [] := by
        rw [← List.length_pos_iff, lastFour_length, List.length_append, List.length_singleton]
        omega
      unfold RateWithin
      rw [htime]
      exact ⟨(average_within hsome hrun).1, (average_within hsome hrun).2, (lastFour_length _).trans_le (min_le_left _ _), hrun⟩
    · unfold CalibrationHoldsNoCode
      rw [hscan]
      exact h
  · rw [validEdge_of_measures hlocks]
    exact ⟨fun ⟨hlow, hhigh, _, hmem⟩ =>
      ⟨hlow, hhigh, (lastFour_length _).trans_le (min_le_left _ _), measured_run_within hn hmem⟩, id, id⟩

theorem invalidEdge_scan (n : Nat) (b : Blocks) : (invalidEdge n b).scan = b.scan := by
  unfold invalidEdge
  simp only [setTimeState_eq]
  split_ifs <;> simp [Blocks.updateTime]

theorem applyMark_kept (v : Instant) (edge : Option Nat) (b : Blocks) : ClocksKept b (applyMark v edge b) := by
  have htime := applyMark_time v edge b
  refine ClocksKept.of_time (applyMark_civil v edge b).scan ?_ (.inr ?_) ?_ <;> rw [htime] <;> simp [markedTime, restartMeasurement]

theorem takeEdge_kept (b : Blocks) : ClocksKept b (takeEdge b) := by
  unfold takeEdge
  split
  · exact applyMark_kept _ _ b
  · have hcounted : ClocksKept b (b.updateTime (fun t => { t with lastEdge := some b.ownUs })) := ⟨id, id, id⟩
    dsimp only
    split
    · exact hcounted
    · split
      · rename_i hvalid
        exact hcounted.trans (validEdge_kept hvalid _)
      · refine hcounted.trans (ClocksKept.of_time (invalidEdge_scan _ _) ?_ (.inr ?_) (fun hset => ?_)) <;> rw [invalidEdge_time]
        exact hset

/-! ### The scan -/

theorem endCalibration_kept (b : Blocks) : ClocksKept b (endCalibration b) := by
  unfold endCalibration
  split
  · exact ⟨id, fun _ hcalibrating => absurd hcalibrating (by simp), id⟩
  · exact .refl b

theorem darkenFeeder_sameClocks (f : Nat) (b : Blocks) : SameClocks b (darkenFeeder f b) := by
  refine forEach_keeps (P := SameClocks b) (fun z c hc => ?_) _ b ⟨rfl, rfl⟩
  unfold darkenZone
  split
  · exact hc
  · exact hc

theorem currentSample_sameClocks (f code : Nat) (b : Blocks) : SameClocks b (currentSample f code b) := by
  have htripped : ∀ c, SameClocks c (tripFeeder f c) := by
    intro c
    have hopened := (setContactor_touches f false (c.updateFeeder f (fun x => { x with tripped := true, idleFrom := none }))).trans
      (report_touches _ (.feeder f) .tripped)
    exact SameClocks.trans ⟨hopened.nodes.time, hopened.nodes.scan⟩ (darkenFeeder_sameClocks f _)
  obtain ⟨-, h⟩ | ⟨-, -, h⟩ | ⟨-, -, h⟩ := currentSample_cases f code b
  · rw [h]; exact ⟨rfl, rfl⟩
  · rw [h]; exact ⟨rfl, rfl⟩
  · rw [h]; exact SameClocks.trans ⟨rfl, rfl⟩ (htripped _)

theorem scanChannel_time (c x y : Nat) (b : Blocks) : (scanChannel c x y b).time = b.time := by
  obtain ⟨-, h⟩ | ⟨-, -, h⟩ | ⟨-, -, -, h⟩ | ⟨-, -, -, h⟩ := scanChannel_cases c x y b <;> rw [h]
  · rfl
  · rfl
  · exact (currentSample_sameClocks _ _ _).1

theorem scanChannel_calibrating (c x y : Nat) (b : Blocks) : (scanChannel c x y b).scan.calibrating = b.scan.calibrating := by
  obtain ⟨-, h⟩ | ⟨-, -, h⟩ | ⟨-, -, -, h⟩ | ⟨-, -, -, h⟩ := scanChannel_cases c x y b <;> rw [h]
  · rfl
  · rfl
  · rw [(currentSample_sameClocks _ _ _).2]
    rfl

/-- R165: while the scan calibrates no sample is taken. -/
theorem scanChannel_kept (c x y : Nat) (b : Blocks) : ClocksKept b (scanChannel c x y b) := by
  have htime := scanChannel_time c x y b
  unfold ClocksKept RateWithin
  rw [htime]
  refine ⟨id, fun h hcalibrating => ?_, id⟩
  rw [scanChannel_calibrating] at hcalibrating
  have hsame : scanChannel c x y b = b := by
    unfold scanChannel
    rw [if_pos hcalibrating]
  rw [hsame]
  exact h hcalibrating

/-! ### Every row -/

theorem regularTick_kept (b : Blocks) : ClocksKept b (regularTick b) := by
  unfold regularTick
  split
  · exact .refl b
  · dsimp only
    split
    · exact ⟨id, id, id⟩
    · obtain ⟨⟨htime, hset⟩, hscan, -⟩ := issueTick_frame ((b.advanceTo b.nextTickUs).updateTime (fun t => { t with ticks := t.ticks + 1 }))
      refine ClocksKept.of_time hscan ?_ (.inl ?_) hset <;> rw [htime] <;> rfl

theorem takeMidnight_kept (b : Blocks) : ClocksKept b (takeMidnight b) := by
  unfold takeMidnight
  split
  · have hpruned := prune_civil (b.updateTime (fun t => { t with midnightDue := false }))
    refine ClocksKept.of_time hpruned.scan ?_ (.inl ?_) ?_ <;> rw [hpruned.time]
    exacts [rfl, rfl, id]
  · exact .refl b

theorem holdoverTimeout_kept (b : Blocks) : ClocksKept b (holdoverTimeout b) := by
  unfold holdoverTimeout
  split
  · split
    · rw [setTimeState_eq]
      exact ⟨id, id, id⟩
    · exact .refl b
  · exact .refl b

theorem edgeSaturation_kept (b : Blocks) : ClocksKept b (edgeSaturation b) := by
  unfold edgeSaturation
  split <;> exact ⟨id, id, id⟩

theorem pendingExpiry_kept (b : Blocks) : ClocksKept b (pendingExpiry b) := by
  unfold pendingExpiry
  split
  · exact applyMark_kept _ _ (b.advanceTo _)
  · exact .refl b

theorem cueWord_sameClocks (checked : Bool) (time : Nat) (running : Bool) (b : Blocks) :
    SameClocks b (cueWord checked time running b) := by
  have hstate : ∀ (st : CueState) (c : Blocks), SameClocks c (setCueState st c) := by
    intro st c
    unfold setCueState
    split
    · exact ⟨rfl, rfl⟩
    · exact ⟨report_time _ _ _, report_scan _ _ _⟩
  have hmoved : ∀ (a : Option Int) (c : Blocks), SameClocks c (moveOnWord a c) := by
    intro a c
    unfold moveOnWord
    repeat' split
    all_goals first | exact ⟨rfl, rfl⟩ | exact hstate _ (c.updateCue _)
  have hpaused : ∀ (p : Prop) [Decidable p] (c : Blocks), SameClocks c (if p then c else c.report .cueClock .cuePause) := by
    intro p _ c
    split
    · exact ⟨rfl, rfl⟩
    · exact ⟨report_time _ _ _, report_scan _ _ _⟩
  have hfollowed : ∀ (p : Prop) [Decidable p] (c : Blocks), SameClocks c (if p then setFollowing time c else c) := by
    intro p _ c
    split <;> exact ⟨rfl, rfl⟩
  unfold cueWord takeWord
  split
  · dsimp only
    have hstored : ∀ g, SameClocks b (b.updateCue g) := fun _ => ⟨rfl, rfl⟩
    have hword := fun g a => ((hstored g).trans (hpaused (b.cue.running = running) _)).trans (hmoved a _)
    exact (hword _ _).trans (hfollowed _ _)
  · exact ⟨rfl, rfl⟩

theorem silenceTimeout_sameClocks (b : Blocks) : SameClocks b (silenceTimeout b) := by
  have hlost : ∀ c, SameClocks c (loseLock c) := fun c =>
    forEach_keeps (P := SameClocks c) (fun n x hx => ⟨(report_time x _ _).trans hx.1, (report_scan x _ _).trans hx.2⟩) _ _ ⟨rfl, rfl⟩
  have hsilent : ∀ c : Blocks, SameClocks c (setCueState .silent c) := by
    intro c
    unfold setCueState
    split
    · exact ⟨rfl, rfl⟩
    · exact ⟨report_time _ _ _, report_scan _ _ _⟩
  unfold silenceTimeout
  split
  · exact ⟨rfl, rfl⟩
  · split
    · exact ⟨rfl, rfl⟩
    · dsimp only
      have hstopped : ∀ us g, SameClocks b ((b.advanceTo us).updateCue g) := fun _ _ => ⟨rfl, rfl⟩
      split
      · exact ((hstopped _ _).trans (hsilent _)).trans (hlost _)
      · exact (hstopped _ _).trans (hsilent _)

theorem completeRender_sameClocks (b : Blocks) : SameClocks b (completeRender b) := by
  unfold completeRender
  split
  · exact ⟨rfl, rfl⟩
  · refine forEach_keeps (P := SameClocks b) (fun f c hc => ?_) _ _ ⟨rfl, rfl⟩
    unfold recordScale
    dsimp only
    split
    · exact ⟨(report_time _ _ _).trans hc.1, (report_scan _ _ _).trans hc.2⟩
    · exact hc

theorem eventEffect_kept (c : Instr) (b : Blocks) : ClocksKept b (eventEffect c b) := by
  cases c with
  | entryArmed =>
    show ClocksKept b (reachLead _ b)
    unfold reachLead
    repeat' split
    all_goals first | exact .refl b | exact (armEntry_touches _ b).sameClocks.kept
  | occurrenceStart =>
    show ClocksKept b (reachStart b)
    unfold reachStart
    repeat' split
    all_goals first | exact .refl b | exact (takeStart_touches _ b).sameClocks.kept
  | occurrenceEnd =>
    show ClocksKept b (reachEnd _ b)
    unfold reachEnd
    repeat' split
    all_goals first | exact .refl b | exact ((leave_touches _ _ _ b).trans (place_touches _ _)).sameClocks.kept
  | panelHoldAssertion =>
    show ClocksKept b (assertPanelHold b)
    unfold assertPanelHold
    split
    · exact .refl b
    · exact (defaultHandovers_fades _ { b with panelHold := true }).sameClocks.kept
  | panelHoldRelease =>
    show ClocksKept b (releasePanelHold b)
    unfold releasePanelHold
    split
    · exact (defaultHandovers_fades _ { b with panelHold := false }).sameClocks.kept
    · exact .refl b
  | renderStart => unfold eventEffect; dsimp only; split <;> exact ⟨id, id, id⟩
  | renderTimerExpiryLost => unfold eventEffect; dsimp only; split <;> exact ⟨id, id, id⟩
  | renderCompletion => exact (completeRender_sameClocks b).kept
  | curfewOpening => unfold eventEffect; dsimp only; split; exacts [(openWindow_civil b).sameClocks.kept, .refl b]
  | curfewClosing => unfold eventEffect; dsimp only; split; exacts [(closeWindow_civil b).sameClocks.kept, .refl b]
  | civilTick => exact regularTick_kept b
  | midnight => exact takeMidnight_kept b
  | pulseEdge elapsed => exact takeEdge_kept (b.advanceTo _)
  | holdoverTimeout => exact holdoverTimeout_kept b
  | edgeCounterSaturation => exact edgeSaturation_kept b
  | pendingMarkExpiry => exact pendingExpiry_kept b
  | cueWord => exact (cueWord_sameClocks _ _ _ b).kept
  | silenceTimeout => exact (silenceTimeout_sameClocks b).kept
  | frameSend => exact (nextFrame_nodes _ b).sameClocks.kept
  | tallyReply => exact (tallyReply_nodes _ _ b).sameClocks.kept
  | noticeWindow => exact (noticeWindow_nodes _ _ b).sameClocks.kept
  | directedWindow => exact (directedWindow_nodes _ _ b).sameClocks.kept
  | directedAttemptFailed => exact (attemptFailed_nodes _ b).sameClocks.kept
  | noticeRead => exact (noticeReply_nodes _ _ b).sameClocks.kept
  | setFallback => exact (fallbackReply_nodes _ _ b).sameClocks.kept
  | offer => exact (offerReply_nodes _ _ b).sameClocks.kept
  | offerMissingOrNotGood => exact (offerFailed_nodes _ b).sameClocks.kept
  | lineFault => exact (lineFault_touches _ b).sameClocks.kept
  | retryTimerExpiry => exact (retryExpiry_nodes _ b).sameClocks.kept
  | calibrationEnd => exact endCalibration_kept b
  | sensorScan => exact scanChannel_kept _ _ _ b
  | idleTimerExpiry =>
    show ClocksKept b (idleExpiry _ b)
    unfold idleExpiry
    split
    · exact .refl b
    · have hstopped : ∀ us f g, ClocksKept b ((b.advanceTo us).updateFeeder f g) := fun _ _ _ => ⟨id, id, id⟩
      exact (hstopped _ _ _).trans (setContactor_touches _ false _).nodes.sameClocks.kept
  | _ => exact .refl b

/-- What a Restart Schedule touches after its first stages (R184). -/
theorem restartSchedule_touches (b : Blocks) : TouchesEngine (restartBegin b) (restartSchedule b).1 :=
  (restartPlace_touches _).trans ((restartHandovers_touches _).trans (endDeferral_touches _)).engine

theorem driveReclosed_touches (f : Nat) (b : Blocks) : TouchesFeeders b (driveReclosed f b) := by
  have hstopped : ∀ g, TouchesFeeders b (b.updateFeeder f g) := fun _ => rfl
  unfold driveReclosed
  repeat' split
  · exact setContactor_touches f _ b
  · exact setContactor_touches f _ b
  · exact (hstopped _).trans (setContactor_touches f _ _)

theorem setContactorOutput_touches (f : Nat) (so : Option OutputSource) (co : Option OutputCommand) (b : Blocks) :
    TouchesFeeders b (setContactorOutput f so co b) := by
  have hset : ∀ g (c : Blocks), TouchesFeeders c (c.updateFeeder f g) := fun _ _ => rfl
  unfold setContactorOutput
  dsimp only
  repeat' split
  · exact (hset _ b).trans (hset _ _)
  · exact ((hset _ b).trans (hset _ _)).trans (setContactor_touches f _ _)
  · exact (hset _ b).trans (reevaluateFeeder_touches f _)
  · exact hset _ b

theorem driveLine_civil (line : OutputLine) (so : Option OutputSource) (co : Option OutputCommand) (b : Blocks) :
    TouchesCivil b (driveLine line so co b) := by
  cases line with
  | contactor f => exact (setContactorOutput_touches f so co b).holding.engine.civil
  | showLive => rfl
  | curfewActive => rfl

theorem withdrawActive_touches (n : Nat) (b : Blocks) : TouchesEngine b (withdrawActive n b) := by
  have hdropped : ∀ o, TouchesEngine b (dropRecord o b) := fun _ => rfl
  have hrecorded : ∀ c : Blocks, TouchesEngine c (recordOutcome n .cutShort c) := fun _ => rfl
  unfold withdrawActive
  split
  · rfl
  · exact ((hdropped _).trans (resolve_touches _ _ _).engine).trans (hrecorded _)

theorem fieldsService_kept (f : RequestFields) (b : Blocks) : ClocksKept b (fieldsService f b).1 := by
  cases f with
  | restartSchedule =>
    have hbegun : SameClocks b (restartBegin b) := ⟨rfl, rfl⟩
    exact (hbegun.trans (restartSchedule_touches b).sameClocks).kept
  | withdraw n =>
    show ClocksKept b (withdraw n b).1
    have hfreed : ∀ c : Blocks, TouchesEngine c (freeSlot n (dropEntry n c)) := fun c =>
      .trans (b := dropEntry n c) rfl (freeSlot_touches n _)
    unfold withdraw
    split
    · exact .refl b
    · split
      · exact .refl b
      · exact (((withdrawActive_touches n b).trans (removeEntry_touches n _)).trans (hfreed _)).sameClocks.kept
  | markTime day tod mode =>
    show ClocksKept b (markTime day tod mode b).1
    unfold markTime
    repeat' split
    all_goals first | exact ⟨id, id, id⟩ | exact applyMark_kept _ _ b
  | setCalendarBase base =>
    show ClocksKept b (setCalendarBase base b).1
    unfold setCalendarBase
    split <;> exact ⟨id, id, id⟩
  | timeReport =>
    show ClocksKept b (timeReport b).1
    unfold timeReport
    dsimp only
    split <;> exact ⟨id, id, id⟩
  | loadAlmanac days =>
    show ClocksKept b (loadAlmanac days b).1
    have hstored : ∀ l, SameClocks b { b with almanac := l } := fun _ => ⟨rfl, rfl⟩
    have hremoved := fun l c => forEach_rel TouchesEngine.refl TouchesEngine.trans (fun n b => removeEntry_touches n b) l c
    unfold loadAlmanac
    dsimp only
    repeat' split
    all_goals try exact .refl b
    exact ((hstored _).trans ((hremoved _ _).trans (placeBatch_touches _ _ _)).sameClocks).kept
  | followAgain n =>
    show ClocksKept b (followAgain n b).1
    unfold followAgain
    dsimp only
    repeat' split
    all_goals exact ⟨id, id, id⟩
  | configureZone z x =>
    show ClocksKept b (configureZone z x b).1
    rw [configureZone_directory z x b]
    exact ⟨id, id, id⟩
  | clearNode z => exact (clearNode_nodes z b).sameClocks.kept
  | configureRiser r y => exact (configureRiser_nodes r y b).sameClocks.kept
  | riserReset r => exact (riserReset_nodes r b).sameClocks.kept
  | rollCall r => exact (rollCall_nodes r b).sameClocks.kept
  | setCurfew body =>
    have hstored : ∀ c, SameClocks b { b with chain := c } := fun _ => ⟨rfl, rfl⟩
    have hlowered : ∀ (p : Prop) [Decidable p] (c : Blocks), SameClocks c (if p then lowerNonExempt c else c) := by
      intro p _ c
      split
      · exact (lowerNonExempt_fades c).sameClocks
      · exact ⟨rfl, rfl⟩
    have hset := fun (c : LevelChain) (p : Prop) [Decidable p] =>
      (((hstored c).trans (followWindow_civil _).sameClocks).trans (hlowered p _)).kept
    show ClocksKept b (setCurfew body b).1
    unfold setCurfew
    cases body with
    | off => exact hset _ _
    | window =>
      dsimp only
      split
      · exact .refl b
      · exact hset _ _
  | setAmbient x =>
    show ClocksKept b (setAmbient x b).1
    unfold setAmbient
    dsimp only
    split_ifs <;> exact ⟨id, id, id⟩
  | setHoldLook l =>
    have hstored : ∀ c, ClocksKept b { b with chain := c } := fun _ => ⟨id, id, id⟩
    show ClocksKept b (setHoldLook l b).1
    unfold setHoldLook
    dsimp only
    split_ifs
    · exact .refl b
    · exact (hstored _).trans (defaultHandovers_fades _ _).sameClocks.kept
    · exact hstored _
  | configureSchedule lead handover =>
    have hstored : ∀ l c, ClocksKept b { b with armLead := l, chain := c } := fun _ _ => ⟨id, id, id⟩
    show ClocksKept b (configureSchedule lead handover b).1
    unfold configureSchedule
    dsimp only
    split_ifs
    · exact .refl b
    · exact hstored _ _
    · exact (hstored _ _).trans (armDue_touches _).sameClocks.kept
  | setOutput line so co =>
    show ClocksKept b (setOutput line so co b).1
    unfold setOutput
    split
    · dsimp only
      split_ifs
      · exact .refl b
      · exact (driveLine_civil _ _ _ b).sameClocks.kept
      · exact .refl b
    · exact .refl b
  | recloseFeeder n =>
    have hcleared : ∀ g, SameClocks b (b.updateFeeder n g) := fun _ => ⟨rfl, rfl⟩
    show ClocksKept b (recloseFeeder n b).1
    unfold recloseFeeder
    split_ifs
    · exact .refl b
    · exact .refl b
    · exact (((hcleared _).trans (defaultHandovers_fades _ _).sameClocks).trans (driveReclosed_touches n _).nodes.sameClocks).kept
  | _ =>
    unfold fieldsService lookUp listUpcoming forecast programOpen programSteps programClose programRemove programReport zoneReport
      riserReport configureFeeder feederReport readChannel setNoticeMask
    dsimp only
    repeat' split
    all_goals exact ⟨id, id, id⟩

theorem addBooking_touches (n : Nat) (f : BookingFields) (b : Blocks) : TouchesEngine b (addBooking n f b) := by
  have htaken : TouchesEngine b (takeSlot b) := by unfold takeSlot; split <;> rfl
  have hfilled : ∀ c : Blocks, TouchesEngine c { c with
      bookings := insertBooking ⟨n, f, .held, none, .noOutcome, 0, c.nextId, ⟨false, false⟩⟩ c.bookings
      nextId := c.nextId + 1
      lastFreed := none } := fun _ => rfl
  exact htaken.trans (hfilled _)

theorem book_touches (l : List Byte) (b : Blocks) : TouchesEngine b (book l b).1 := by
  unfold book
  repeat' split
  all_goals first | rfl | exact (addBooking_touches _ _ b).trans (place_touches _ _)

theorem amendHolding_touches (mask : BitVec 16) (n : Nat) (old f : BookingFields) (b : Blocks) :
    TouchesEngine b (amendHolding mask n old f b) := by
  have htier : ∀ g, TouchesEngine b (b.updateActive n g) := fun _ => rfl
  unfold amendHolding
  split
  · exact (htier _).trans (resolve_touches _ _ _).engine
  · rfl

theorem amendExempt_touches (n : Nat) (old f : BookingFields) (b : Blocks) : TouchesEngine b (amendExempt n old f b) := by
  unfold amendExempt
  split
  · exact (forEach_rel TouchesHolding.refl TouchesHolding.trans (lowerZone_touches _) _ b).engine
  · rfl

theorem amendRunning_touches (mask : BitVec 16) (k : Booking) (f : BookingFields) (o : Occurrence) (b : Blocks) :
    TouchesEngine b (amendRunning mask k f o b).1 := by
  have hstored : TouchesEngine b (storeFields k.number f b) := rfl
  have hfollowed : ∀ c, TouchesEngine c (amendFollow mask k.number k.fields f c) := by
    intro c
    unfold amendFollow
    split <;> rfl
  have hmoved : ∀ e est c, TouchesEngine c (moveEnd k.number e est c) := fun _ _ _ => rfl
  have hamended := hstored.trans ((amendHolding_touches mask k.number k.fields f _).trans
    ((amendExempt_touches k.number k.fields f _).trans (hfollowed _)))
  unfold amendRunning
  dsimp only
  split
  · exact hamended
  · exact hamended
  · exact hamended.trans (hmoved _ _ _)
  · exact hamended.trans ((leave_touches _ _ _ _).trans (place_touches _ _))

theorem amend_touches (l : List Byte) (b : Blocks) : TouchesEngine b (amend l b).1 := by
  have hforgot : ∀ c : Blocks, TouchesEngine c { c with lastFreed := none } := fun _ => rfl
  have hstored : ∀ n f, TouchesEngine b (storeFields n f b) := fun _ _ => rfl
  have hwaiting : ∀ n f, TouchesEngine b (amendWaiting n f b).1 := fun n f =>
    (hstored n f).trans ((hforgot _).trans ((removeEntry_touches n _).trans (place_touches n _)))
  unfold amend amendWith
  dsimp only
  repeat' split
  all_goals first
    | rfl
    | exact (hforgot b).trans (amendRunning_touches _ _ _ _ _)
    | exact hwaiting _ _

theorem passIdle_sameClocks (b : Blocks) : SameClocks b (passIdle b) := by
  unfold passIdle
  rw [progressRender_eq]
  exact ⟨rfl, rfl⟩

theorem exec_kept {c : Instr} {s t : State} (h : exec c s = .next t) (hc : c ≠ .fullReset) : ClocksKept s.blocks t.blocks :=
  exec_keeps .refl eventEffect_kept fieldsService_kept (fun l b => (book_touches l b).sameClocks.kept)
    (fun l b => (amend_touches l b).sameClocks.kept) (fun b => (removeNotice_placement b).engine.sameClocks.kept) h hc

/-- Settles O18. -/
theorem civilTimeStaysSet : Obligations.CivilTimeStaysSet := by
  unfold Obligations.CivilTimeStaysSet
  intro c s t hc h
  exact (exec_kept h hc).2.2

/-- Settles O16: what the rows keep, and a full reset's own record. -/
theorem stepKeepsRateAndCalibration : Obligations.StepKeepsRateAndCalibration := by
  unfold Obligations.StepKeepsRateAndCalibration
  obtain ⟨-, -, hcodes, -, hrate⟩ := resetIsSafe
  have hkept : ∀ s t : State, step s = .next t →
      (RateWithin s.blocks → RateWithin t.blocks) ∧ (CalibrationHoldsNoCode s.blocks → CalibrationHoldsNoCode t.blocks) := by
    intro s t hstep
    obtain ⟨c, rest, -, hexec⟩ | ⟨-, rfl⟩ := step_cases hstep
    · by_cases hc : c = .fullReset
      · subst hc
        cases hexec
        exact ⟨fun _ => hrate, fun _ => hcodes⟩
      · obtain ⟨hr, hcal, -⟩ := exec_kept hexec hc
        exact ⟨hr, hcal⟩
    · obtain ⟨hr, hcal, -⟩ := (passIdle_sameClocks s.blocks).kept
      exact ⟨hr, hcal⟩
  exact ⟨fun s t h hstep => (hkept s t hstep).1 h, fun s t h hstep => (hkept s t hstep).2 h⟩

end Sys2Proof.Machine

/-! PROOFS. The ticks and the pulse edges of the Time Base: obligations O23, O24, O26 and O28. -/

namespace Sys2Proof.Machine

/-! ## Ticks and midnights (R111, R123) -/

theorem tickPosition_eq (running : Bool) :
    tickPosition running = fun o =>
      if o.follow = .following ∧ running = false then o else { o with position := min 2147483647 (o.position + 1) } := by
  funext o
  unfold tickPosition
  simp only [Bool.and_eq_true, decide_eq_true_eq, Bool.not_eq_true']
  rfl

/-- The blocks with a regular tick counted, at the own count where it falls (R111). -/
def tickCounted (b : Blocks) : Blocks :=
  { b with
    ownUs := max b.ownUs (b.time.tickFrom + (b.time.ticks + 1) * b.time.rate / 1000)
    time := { b.time with ticks := b.time.ticks + 1 } }

/-- A regular tick falls where it is due, and is issued or withheld (R111, R115). -/
theorem regularTick_eq {b : Blocks} (h : b.time.state ≠ .unset) :
    regularTick b =
      if b.time.withhold then (tickCounted b).updateTime (fun t => { t with withhold := false }) else issueTick (tickCounted b) := by
  unfold regularTick
  rw [if_neg h]
  rfl

/-- R123: a day is kept while it lies no more than 7 days before today. -/
theorem prune_eq {b : Blocks} {now : Instant} (h : b.time.now = some now) :
    prune b = { b with almanac := b.almanac.filter (fun e => decide (now / 86400000 - 7 ≤ (e.day : Int))) } := by
  have hkept : ∀ e : AlmanacDay, decide (dayOf now ≤ (e.day : Int) + 7) = decide (now / 86400000 - 7 ≤ (e.day : Int)) := by
    intro e
    have hday : dayOf now = now / 86400000 := rfl
    rw [hday, decide_eq_decide]
    exact sub_le_iff_le_add.symm
  simp only [prune, h, hkept]

/-- Settles O23. -/
theorem civilTickMovesNow : Obligations.CivilTickMovesNow := by
  unfold Obligations.CivilTickMovesNow
  have hmidnight : ∀ i : Int, beginsDay i = decide (i % 86400000 = 0) := fun _ => rfl
  refine ⟨fun s now hset hnow hlast hissued => ?_, fun s hset hstands => ?_, fun s now hdue hnow => ?_⟩
  · rw [exec_event rfl rfl]
    show Host.Outcome.next (s.mapBlocks regularTick) = _
    unfold State.mapBlocks
    rw [regularTick_eq hset, hissued, if_neg Bool.false_ne_true, issueTick_moves (b := tickCounted s.blocks) hnow hlast]
    simp only [hmidnight, tickPosition_eq]
    rfl
  · rw [exec_event rfl rfl]
    show Host.Outcome.next (s.mapBlocks regularTick) = _
    unfold State.mapBlocks
    rw [regularTick_eq hset]
    cases hwithhold : s.blocks.time.withhold with
    | true => rfl
    | false =>
      obtain htrue | ⟨now, hnow, hlast⟩ := hstands
      · rw [hwithhold] at htrue; cases htrue
      · rw [if_neg Bool.false_ne_true, issueTick_last (b := tickCounted s.blocks) hnow hlast, ← hwithhold]
        rfl
  · rw [exec_event rfl rfl]
    show Host.Outcome.next (s.mapBlocks takeMidnight) = _
    unfold State.mapBlocks takeMidnight
    rw [hdue, if_pos rfl, prune_eq (b := s.blocks.updateTime (fun t => { t with midnightDue := false })) hnow]
    rfl

/-! ## Edges (R112 to R114) -/

/-- The blocks d µs of own count later. -/
def later (d : Nat) (b : Blocks) : Blocks := { b with ownUs := b.ownUs + d }

theorem advanceTo_add (d : Nat) (b : Blocks) : b.advanceTo (b.ownUs + d) = later d b := by
  unfold Blocks.advanceTo later
  rw [Nat.max_eq_right (Nat.le_add_right _ _)]

theorem exec_pulseEdge (d : Nat) (s : State) :
    exec (.pulseEdge d) s = .next { s with blocks := takeEdge (later d s.blocks) } := by
  rw [exec_event rfl rfl, ← advanceTo_add]
  rfl

/-- The blocks with an edge stamped on the edge counter. -/
def edgeStamped (b : Blocks) : Blocks := { b with time := { b.time with lastEdge := some b.ownUs } }

section
variable {b : Blocks} (h : b.time.pending = none)
include h

theorem takeEdge_first (hfirst : b.time.lastEdge = none) : takeEdge b = edgeStamped b := by
  simp only [takeEdge, h, Blocks.edgeCounter, hfirst, Option.map_none]
  rfl

theorem takeEdge_measures {e : Nat} (he : b.time.lastEdge = some e) :
    takeEdge b = if validInterval (min Config.edgeMax (b.ownUs - e)) then validEdge (min Config.edgeMax (b.ownUs - e)) (edgeStamped b)
      else invalidEdge (min Config.edgeMax (b.ownUs - e)) (edgeStamped b) := by
  simp only [takeEdge, h, Blocks.edgeCounter, he, Option.map_some]
  rfl

end

theorem validInterval_iff (n : Nat) : validInterval n = true ↔ 999800 ≤ n ∧ n ≤ 1000200 := by
  unfold validInterval
  rw [Bool.and_eq_true, decide_eq_true_eq, decide_eq_true_eq]
  rfl

/-- Only the Time Base's record and the Notice List may differ. -/
def TouchesTime (a b : Blocks) : Prop := b = { a with time := b.time, notices := b.notices }

theorem TouchesTime.trans {a b c : Blocks} (h : TouchesTime a b) (k : TouchesTime b c) : TouchesTime a c := by
  unfold TouchesTime at *; rw [k, h]

theorem updateTime_touches (g : TimeBase → TimeBase) (b : Blocks) : TouchesTime b (b.updateTime g) := rfl

theorem report_touchesTime (r : RecordId) (k : ChangeKind) (b : Blocks) : TouchesTime b (b.report r k) := by
  unfold TouchesTime Blocks.report Blocks.submit; split <;> rfl

theorem setTimeState_touches (st : TimeState) (b : Blocks) : TouchesTime b (setTimeState st b) := by
  rw [setTimeState_eq]; rfl

theorem invalidEdge_touches (n : Nat) (b : Blocks) : TouchesTime b (invalidEdge n b) := by
  have hcounted : ∀ (p : Prop) [Decidable p] f g (c : Blocks),
      TouchesTime c (if p then c.updateTime f else (c.updateTime g).report .timeBase .timeState) := by
    intro p _ f g c
    split
    · rfl
    · exact (updateTime_touches g c).trans (report_touchesTime _ _ _)
  have hlost : ∀ c : Blocks, TouchesTime c (if c.time.state = .locked then setTimeState .holdover c else c) := by
    intro c
    split
    · exact setTimeState_touches _ c
    · rfl
  exact (updateTime_touches _ b).trans ((hcounted _ _ _ _).trans (hlost _))

theorem invalidEdge_told (n : Nat) {b : Blocks} (h : b.time.frozen = false ∨ b.time.state = .locked) :
    Told (invalidEdge n b) .timeBase .timeState := by
  unfold invalidEdge
  dsimp only
  cases hfrozen : b.time.frozen with
  | true =>
    have hlocked : b.time.state = .locked := h.resolve_left (by rw [hfrozen]; decide)
    simp only [Blocks.updateTime, hfrozen, if_true, hlocked, setTimeState]
    exact report_told _ _ _
  | false =>
    have htold := report_told (b.updateTime (fun t => { t with run := [], lastInterval := n, frozen := true, interval := n }))
      .timeBase .timeState
    by_cases hlocked : b.time.state = .locked
    · simp only [Blocks.updateTime, hfrozen, Bool.false_eq_true, if_false, report_time, hlocked, if_true, setTimeState]
      exact report_told _ _ _
    · simp only [Blocks.updateTime, hfrozen, Bool.false_eq_true, if_false, report_time, hlocked]
      exact htold

theorem invalidEdge_untold (n : Nat) {b : Blocks} (hfrozen : b.time.frozen = true) (hstate : b.time.state ≠ .locked) :
    (invalidEdge n b).notices = b.notices := by
  simp only [invalidEdge, Blocks.updateTime, hfrozen, if_true, hstate, if_false]

/-- Settles O24: the first edge, a valid interval that measures or locks, and an invalid one. -/
theorem pulseEdgeMeasuresIntervals : Obligations.PulseEdgeMeasuresIntervals := by
  unfold Obligations.PulseEdgeMeasuresIntervals
  refine ⟨fun s d hpending hfirst => ?_, fun s d e n hpending he hn hlow hhigh hshort => ?_,
    fun s d e n hpending he hn hlow hhigh hlocks => ?_, fun s d e n hpending he hn hinvalid => ?_⟩
  · rw [exec_pulseEdge, takeEdge_first (b := later d s.blocks) hpending hfirst]
    rfl
  · have hmeasures : ¬ EdgeLocks (edgeStamped (later d s.blocks)).time := by
      rintro (hlocked | ⟨hset, hthree⟩)
      · exact hshort.elim (fun hunset => absurd (hunset.symm.trans hlocked) (by decide)) (fun hfree => hfree.1 hlocked)
      · exact hshort.elim hset (fun hfree => absurd hthree (not_le.2 hfree.2))
    rw [exec_pulseEdge, takeEdge_measures (b := later d s.blocks) hpending he]
    change n = min Config.edgeMax ((later d s.blocks).ownUs - e) at hn
    rw [← hn, if_pos ((validInterval_iff n).2 ⟨hlow, hhigh⟩), validEdge_of_measures hmeasures]
    rfl
  · have hlocking : EdgeLocks (edgeStamped (later d s.blocks)).time := hlocks
    have heq := lockedEdge_eq n (edgeStamped (later d s.blocks))
    refine ⟨lockedEdge n (edgeStamped (later d s.blocks)), _, ?_, rfl, ?_, fun hlocked => ?_,
      fun hfree => ?_, ?_⟩
    · rw [exec_pulseEdge, takeEdge_measures (b := later d s.blocks) hpending he]
      change n = min Config.edgeMax ((later d s.blocks).ownUs - e) at hn
      rw [← hn, if_pos ((validInterval_iff n).2 ⟨hlow, hhigh⟩), validEdge_of_locks hlocking]
    · rw [heq]
      rfl
    · rw [heq]
      simp only [show (edgeStamped (later d s.blocks)).time.state = .locked from hlocked, if_true]
      rfl
    · have hstate : (edgeStamped (later d s.blocks)).time.state ≠ .locked := hfree
      rw [heq, if_neg hstate]
      intro hmask
      exact report_told (edgeStamped (later d s.blocks)) .timeBase .timeState (by simpa using hmask)
    · obtain ⟨⟨htime, -⟩, -⟩ := discipline_frame (lockedEdge n (edgeStamped (later d s.blocks)))
      rw [htime, heq]
      exact ⟨rfl, rfl, rfl, rfl⟩
  · have hnot : ¬ validInterval n = true := fun hvalid => by
      obtain ⟨hlow, hhigh⟩ := (validInterval_iff n).1 hvalid
      omega
    refine ⟨{ s with blocks := invalidEdge n (edgeStamped (later d s.blocks)) }, ?_, rfl, ?_⟩
    · rw [exec_pulseEdge, takeEdge_measures (b := later d s.blocks) hpending he]
      change n = min Config.edgeMax ((later d s.blocks).ownUs - e) at hn
      rw [← hn, if_neg hnot]
    · have htime := invalidEdge_time n (edgeStamped (later d s.blocks))
      have hrest := invalidEdge_touches n (edgeStamped (later d s.blocks))
      have hof := fun {α : Type} (field : TimeBase → α) => congrArg field htime
      have hkept := fun {α : Type} (field : Blocks → α) => congrArg field hrest
      exact ⟨hof TimeBase.run, hof TimeBase.frozen, hof TimeBase.rate, hof TimeBase.now, hof TimeBase.interval, hof TimeBase.bad,
        hof TimeBase.state, fun htells => invalidEdge_told n htells, fun hfrozen hstate => invalidEdge_untold n hfrozen hstate,
        hkept Blocks.bookings, hkept Blocks.active, hkept Blocks.holding⟩

/-! ## A silent pulse input (R112, R113) -/

/-- Settles O26. -/
theorem silentPulseInput : Obligations.SilentPulseInput := by
  unfold Obligations.SilentPulseInput
  refine ⟨fun s e he hlocked => ?_, fun s e he => ?_⟩
  · have hheld : exec .holdoverTimeout s = .next { s with blocks := setTimeState .holdover (s.blocks.advanceTo (e + 1500000)) } := by
      rw [exec_event rfl rfl]
      show Host.Outcome.next (s.mapBlocks holdoverTimeout) = _
      unfold State.mapBlocks holdoverTimeout
      rw [he, hlocked]
      rfl
    refine ⟨_, hheld, rfl, ?_⟩
    dsimp only
    rw [setTimeState_eq]
    have hstate : (s.blocks.advanceTo (e + 1500000)).time.state = .locked := hlocked
    rw [hstate]
    simp only [Blocks.report, Blocks.submit]
    by_cases hmask : ChangeKind.timeState ∈ s.blocks.mask
    · simp [hmask, Blocks.advanceTo]
    · simp [hmask, Blocks.advanceTo]
  · rw [exec_event rfl rfl]
    show Host.Outcome.next (s.mapBlocks edgeSaturation) = _
    unfold State.mapBlocks edgeSaturation
    rw [he]
    rfl

/-! ## The report (R122) -/

/-- Settles O28. -/
theorem timeReportReleasesTheCount : Obligations.TimeReportReleasesTheCount := by
  unfold Obligations.TimeReportReleasesTheCount
  intro s r hasks
  rw [exec_timeReport hasks]
  unfold timeReport
  cases hfrozen : s.blocks.time.frozen with
  | true => rfl
  | false =>
    simp only [Bool.false_eq_true, if_false]
    rw [← hfrozen]

end Sys2Proof.Machine

/-! PROOFS. The Cue Clock Receiver: obligations O30, O31 and O32. -/

namespace Sys2Proof.Machine

/-! ## What a cue word may touch -/

/-- Only the receiver's record, the occurrences and the Notice List may differ. -/
def TouchesCue (a b : Blocks) : Prop := b = { a with cue := b.cue, active := b.active, notices := b.notices }

theorem TouchesCue.trans {a b c : Blocks} (h : TouchesCue a b) (k : TouchesCue b c) : TouchesCue a c := by
  unfold TouchesCue at *; rw [k, h]

/-- The receiver's state takes a value, and a change of it is told (R128). -/
theorem setCueState_eq (st : CueState) (b : Blocks) :
    setCueState st b = { b with
      cue := { b.cue with state := st }
      notices := if b.cue.state = st then b.notices else (b.report .cueClock .cueState).notices } := by
  unfold setCueState
  by_cases hsame : b.cue.state = st
  · subst hsame
    simp
  · simp only [if_neg hsame, Blocks.updateCue, Blocks.report, Blocks.submit]
    by_cases hmask : ChangeKind.cueState ∈ b.mask <;> simp only [hmask, if_true, if_false]

/-! ## The receiver's state after a word (R128, R129) -/

/-- Whether a word is in step with the last one: at most 250 ms after it (R128). -/
theorem inStep_iff (last : Option Nat) (time : Nat) :
    inStep (last.map (fun t => (time : Int) - t)) = true ↔ ∃ l, last = some l ∧ l ≤ time ∧ time ≤ l + 250 := by
  cases last with
  | none => simp [inStep]
  | some l =>
    show (decide (0 ≤ (time : Int) - l) && decide ((time : Int) - l ≤ ((250 : Nat) : Int))) = true ↔ _
    simp only [Bool.and_eq_true, decide_eq_true_eq, Option.some.injEq, exists_eq_left']
    omega

/-- What a word leaves of the receiver's state, run and jumps (R128, R129). -/
def wordMoves (advance : Option Int) (c : CueReceiver) : CueReceiver :=
  match c.state with
  | .silent => { c with state := .acquiring, run := 1 }
  | .acquiring =>
    if inStep advance then (if c.run = 1 then { c with run := 2 } else { c with state := .locked, run := 3 })
    else { c with run := 1 }
  | .locked => if inStep advance then c else { c with jumps := min 65535 (c.jumps + 1) }

/-- The occurrences after a word has moved the receiver: those that await lock follow once it is gained (R131). -/
def wordFollows (advance : Option Int) (b : Blocks) : List Occurrence :=
  if b.cue.state = .acquiring ∧ inStep advance = true ∧ b.cue.run ≠ 1 then
    b.active.map (fun o =>
      if o.follow = .awaiting then { o with follow := .following, position := b.cue.positionFor (b.offsetOf o.number) } else o)
  else b.active

/-- A word moves the receiver and tells of a change of its state. -/
theorem moveOnWord_eq (advance : Option Int) (b : Blocks) :
    moveOnWord advance b = { b with
      cue := wordMoves advance b.cue
      active := wordFollows advance b
      notices := if (wordMoves advance b.cue).state = b.cue.state then b.notices else (b.report .cueClock .cueState).notices } := by
  have htold : ∀ c : CueReceiver, (Blocks.report { b with cue := c } .cueClock .cueState).notices = (b.report .cueClock .cueState).notices := by
    intro c
    simp only [Blocks.report, submit_notices]
  unfold moveOnWord wordMoves wordFollows
  cases hstate : b.cue.state with
  | silent => simp [setCueState_eq, Blocks.updateCue, hstate, htold]
  | acquiring =>
    cases hstep : inStep advance with
    | true =>
      by_cases hrun : b.cue.run = 1
      · simp [hrun, Blocks.updateCue, hstate]
      · simp [hrun, setCueState_eq, followAwaiting, Blocks.updateCue, hstate, htold, Blocks.offsetOf, CueReceiver.positionFor,
          CueReceiver.estimate, Blocks.booking?]
    | false => simp [Blocks.updateCue, hstate]
  | locked =>
    cases hstep : inStep advance with
    | true => simp [hstate]
    | false => simp [Blocks.updateCue, hstate]

/-! ## Words (R127) -/

/-- The blocks once a valid word is stored: a change of the running flag is told (R127). -/
def wordStored (time : Nat) (running : Bool) (b : Blocks) : Blocks :=
  { b with
    cue := { b.cue with last := some time, ticks := 0, silentFrom := some b.ownUs, running := running }
    notices := if b.cue.running = running then b.notices else (b.report .cueClock .cuePause).notices }

theorem takeWord_eq (time : Nat) (running : Bool) (b : Blocks) :
    takeWord time running b =
      if (wordMoves (b.cue.last.map (fun t => (time : Int) - t)) (wordStored time running b).cue).state = .locked then
        setFollowing time (moveOnWord (b.cue.last.map (fun t => (time : Int) - t)) (wordStored time running b))
      else moveOnWord (b.cue.last.map (fun t => (time : Int) - t)) (wordStored time running b) := by
  have hstored : (if b.cue.running = running then
      b.updateCue (fun c => { c with last := some time, ticks := 0, silentFrom := some b.ownUs, running := running })
      else (b.updateCue (fun c => { c with last := some time, ticks := 0, silentFrom := some b.ownUs, running := running })).report
        .cueClock .cuePause) = wordStored time running b := by
    unfold wordStored
    by_cases hsame : b.cue.running = running
    · simp only [if_pos hsame]
      rfl
    · simp only [if_neg hsame, Blocks.updateCue, Blocks.report, Blocks.submit]
      by_cases hmask : ChangeKind.cuePause ∈ b.mask <;> simp only [hmask, if_true, if_false]
  unfold takeWord
  dsimp only
  rw [hstored]
  simp only [moveOnWord_eq]

theorem exec_cueWord (ok : Bool) (time : Nat) (running : Bool) (s : State) :
    exec (.cueWord ok time running) s = .next (s.mapBlocks (cueWord ok time running)) := rfl

theorem cueWord_rejected {ok : Bool} {time : Nat} (h : ok = false ∨ 86400000 ≤ time) (running : Bool) (b : Blocks) :
    cueWord ok time running b = { b with cue := { b.cue with rejected := min 65535 (b.cue.rejected + 1) } } := by
  have hnot : ¬ (ok && decide ((time : Int) < Config.dayMs)) = true := by
    rw [Bool.and_eq_true, decide_eq_true_eq]
    unfold Config.dayMs
    rintro ⟨hok, htime⟩
    exact h.elim (fun hbad => by rw [hok] at hbad; cases hbad) (fun hlate => by omega)
  unfold cueWord
  rw [if_neg hnot]
  rfl

theorem cueWord_taken {time : Nat} (h : time < 86400000) (running : Bool) (b : Blocks) :
    cueWord true time running b = takeWord time running b := by
  have htaken : (true && decide ((time : Int) < Config.dayMs)) = true := by
    rw [Bool.and_eq_true, decide_eq_true_eq]
    unfold Config.dayMs
    exact ⟨rfl, by omega⟩
  unfold cueWord
  rw [if_pos htaken]

/-- What a valid word leaves of the receiver and of the Notice List, whatever its state becomes. -/
theorem takeWord_record (time : Nat) (running : Bool) (b : Blocks) :
    (takeWord time running b).cue =
        wordMoves (b.cue.last.map (fun t => (time : Int) - t)) (wordStored time running b).cue ∧
      (takeWord time running b).notices =
        (moveOnWord (b.cue.last.map (fun t => (time : Int) - t)) (wordStored time running b)).notices ∧
      TouchesCue b (takeWord time running b) := by
  rw [takeWord_eq]
  have hstored : TouchesCue b (wordStored time running b) := rfl
  have hmoved : ∀ a c, TouchesCue c (moveOnWord a c) := fun a c => by rw [moveOnWord_eq]; rfl
  have hcue := fun a c => congrArg Blocks.cue (moveOnWord_eq a c)
  split
  · exact ⟨hcue _ _, rfl, (hstored.trans (hmoved _ _)).trans rfl⟩
  · exact ⟨hcue _ _, rfl, hstored.trans (hmoved _ _)⟩

/-- A word moves the state, the run and the jumps of the receiver, and nothing else of it. -/
theorem wordMoves_keeps (advance : Option Int) (c : CueReceiver) :
    wordMoves advance c = { c with
      state := (wordMoves advance c).state, run := (wordMoves advance c).run, jumps := (wordMoves advance c).jumps } := by
  unfold wordMoves
  repeat' split
  all_goals rfl

theorem takeWord_active (time : Nat) (running : Bool) (b : Blocks) :
    (takeWord time running b).active =
      if (wordMoves (b.cue.last.map (fun t => (time : Int) - t)) (wordStored time running b).cue).state = .locked then
        (wordFollows (b.cue.last.map (fun t => (time : Int) - t)) (wordStored time running b)).map (fun o =>
          if o.follow = .following then { o with position := (time : Int) - b.offsetOf o.number } else o)
      else wordFollows (b.cue.last.map (fun t => (time : Int) - t)) (wordStored time running b) := by
  rw [takeWord_eq, moveOnWord_eq]
  split <;> rfl

/-! ### What a word tells -/

theorem wordStored_told {time : Nat} {running : Bool} {b : Blocks} (h : b.cue.running ≠ running) :
    Told (wordStored time running b) .cueClock .cuePause := by
  intro hmask
  unfold wordStored
  rw [if_neg h]
  exact report_told b .cueClock .cuePause (by rw [report_mask]; exact hmask)

theorem moveOnWord_keeps_told {b : Blocks} {r : RecordId} {k : ChangeKind} (h : Told b r k) (a : Option Int) :
    Told (moveOnWord a b) r k := by
  rw [moveOnWord_eq]
  intro hmask
  dsimp only at hmask ⊢
  split
  · exact h hmask
  · exact submit_keeps_told h _ _ _ (by rw [submit_mask]; exact hmask)

theorem moveOnWord_told {a : Option Int} {b : Blocks} (h : (wordMoves a b.cue).state ≠ b.cue.state) :
    Told (moveOnWord a b) .cueClock .cueState := by
  rw [moveOnWord_eq]
  intro hmask
  dsimp only
  rw [if_neg h]
  exact report_told b .cueClock .cueState (by rw [report_mask]; exact hmask)

theorem moveOnWord_untold {a : Option Int} {b : Blocks} (h : (wordMoves a b.cue).state = b.cue.state) :
    (moveOnWord a b).notices = b.notices := by
  rw [moveOnWord_eq]
  exact if_pos h

/-! ### Where a word leads, by the receiver's state -/

section
variable {time : Nat} {running : Bool} {b : Blocks}

theorem takeWord_silent (h : b.cue.state = .silent) :
    (takeWord time running b).cue.state = .acquiring ∧ (takeWord time running b).cue.run = 1 ∧
      (takeWord time running b).active = b.active := by
  rw [(takeWord_record time running b).1, takeWord_active]
  simp [wordMoves, wordFollows, wordStored, h]

theorem takeWord_second (h : b.cue.state = .acquiring) (hrun : b.cue.run = 1)
    (hstep : inStep (b.cue.last.map (fun t => (time : Int) - t)) = true) :
    (takeWord time running b).cue.state = .acquiring ∧ (takeWord time running b).cue.run = 2 ∧
      (takeWord time running b).active = b.active := by
  rw [(takeWord_record time running b).1, takeWord_active]
  simp only [wordMoves, wordFollows, wordStored, h, hrun, hstep]
  simp

theorem takeWord_locks (h : b.cue.state = .acquiring) (hrun : b.cue.run ≠ 1)
    (hstep : inStep (b.cue.last.map (fun t => (time : Int) - t)) = true) :
    (takeWord time running b).cue.state = .locked ∧ (takeWord time running b).cue.run = 3 ∧
      (takeWord time running b).active = b.active.map (fun o =>
        if o.follow = .awaiting ∨ o.follow = .following then
          { o with follow := .following, position := (time : Int) - b.offsetOf o.number } else o) := by
  rw [(takeWord_record time running b).1, takeWord_active]
  have hposition : ∀ c : Blocks, (wordStored time running c).cue.positionFor = fun n : Nat => (time : Int) - n := by
    intro c
    funext n
    cases running <;> rfl
  have hgains : (wordStored time running b).cue.state = .acquiring ∧ inStep (b.cue.last.map (fun t => (time : Int) - t)) = true ∧
      (wordStored time running b).cue.run ≠ 1 := ⟨h, hstep, hrun⟩
  have hmoves : wordMoves (b.cue.last.map (fun t => (time : Int) - t)) (wordStored time running b).cue =
      { (wordStored time running b).cue with state := .locked, run := 3 } := by
    simp only [wordMoves, hgains.1, hstep, if_true, if_neg hgains.2.2]
  unfold wordFollows
  rw [hmoves, if_pos hgains, hposition]
  refine ⟨rfl, rfl, ?_⟩
  rw [if_pos rfl, List.map_map]
  refine List.map_congr_left fun o _ => ?_
  simp only [Function.comp_apply]
  by_cases hawaiting : o.follow = .awaiting
  · simp [hawaiting]
  · by_cases hfollowing : o.follow = .following
    · simp [hfollowing]
    · simp [hawaiting, hfollowing]

theorem takeWord_restarts (h : b.cue.state = .acquiring) (hstep : ¬ inStep (b.cue.last.map (fun t => (time : Int) - t)) = true) :
    (takeWord time running b).cue.state = .acquiring ∧ (takeWord time running b).cue.run = 1 ∧
      (takeWord time running b).active = b.active := by
  rw [(takeWord_record time running b).1, takeWord_active]
  simp only [wordMoves, wordFollows, wordStored, h, hstep]
  simp

theorem takeWord_locked (h : b.cue.state = .locked) :
    (takeWord time running b).cue.state = .locked ∧ (takeWord time running b).active = b.active.map (fun o =>
        if o.follow = .following then { o with position := (time : Int) - b.offsetOf o.number } else o) ∧
      (takeWord time running b).cue.jumps =
        if inStep (b.cue.last.map (fun t => (time : Int) - t)) then b.cue.jumps else min 65535 (b.cue.jumps + 1) := by
  rw [(takeWord_record time running b).1, takeWord_active]
  simp only [wordMoves, wordFollows, wordStored, h]
  cases inStep (b.cue.last.map (fun t => (time : Int) - t)) <;> simp

end

/-- Settles O30: a word that is not valid, and a valid one by the receiver's state and the word's advance. -/
theorem cueWordsMoveTheReceiver : Obligations.CueWordsMoveTheReceiver := by
  unfold Obligations.CueWordsMoveTheReceiver
  refine ⟨fun s ok time running hbad => ?_, fun s time running htime => ?_⟩
  · rw [exec_cueWord]
    unfold State.mapBlocks
    rw [cueWord_rejected hbad]
  obtain ⟨hcue, hnotices, htouches⟩ := takeWord_record time running s.blocks
  have hstep := inStep_iff s.blocks.cue.last time
  have hkeeps := hcue.trans (wordMoves_keeps _ _)
  have hof := fun {α : Type} (field : CueReceiver → α) => congrArg field hkeeps
  have hkept := fun {α : Type} (field : Blocks → α) => congrArg field htouches
  have hmask : (takeWord time running s.blocks).mask = s.blocks.mask := hkept Blocks.mask
  refine ⟨{ s with blocks := takeWord time running s.blocks }, ?_, rfl, hof CueReceiver.last, hof CueReceiver.ticks,
    hof CueReceiver.silentFrom, hof CueReceiver.running, hkept Blocks.time, hkept Blocks.bookings, hkept Blocks.holding,
    fun hpaused hunmasked => ?_, fun hchanged hunmasked => ?_, fun hsame hrunning => ?_, takeWord_silent,
    fun hstate hrun hin => takeWord_second hstate hrun (hstep.2 hin), fun hstate hrun hin => takeWord_locks hstate hrun (hstep.2 hin),
    fun hstate hout => takeWord_restarts hstate fun hin => ?_, fun hstate => ?_⟩
  · rw [exec_cueWord]
    unfold State.mapBlocks
    rw [cueWord_taken htime]
  · rw [hnotices]
    exact moveOnWord_keeps_told (wordStored_told hpaused) _ (by rw [moveOnWord_eq]; exact hunmasked)
  · rw [hmask] at hunmasked
    rw [hnotices]
    rw [hcue] at hchanged
    exact moveOnWord_told hchanged (by rw [moveOnWord_eq]; exact hunmasked)
  · rw [hcue] at hsame
    rw [hnotices, moveOnWord_untold hsame]
    exact if_pos hrunning
  · obtain ⟨l, hlast, hlow, hhigh⟩ := hstep.1 hin
    exact (hout l hlast).elim (fun h => by omega) (fun h => by omega)
  · obtain ⟨hlocked, hactive, hjumps⟩ := takeWord_locked (time := time) (running := running) hstate
    refine ⟨hlocked, hactive, hjumps.trans ?_⟩
    cases hlast : s.blocks.cue.last with
    | none => rfl
    | some l =>
      rw [hlast] at hstep
      simp only [hstep, Option.some.injEq, exists_eq_left']

/-! ## Silence (R128, R133) -/

theorem forEach_told {α : Type} {g : α → Blocks → Blocks} {r : RecordId} {k : ChangeKind}
    (hkeeps : ∀ x b, Told b r k → Told (g x b) r k) {x : α} (htells : ∀ b, Told (g x b) r k) :
    ∀ {l : List α} (b : Blocks), x ∈ l → Told (forEach l g b) r k := by
  intro l
  induction l with
  | nil => exact fun b h => absurd h List.not_mem_nil
  | cons y ys ih =>
    intro b h
    obtain rfl | hys := List.mem_cons.1 h
    · exact forEach_keeps (P := fun b => Told b r k) hkeeps ys _ (htells b)
    · exact ih _ hys

theorem loseLock_told {b : Blocks} {o : Occurrence} (ho : o ∈ b.active) (h : o.follow = .following) :
    Told (loseLock b) (.booking o.number) .followLost := by
  have hlost : o.number ∈ (b.active.filter (fun o => decide (o.follow = .following))).map (fun o => o.number) :=
    List.mem_map.2 ⟨o, List.mem_filter.2 ⟨ho, decide_eq_true h⟩, rfl⟩
  exact forEach_told (g := fun n x => x.report (.booking n) .followLost) (fun _ _ hkept => submit_keeps_told hkept _ _ _)
    (fun c => report_told c _ _) _ hlost

theorem loseLock_keeps_told {b : Blocks} {r : RecordId} {k : ChangeKind} (h : Told b r k) : Told (loseLock b) r k :=
  forEach_keeps (P := fun c => Told c r k) (fun _ _ hkept => submit_keeps_told hkept _ _ _) _ { b with active := _ } h

theorem loseLock_touches (b : Blocks) : TouchesCue b (loseLock b) := by
  have hfreed : ∀ l, TouchesCue b { b with active := l } := fun _ => rfl
  have hreported : ∀ (n : Nat) (c : Blocks), TouchesCue c (c.report (.booking n) .followLost) := by
    intro n c
    unfold TouchesCue Blocks.report Blocks.submit
    split <;> rfl
  exact (hfreed _).trans (forEach_rel (R := TouchesCue) (fun _ => rfl) TouchesCue.trans hreported _ _)

theorem loseLock_cue (b : Blocks) : (loseLock b).cue = b.cue :=
  forEach_keeps (P := fun c => c.cue = b.cue) (fun _ c hc => (report_cue c _ _).trans hc) _ _ rfl

/-- The blocks with the receiver fallen silent, its lock's loss not yet told (R128). -/
def fallenSilent (t0 : Nat) (b : Blocks) : Blocks :=
  setCueState .silent ((b.advanceTo (t0 + 250000)).updateCue (fun c => { c with run := 0, silentFrom := none }))

theorem silenceTimeout_eq {b : Blocks} {t0 : Nat} (ht : b.cue.silentFrom = some t0) (h : b.cue.state ≠ .silent) :
    silenceTimeout b = if b.cue.state = .locked then loseLock (fallenSilent t0 b) else fallenSilent t0 b := by
  unfold silenceTimeout
  simp only [ht, if_neg h]
  rfl

theorem fallenSilent_eq {b : Blocks} (t0 : Nat) (h : b.cue.state ≠ .silent) :
    fallenSilent t0 b = { b with
      ownUs := max b.ownUs (t0 + 250000)
      cue := { b.cue with state := .silent, run := 0, silentFrom := none }
      notices := (b.report .cueClock .cueState).notices } := by
  unfold fallenSilent
  rw [setCueState_eq]
  simp only [Blocks.updateCue, Blocks.advanceTo, if_neg h, Blocks.report, submit_notices]

theorem fallenSilent_told {b : Blocks} (t0 : Nat) (h : b.cue.state ≠ .silent) : Told (fallenSilent t0 b) .cueClock .cueState := by
  rw [fallenSilent_eq t0 h]
  exact fun hmask => report_told b .cueClock .cueState (by rw [report_mask]; exact hmask)

/-- Settles O31. -/
theorem silenceLosesLock : Obligations.SilenceLosesLock := by
  unfold Obligations.SilenceLosesLock
  intro s t0 ht h
  have hsilent := fallenSilent_eq t0 h
  have htold := fallenSilent_told t0 h
  refine ⟨s.mapBlocks silenceTimeout, rfl, rfl, ?_⟩
  unfold State.mapBlocks
  rw [silenceTimeout_eq ht h]
  by_cases hlocked : s.blocks.cue.state = .locked
  · have hlost := loseLock_touches (fallenSilent t0 s.blocks)
    have hkept := fun {α : Type} (field : Blocks → α) => congrArg field hlost
    simp only [if_pos hlocked]
    refine ⟨?_, loseLock_keeps_told htold, ?_, ?_, fun _ hmask o ho hfollowing => ?_, ?_, ?_, ?_⟩
    · rw [loseLock_cue, hsilent]
    · exact (hkept Blocks.ownUs).trans (by rw [hsilent])
    · rw [loseLock_active, hsilent]
    · have hoccurs : o ∈ (fallenSilent t0 s.blocks).active := by rw [hsilent]; exact ho
      refine loseLock_told hoccurs hfollowing ?_
      rw [show (loseLock (fallenSilent t0 s.blocks)).mask = (fallenSilent t0 s.blocks).mask from hkept Blocks.mask, hsilent]
      exact hmask
    · exact (hkept Blocks.bookings).trans (by rw [hsilent])
    · exact (hkept Blocks.holding).trans (by rw [hsilent])
    · exact (hkept Blocks.time).trans (by rw [hsilent])
  · simp only [if_neg hlocked]
    refine ⟨by rw [hsilent], htold, by rw [hsilent], by rw [hsilent], fun hyes => absurd hyes hlocked, by rw [hsilent],
      by rw [hsilent], by rw [hsilent]⟩

/-! ## Follow Again (R134) -/

theorem bookingNumber_iff (n : Nat) : bookingNumber n = true ↔ 1 ≤ n ∧ n ≤ 65534 := by
  unfold bookingNumber
  rw [Bool.and_eq_true, decide_eq_true_eq, decide_eq_true_eq]

/-- Settles O32. -/
theorem followAgainTiesTheOccurrence : Obligations.FollowAgainTiesTheOccurrence := by
  unfold Obligations.FollowAgainTiesTheOccurrence
  refine ⟨fun s r n a hasks ha => ⟨fun hout => ?_, fun hlow hhigh hfree => ?_, fun k hlow hhigh hk hnot => ?_⟩,
    fun s r n off k o hasks hlow hhigh hk ho hfollow hrunning => ⟨fun hlocked => ?_, fun hunlocked => ?_⟩⟩
  all_goals rw [exec_followAgain hasks]
  · have hnumber : bookingNumber n = false := Bool.eq_false_iff.2 fun hin => by
      obtain ⟨hlow, hhigh⟩ := (bookingNumber_iff n).1 hin
      omega
    simp [followAgain, hnumber, ha]
  · simp [followAgain, (bookingNumber_iff n).2 ⟨hlow, hhigh⟩, hfree, ha]
  · have hnumber := (bookingNumber_iff n).2 ⟨hlow, hhigh⟩
    cases ho : s.blocks.active? n with
    | none => simp [followAgain, hnumber, hk, ho, ha]
    | some o =>
      cases hfollow : k.fields.follow with
      | none => simp [followAgain, hnumber, hk, ho, hfollow, ha]
      | some off =>
        have hstate : k.state ≠ .running := by simpa [ho, hfollow] using hnot
        simp [followAgain, hnumber, hk, ho, hfollow, hstate, ha]
  · simp [followAgain, (bookingNumber_iff n).2 ⟨hlow, hhigh⟩, hk, ho, hfollow, hrunning, hlocked, Blocks.updateActive,
      CueReceiver.positionFor]
  · simp [followAgain, (bookingNumber_iff n).2 ⟨hlow, hhigh⟩, hk, ho, hfollow, hrunning, hunlocked]

end Sys2Proof.Machine

/-! PROOFS. The loads of the Program Store: obligations O33 and O34. -/

namespace Sys2Proof.Machine

/-! ## The steps of a request (R73, R76) -/

theorem levelsWithin_iff (k : Nat) (l : Levels) : levelsWithin k l = true ↔ Capped k l := by
  unfold levelsWithin Capped
  simp only [Bool.and_eq_true, decide_eq_true_eq, and_assoc]

/-- A step is taken when it was sent as it is stored, fits its ranges, and does not fall behind the step before it. -/
theorem stepOf_eq_some {length previous : Nat} {x : StepBody} {y : Step} :
    stepOf length previous x = some y ↔ x = carriedStep y ∧ StepFits length y ∧ previous ≤ y.offset := by
  obtain ⟨offset, low, high, effect, colour⟩ := x
  obtain ⟨offset', low', high', effect', colour'⟩ := y
  cases effect with
  | unknown => simp [stepOf, carriedStep]
  | known e =>
    have hparameters : effectInRange e = true ↔ match e with
        | .static fade => fade ≤ 60000
        | .pulse on off => 20 ≤ on ∧ on ≤ 10000 ∧ off ≤ 10000
        | .chase period width speed _ => 2 ≤ period ∧ period ≤ 256 ∧ 1 ≤ width ∧ width < period ∧ 1 ≤ speed ∧ speed ≤ 100
        | .sparkle density => 1 ≤ density ∧ density ≤ 100
        | .sweep cycle => 500 ≤ cycle ∧ cycle ≤ 60000 := by
      cases e <;> simp only [effectInRange, Bool.and_eq_true, decide_eq_true_eq, and_assoc]
    simp only [stepOf, Bool.and_eq_true, decide_eq_true_eq, hparameters, levelsWithin_iff, carriedStep, StepFits,
      Option.ite_none_right_eq_some, Option.some.injEq, Step.mk.injEq, StepBody.mk.injEq, Code.known.injEq]
    constructor
    · rintro ⟨⟨⟨⟨⟨⟨heffect, hcolour⟩, hband⟩, hhigh⟩, hlength⟩, hprevious⟩, rfl, rfl, rfl, rfl, rfl⟩
      exact ⟨⟨rfl, rfl, rfl, rfl, rfl⟩, ⟨hband, hhigh, hlength, hcolour, heffect⟩, hprevious⟩
    · rintro ⟨⟨rfl, rfl, rfl, rfl, rfl⟩, ⟨hband, hhigh, hlength, hcolour, heffect⟩, hprevious⟩
      exact ⟨⟨⟨⟨⟨⟨heffect, hcolour⟩, hband⟩, hhigh⟩, hlength⟩, hprevious⟩, rfl, rfl, rfl, rfl, rfl⟩

section
variable {length previous position : Nat} {x : StepBody} {xs : List StepBody}

theorem stepsOf_cons_of_none (h : stepOf length previous x = none) : stepsOf length previous position (x :: xs) = .inl position := by
  simp only [stepsOf, h]

theorem stepsOf_cons_inr {y : Step} {ys : List Step} (h : stepOf length previous x = some y)
    (hrest : stepsOf length y.offset (position + 1) xs = .inr ys) :
    stepsOf length previous position (x :: xs) = .inr (y :: ys) := by
  simp only [stepsOf, h, hrest]

theorem stepsOf_cons_inl {y : Step} {i : Nat} (h : stepOf length previous x = some y)
    (hrest : stepsOf length y.offset (position + 1) xs = .inl i) :
    stepsOf length previous position (x :: xs) = .inl i := by
  simp only [stepsOf, h, hrest]

/-- R76: the steps are taken when each was sent as it is stored and fits, and the offsets do not fall. -/
theorem stepsOf_eq_inr {ys : List Step} :
    stepsOf length previous position xs = .inr ys ↔
      xs = ys.map carriedStep ∧ (∀ y ∈ ys, StepFits length y ∧ previous ≤ y.offset) ∧
        (ys.map (fun y => y.offset)).Pairwise (· ≤ ·) := by
  induction xs generalizing previous position ys with
  | nil =>
    constructor
    · rintro ⟨⟩
      exact ⟨rfl, fun y hy => absurd hy List.not_mem_nil, .nil⟩
    · rintro ⟨hnil, -⟩
      rw [List.map_eq_nil_iff.1 hnil.symm]
      rfl
  | cons x xs ih =>
    constructor
    · intro h
      cases hx : stepOf length previous x with
      | none => rw [stepsOf_cons_of_none hx] at h; cases h
      | some y =>
        cases hrest : stepsOf length y.offset (position + 1) xs with
        | inl i => rw [stepsOf_cons_inl hx hrest] at h; cases h
        | inr zs =>
          rw [stepsOf_cons_inr hx hrest] at h
          cases h
          obtain ⟨hsent, hfits, hprevious⟩ := stepOf_eq_some.1 hx
          obtain ⟨hsents, hfit, hpairwise⟩ := ih.1 hrest
          refine ⟨by rw [hsent, hsents]; rfl, fun w hw => ?_, List.pairwise_cons.2 ⟨fun o ho => ?_, hpairwise⟩⟩
          · obtain rfl | hw := List.mem_cons.1 hw
            · exact ⟨hfits, hprevious⟩
            · exact ⟨(hfit w hw).1, hprevious.trans (hfit w hw).2⟩
          · obtain ⟨w, hw, rfl⟩ := List.mem_map.1 ho
            exact (hfit w hw).2
    · rintro ⟨hsent, hfit, hpairwise⟩
      cases ys with
      | nil => cases hsent
      | cons y ys =>
        rw [List.map_cons, List.cons.injEq] at hsent
        obtain ⟨hx, hxs⟩ := hsent
        obtain ⟨hafter, hpairwise⟩ := List.pairwise_cons.1 hpairwise
        obtain ⟨hfits, hprevious⟩ := hfit y List.mem_cons_self
        refine stepsOf_cons_inr (stepOf_eq_some.2 ⟨hx, hfits, hprevious⟩) (ih.2 ⟨hxs, fun w hw => ?_, hpairwise⟩)
        exact ⟨(hfit w (List.mem_cons_of_mem _ hw)).1, hafter _ (List.mem_map_of_mem hw)⟩

/-- R76: the position told is that of the first step at fault, behind the steps that were taken. -/
theorem stepsOf_eq_inl {i : Nat} :
    stepsOf length previous position xs = .inl i ↔
      ∃ (ys : List Step) (x : StepBody) (rest : List StepBody), xs = ys.map carriedStep ++ x :: rest ∧ i = position + ys.length ∧
        stepsOf length previous position (ys.map carriedStep) = .inr ys ∧
        ∀ zs, stepsOf length previous position (ys.map carriedStep ++ [x]) ≠ .inr zs := by
  induction xs generalizing previous position i with
  | nil =>
    constructor
    · rintro ⟨⟩
    · rintro ⟨ys, x, rest, hnil, -⟩
      exact absurd hnil (by simp)
  | cons x xs ih =>
    cases hx : stepOf length previous x with
    | none =>
      rw [stepsOf_cons_of_none hx, Sum.inl.injEq]
      constructor
      · rintro rfl
        exact ⟨[], x, xs, rfl, rfl, rfl, fun zs hzs => by rw [List.map_nil, List.nil_append, stepsOf_cons_of_none hx] at hzs; cases hzs⟩
      · rintro ⟨ys, x', rest, hsplit, rfl, htaken, -⟩
        cases ys with
        | nil => rfl
        | cons y ys =>
          rw [List.map_cons, List.cons_append, List.cons.injEq] at hsplit
          rw [List.map_cons, ← hsplit.1, stepsOf_cons_of_none hx] at htaken
          cases htaken
    | some y =>
      have htail : stepsOf length previous position (x :: xs) = .inl i ↔ stepsOf length y.offset (position + 1) xs = .inl i := by
        cases hrest : stepsOf length y.offset (position + 1) xs with
        | inl j => rw [stepsOf_cons_inl hx hrest]
        | inr zs => rw [stepsOf_cons_inr hx hrest]; exact ⟨nofun, nofun⟩
      have hsent := (stepOf_eq_some.1 hx).1
      rw [htail, ih]
      constructor
      · rintro ⟨ys, x', rest, rfl, rfl, htaken, hfault⟩
        refine ⟨y :: ys, x', rest, by rw [hsent]; rfl, by rw [List.length_cons]; omega, ?_, fun zs hzs => ?_⟩
        · rw [List.map_cons, ← hsent]
          exact stepsOf_cons_inr hx htaken
        · rw [List.map_cons, ← hsent, List.cons_append] at hzs
          cases hrest : stepsOf length y.offset (position + 1) (ys.map carriedStep ++ [x']) with
          | inl j => rw [stepsOf_cons_inl hx hrest] at hzs; cases hzs
          | inr ws => exact hfault ws hrest
      · rintro ⟨ys, x', rest, hsplit, rfl, htaken, hfault⟩
        cases ys with
        | nil =>
          rw [List.map_nil, List.nil_append, List.cons.injEq] at hsplit
          obtain ⟨rfl, rfl⟩ := hsplit
          exact absurd (stepsOf_cons_inr hx rfl) (hfault [y])
        | cons w ws =>
          rw [List.map_cons, List.cons_append, List.cons.injEq] at hsplit
          obtain ⟨hw, rfl⟩ := hsplit
          rw [List.map_cons, ← hw] at htaken hfault
          cases hrest : stepsOf length y.offset (position + 1) (ws.map carriedStep) with
          | inl j => rw [stepsOf_cons_inl hx hrest] at htaken; cases htaken
          | inr zs =>
            rw [stepsOf_cons_inr hx hrest] at htaken
            cases htaken
            refine ⟨ws, x', rest, rfl, by rw [List.length_cons]; omega, hrest, fun us hus => ?_⟩
            exact hfault (y :: us) (stepsOf_cons_inr hx hus)

end

/-! ## Program Open (R75) -/

/-- The pool's free steps fall by what a slot that held none takes. -/
theorem freeCount_setProgram {b : Blocks} {n : Nat} (hn : n < b.programs.length) (hempty : b.program n = .empty) (x : ProgramSlot) :
    (b.setProgram n x).freeCount = b.freeCount - x.holds := by
  have hslot : b.programs[n] = .empty := by
    rw [← hempty]
    unfold Blocks.program
    rw [List.getD_eq_getElem _ _ hn]
  have hsum := fun y : ProgramSlot => List.sum_set (b.programs.map ProgramSlot.holds) n y.holds
  have hheld : ((b.programs.map ProgramSlot.holds).set n ProgramSlot.empty.holds) = b.programs.map ProgramSlot.holds := by
    rw [← List.map_set, ← hslot, List.set_getElem_self]
  have htaken := hsum x
  have hbefore := hsum .empty
  rw [hheld] at hbefore
  rw [List.length_map, if_pos hn] at htaken hbefore
  unfold Blocks.freeCount Blocks.setProgram
  rw [List.map_set, htaken, hbefore]
  simp only [ProgramSlot.holds]
  omega

theorem programOpen_of_fits {n steps length : Nat} {fb : Levels} (hn : n < 64) (hsteps : 1 ≤ steps) (hmany : steps ≤ 512)
    (hlong : 1000 ≤ length) (hlength : length ≤ 21600000) (hfb : Capped 1000 fb) (ea : EndAction) (b : Blocks) :
    programOpen n steps length (.known ea) fb b =
      if b.loadOpen then (b, refuseWith .busy (.freeCount b.freeCount))
      else if b.program n ≠ .empty then (b, refuseWith .wrongState (.freeCount b.freeCount))
      else if b.freeCount < steps then (b, refuseWith .poolFull (.freeCount b.freeCount))
      else (b.setProgram n (.loading ⟨length, ea, fb, steps, []⟩),
        okWith (.freeCount (b.setProgram n (.loading ⟨length, ea, fb, steps, []⟩)).freeCount)) := by
  have hslot : n < Config.programSlots := hn
  have hfits : (!(decide (n < Config.programSlots) && decide (1 ≤ steps) && decide (steps ≤ 512) && decide (1000 ≤ length) &&
      decide (length ≤ 21600000) && levelsWithin 1000 fb)) = false := by
    simp only [hslot, hsteps, hmany, hlong, hlength, (levelsWithin_iff 1000 fb).2 hfb, decide_true, Bool.and_self, Bool.not_true]
  simp only [programOpen, hfits, Bool.false_eq_true, if_false]

theorem programOpen_of_not_fits {n steps length : Nat} {ea : Code EndAction} {fb : Levels}
    (h : 64 ≤ n ∨ steps = 0 ∨ 512 < steps ∨ length < 1000 ∨ 21600000 < length ∨ ¬Capped 1000 fb ∨ ea = .unknown) (b : Blocks) :
    programOpen n steps length ea fb b = (b, refuseWith .outOfRange (.freeCount b.freeCount)) := by
  unfold programOpen
  cases ea with
  | unknown => rfl
  | known ea =>
    refine if_pos ?_
    rw [Bool.not_eq_true', Bool.eq_false_iff]
    intro hfits
    simp only [Bool.and_eq_true, decide_eq_true_eq, levelsWithin_iff] at hfits
    obtain ⟨⟨⟨⟨⟨hn, hsteps⟩, hmany⟩, hlong⟩, hlength⟩, hfb⟩ := hfits
    change n < 64 at hn
    obtain h | h | h | h | h | h | h := h
    · omega
    · omega
    · omega
    · omega
    · omega
    · exact h hfb
    · cases h

/-! ## Program Steps (R76) -/

/-- The counts that Program Steps tells: those of a slot that holds steps. -/
def stepCounts (b : Blocks) (n : Nat) : Option (Nat × Nat) :=
  match b.program n with
  | .loading p => some (p.steps.length, p.declared)
  | .ready p => some (p.steps.length, p.declared)
  | .empty => none

theorem programSteps_too_many {xs : List StepBody} (h : 16 < xs.length) (n : Nat) (b : Blocks) :
    programSteps n xs b = (b, refuseWith .malformed (.appended (stepCounts b n) none)) := by
  unfold programSteps
  exact if_pos h

theorem programSteps_no_slot {n : Nat} {xs : List StepBody} (h : xs.length ≤ 16) (hn : 64 ≤ n) (b : Blocks) :
    programSteps n xs b = (b, refuseWith .outOfRange (.appended (stepCounts b n) none)) := by
  unfold programSteps
  exact (if_neg (not_lt.2 h)).trans (if_pos hn)

theorem programSteps_not_loading {n : Nat} {xs : List StepBody} {b : Blocks} (h : xs.length ≤ 16) (hn : n < 64)
    (hslot : ∀ p, b.program n ≠ .loading p) :
    programSteps n xs b = (b, refuseWith .wrongState (.appended (stepCounts b n) none)) := by
  unfold programSteps
  refine (if_neg (not_lt.2 h)).trans ((if_neg (not_le.2 hn)).trans ?_)
  unfold stepCounts
  cases hprogram : b.program n with
  | loading p => exact absurd hprogram (hslot p)
  | ready p => rfl
  | empty => rfl

section
variable {n : Nat} {xs : List StepBody} {b : Blocks} {p : ProgramData} (h : xs.length ≤ 16) (hn : n < 64)
  (hslot : b.program n = .loading p)
include h hn hslot

theorem programSteps_over (hover : p.declared < p.steps.length + xs.length) :
    programSteps n xs b = (b, refuseWith .outOfRange (.appended (stepCounts b n) none)) := by
  unfold programSteps
  refine (if_neg (not_lt.2 h)).trans ((if_neg (not_le.2 hn)).trans ?_)
  unfold stepCounts
  simp only [hslot, if_pos hover]

theorem programSteps_at_fault {i : Nat} (hroom : p.steps.length + xs.length ≤ p.declared)
    (hfault : stepsOf p.length (lastOffset p) 1 xs = .inl i) :
    programSteps n xs b = (b, refuseWith .outOfRange (.appended (some (p.steps.length, p.declared)) (some i))) := by
  unfold programSteps
  refine (if_neg (not_lt.2 h)).trans ((if_neg (not_le.2 hn)).trans ?_)
  simp only [hslot, if_neg (not_lt.2 hroom), hfault]

theorem programSteps_taken {ys : List Step} (hroom : p.steps.length + xs.length ≤ p.declared)
    (htaken : stepsOf p.length (lastOffset p) 1 xs = .inr ys) :
    programSteps n xs b = (b.setProgram n (.loading { p with steps := p.steps ++ ys }),
      okWith (.appended (some (p.steps.length + ys.length, p.declared)) none)) := by
  unfold programSteps
  refine (if_neg (not_lt.2 h)).trans ((if_neg (not_le.2 hn)).trans ?_)
  simp only [hslot, if_neg (not_lt.2 hroom), htaken]

end

/-- Settles O33: what the steps' check takes and refuses is `stepsOf_eq_inr` and `stepsOf_eq_inl`; the rest is a case per check. -/
theorem programLoadsTakeSteps : Obligations.ProgramLoadsTakeSteps := by
  unfold Obligations.ProgramLoadsTakeSteps
  refine ⟨fun length previous position xs => ⟨fun ys => stepsOf_eq_inr, fun i => stepsOf_eq_inl⟩,
    fun s r n steps length ea fb hasks hout => ?_, fun s r n xs c hasks hc => ?_,
    fun s r n steps length ea fb hasks hn hsteps hmany hlong hlength hfb hsized => ?_,
    fun s r n xs p hasks hn hxs hslot hroom => ?_⟩
  · rw [exec_programOpen hasks, programOpen_of_not_fits hout]
  · change c = stepCounts s.blocks n at hc
    subst hc
    rw [exec_programSteps hasks]
    refine ⟨fun hmany => ?_, fun hxs hn => ?_, fun hxs hn hslot => ?_, fun p hxs hn hslot hover => ?_⟩
    · rw [programSteps_too_many hmany]
    · rw [programSteps_no_slot hxs hn]
    · rw [programSteps_not_loading hxs hn hslot]
    · rw [programSteps_over hxs hn hslot hover]
  · rw [exec_programOpen hasks, programOpen_of_fits hn hsteps hmany hlong hlength hfb]
    refine ⟨fun hopen => ?_, fun hshut htaken => ?_, fun hshut hempty hfull => ?_, fun hshut hempty hfree => ?_⟩
    · rw [if_pos hopen]
    · simp only [hshut, Bool.false_eq_true, if_false, if_pos htaken]
    · simp only [hshut, Bool.false_eq_true, if_false, hempty, ne_eq, not_true_eq_false, if_pos hfull]
    · simp only [hshut, Bool.false_eq_true, if_false, hempty, ne_eq, not_true_eq_false, if_neg (not_lt.2 hfree)]
      rw [freeCount_setProgram (by rw [hsized]; exact hn) hempty]
      rfl
  · rw [exec_programSteps hasks]
    refine ⟨fun ys hys => ?_, fun i hi => ?_⟩
    · have hlength : ys.length = xs.length := by rw [(stepsOf_eq_inr.1 hys).1, List.length_map]
      refine ⟨hlength, ?_⟩
      rw [programSteps_taken hxs hn hslot hroom hys, hlength]
      rfl
    · obtain ⟨ys, x, rest, hsplit, hposition, -⟩ := stepsOf_eq_inl.1 hi
      have hcount := congrArg List.length hsplit
      rw [List.length_append, List.length_map, List.length_cons] at hcount
      refine ⟨by omega, by omega, ?_⟩
      rw [programSteps_at_fault hxs hn hslot hroom hi]

/-! ## Program Close and Program Remove (R77, R78) -/

theorem references_pos_iff (b : Blocks) (n : Nat) : 0 < b.references n ↔ ∃ k ∈ b.bookings, k.fields.program = n := by
  unfold Blocks.references
  rw [List.length_pos_iff_exists_mem]
  simp

/-- Settles O34, a case per check of R77 and R78. -/
theorem programCloseAndRemove : Obligations.ProgramCloseAndRemove := by
  unfold Obligations.ProgramCloseAndRemove
  have hin : ∀ {n : Nat}, n < 64 → ¬ Config.programSlots ≤ n := fun h => not_le.2 h
  refine ⟨fun s r n hasks => ⟨fun hn => ?_, fun hn hslot => ?_⟩, fun s r n hasks => ⟨fun hn => ?_, fun hn hslot => ?_⟩,
    fun s r n p hasks hn hslot hwhole => ⟨_, rfl, ?_⟩, fun s r n p hasks hn hslot hshort => ⟨_, rfl, ?_⟩,
    fun s r n p hasks hn hslot => ⟨_, rfl, ?_⟩, fun s r n p k hasks hn hslot hk hnames => ?_⟩
  · rw [exec_programClose hasks]
    unfold programClose
    have hout : Config.programSlots ≤ n := hn
    rw [if_pos hout]
  · rw [exec_programClose hasks]
    unfold programClose
    rw [if_neg (hin hn)]
    cases hprogram : s.blocks.program n with
    | loading p => exact absurd hprogram (hslot p)
    | ready p => rfl
    | empty => rfl
  · rw [exec_programRemove hasks]
    unfold programRemove
    have hout : Config.programSlots ≤ n := hn
    rw [if_pos hout]
  · rw [exec_programRemove hasks]
    unfold programRemove
    simp only [if_neg (hin hn), hslot]
  · rw [exec_programClose hasks]
    unfold programClose
    simp only [if_neg (hin hn), hslot, if_pos hwhole]
    rfl
  · rw [exec_programClose hasks]
    unfold programClose
    simp only [if_neg (hin hn), hslot, if_neg hshort]
    rfl
  · rw [exec_programRemove hasks]
    unfold programRemove
    obtain hloading | ⟨hready, hfree⟩ := hslot
    · simp only [if_neg (hin hn), hloading]
      rfl
    · have hunreferenced : ¬ 0 < s.blocks.references n := fun hpos => by
        obtain ⟨k, hk, hnames⟩ := (references_pos_iff s.blocks n).1 hpos
        exact hfree k hk hnames
      simp only [if_neg (hin hn), hready, if_neg hunreferenced]
      rfl
  · rw [exec_programRemove hasks]
    unfold programRemove
    simp only [if_neg (hin hn), hslot, if_pos ((references_pos_iff s.blocks n).2 ⟨k, hk, hnames⟩)]
    rfl

end Sys2Proof.Machine

/-! PROOFS. The render's stages and its start: obligations O36 and O37. -/

namespace Sys2Proof.Machine

/-! ## Stages 1 to 7 of a zone (R94 to R99) -/

theorem stageHandover_of_other_layout {instant : Nat} {h : Handover} {layout : Layout} (hother : h.layout ≠ layout) (l : Levels) :
    stageHandover instant (some h) layout l = (l, true) := if_pos hother

theorem stageHandover_of_same_layout {instant : Nat} {h : Handover} {layout : Layout} (hsame : h.layout = layout) (l : Levels) :
    stageHandover instant (some h) layout l = (mixLevels (instant - h.start) h.length h.from_ l, false) :=
  if_neg (not_not.2 hsame)

theorem stageCurfew_level (isOpen exempt : Bool) (k : Nat) (l : Levels) : ∀ g ∈ [Levels.r, Levels.g, Levels.b, Levels.w],
    g (stageCurfew isOpen exempt k l) = if isOpen = true ∧ exempt = false then min (g l) k else g l := by
  have hcap : ∀ g ∈ [Levels.r, Levels.g, Levels.b, Levels.w], g (capLevels k l) = min (g l) k := by
    simp only [List.forall_mem_cons, capLevels, Levels.map, List.not_mem_nil, false_implies, implies_true, and_self]
  intro g hg
  unfold stageCurfew
  cases isOpen <;> cases exempt <;> simp [hcap g hg]

theorem takenBooking?_of_same {b : Blocks} {t : TakenHolder} {k : Booking} (hk : b.booking? t.number = some k)
    (huid : k.uid = t.uid) : b.takenBooking? t = some k := by
  simp only [Blocks.takenBooking?, hk, if_pos huid]

theorem takenBooking?_of_freed {b : Blocks} {t : TakenHolder} (hfreed : ∀ k, b.booking? t.number = some k → k.uid ≠ t.uid) :
    b.takenBooking? t = none := by
  unfold Blocks.takenBooking?
  cases hk : b.booking? t.number with
  | none => rfl
  | some k => exact if_neg (hfreed k hk)

/-- R90: the curfew bars its kinds for a booking in an open window, but for an exempt one. -/
theorem barredFor_eq (b : Blocks) (k : Booking) :
    b.barredFor k = if b.chain.windowOpen = true ∧ k.fields.exempt = false
      then (b.chain.curfew.map (fun x => x.barred)).getD [] else [] := by
  unfold Blocks.barredFor
  simp only [Bool.and_eq_true, Bool.not_eq_true']

theorem stageLook_of_ready {b : Blocks} {t : TakenHolder} {k : Booking} {p : ProgramData} (htaken : b.takenBooking? t = some k)
    (hprogram : b.program k.fields.program = .ready p) (c : Zone) :
    stageLook b false (some t) c =
      ⟨lookOf p t.position c.role c.permitted ((c.profile.map (fun x => x.local_)).getD []) (b.barredFor k), k.fields.ceiling, some t⟩ := by
  simp only [stageLook, htaken, hprogram, Bool.false_eq_true, if_false]

theorem stageLook_of_unready {b : Blocks} {t : TakenHolder} {k : Booking} (htaken : b.takenBooking? t = some k)
    (hprogram : ∀ p, b.program k.fields.program ≠ .ready p) (c : Zone) : stageLook b false (some t) c = plainSource dark := by
  simp only [stageLook, htaken, Bool.false_eq_true, if_false]

theorem stageLook_of_freed {b : Blocks} {t : TakenHolder} (htaken : b.takenBooking? t = none) (c : Zone) :
    stageLook b false (some t) c = plainSource dark := by
  simp only [stageLook, htaken, Bool.false_eq_true, if_false]

/-! ## The classes of a zone (R92) -/

theorem renderZone_no_levels {c : Zone} (h : c.isProtected = true ∨ c.node.live = false) (b : Blocks) (fl : Flight) (z : Nat) :
    renderZone b fl z c = .noLevels := by
  refine if_pos ?_
  obtain h | h := h <;> simp [h]

section
variable {b : Blocks} {c : Zone} (hshown : c.isProtected = false) (hlive : c.node.live = true)
include hshown hlive

theorem renderZone_tripped (htripped : (b.feeder c.feeder).tripped = true) (fl : Flight) (z : Nat) :
    renderZone b fl z c = .tripped := by
  simp only [renderZone, hshown, hlive, htripped, Bool.not_true, Bool.or_self, Bool.false_eq_true, if_false, if_true]

theorem renderZone_lit (hclosed : (b.feeder c.feeder).tripped = false) (fl : Flight) (z : Nat) :
    renderZone b fl z c = litZone b fl z c := by
  simp only [renderZone, hshown, hlive, hclosed, Bool.not_true, Bool.or_self, Bool.false_eq_true, if_false]

end

theorem layout_of_profile {c : Zone} {p : Profile} (h : c.profile = some p) : c.layout = p.layout := by
  simp only [Zone.layout, h, Option.map_some, Option.getD_some]

/-- Settles O36, a stage of the render for each clause. -/
theorem layoutConversion : Obligations.LayoutConversion := by
  unfold Obligations.LayoutConversion
  refine ⟨fun ceiling trim gain k l isOpen exempt g hg => ?_, fun instant layout l => ⟨rfl, fun h hstart => ?_⟩,
    fun b taken c => ⟨rfl, rfl, fun t k hk huid => ?_, fun t hfreed => stageLook_of_freed (takenBooking?_of_freed hfreed) c⟩,
    fun b fl z c => ⟨fun h => renderZone_no_levels h b fl z, fun hshown hlive htripped => renderZone_tripped hshown hlive htripped fl z, ?_⟩,
    fun l watts c p => ⟨layout_of_profile, rfl, rfl, rfl, rfl⟩⟩
  · refine ⟨?_, ?_, stageCurfew_level isOpen exempt k l g hg⟩ <;>
      · simp only [List.mem_cons, List.not_mem_nil, or_false] at hg
        obtain rfl | rfl | rfl | rfl := hg <;> rfl
  · refine ⟨fun hother => stageHandover_of_other_layout hother l, fun hsame => ?_, fun hsame hend => ?_, fun hsame hrunning => ?_⟩
    · rw [stageHandover_of_same_layout hsame]
    · rw [stageHandover_of_same_layout hsame]
      exact mixLevels_of_le hend h.from_ l
    · rw [stageHandover_of_same_layout hsame]
      exact mixLevels_of_lt hrunning h.from_ l
  · have htaken := takenBooking?_of_same hk huid
    refine ⟨fun p hready => ?_, fun hunready => stageLook_of_unready htaken hunready c⟩
    rw [stageLook_of_ready htaken hready, barredFor_eq]
  · rintro src l6 h hshown hlive hclosed rfl rfl rfl
    exact renderZone_lit hshown hlive hclosed fl z

/-! ## The start of a render (R91) -/

/-- The next expiry lies a whole render period after the last, and not before now. -/
theorem nextExpiry_bounds (b : Blocks) : b.chain.lastExpiry + 5000 ≤ b.nextExpiry ∧ b.ownUs ≤ b.nextExpiry := by
  change b.chain.lastExpiry + 5000 ≤ max (b.chain.lastExpiry + 5000) ((b.ownUs + 5000 - 1) / 5000 * 5000) ∧
    b.ownUs ≤ max (b.chain.lastExpiry + 5000) ((b.ownUs + 5000 - 1) / 5000 * 5000)
  omega

theorem expireRenderTimer_eq (b : Blocks) :
    expireRenderTimer b = { b with ownUs := b.nextExpiry, chain := { b.chain with lastExpiry := b.nextExpiry } } := by
  show ({ b with ownUs := max b.ownUs b.nextExpiry, chain := { b.chain with lastExpiry := b.nextExpiry } } : Blocks) = _
  rw [max_eq_right (nextExpiry_bounds b).2]

theorem exec_renderStart {s : State} (hidle : s.blocks.chain.flight = none) :
    exec .renderStart s = .next { s with blocks := startRender s.blocks } := by
  have hstarts : (if s.blocks.chain.flight.isNone then startRender s.blocks else s.blocks) = startRender s.blocks :=
    if_pos (by rw [hidle]; rfl)
  rw [← hstarts]
  exact exec_event rfl rfl s

theorem exec_renderTimerExpiryLost {s : State} {fl : Flight} (hflight : s.blocks.chain.flight = some fl) :
    exec .renderTimerExpiryLost s = .next { s with blocks := expireRenderTimer s.blocks } := by
  have hexpires : (if s.blocks.chain.flight.isSome then expireRenderTimer s.blocks else s.blocks) = expireRenderTimer s.blocks :=
    if_pos (by rw [hflight]; rfl)
  rw [← hexpires]
  exact exec_event rfl rfl s

/-- Settles O37: an expiry brings the own count to `nextExpiry`, and the records that the render takes stand. -/
theorem renderStartTakesItsFacts : Obligations.RenderStartTakesItsFacts := by
  unfold Obligations.RenderStartTakesItsFacts
  refine ⟨fun s e hidle he => ?_, fun s fl hflight => ?_⟩
  · subst he
    refine ⟨(nextExpiry_bounds s.blocks).1, (nextExpiry_bounds s.blocks).2, ?_⟩
    rw [exec_renderStart hidle]
    unfold startRender
    rw [expireRenderTimer_eq]
    rfl
  · rw [exec_renderTimerExpiryLost hflight, expireRenderTimer_eq]

end Sys2Proof.Machine

/-! PROOFS. Handovers and the curfew on many zones: obligations O39 and O40. -/

namespace Sys2Proof.Machine

/-! ## A pass over zones, read at one zone -/

/-- A pass whose turn at a zone leaves what is read at the others, and depends on what is read there alone, is read at a zone as its
turn there. -/
theorem forEach_read {α : Type} {read : Nat → Blocks → α} {op : Nat → Blocks → Blocks} {R : Blocks → Blocks → Prop}
    (hrel : ∀ z b, R b (op z b)) (hother : ∀ {z y : Nat} (b : Blocks), y ≠ z → read y (op z b) = read y b)
    (hlocal : ∀ (z : Nat) {a b : Blocks}, R a b → read z b = read z a → read z (op z b) = read z (op z a)) {l : List Nat}
    (hl : l.Nodup) (y : Nat) (b : Blocks) : read y (forEach l op b) = if y ∈ l then read y (op y b) else read y b := by
  induction l generalizing b with
  | nil => rfl
  | cons z l ih =>
    obtain ⟨hz, hl⟩ := List.nodup_cons.1 hl
    rw [forEach_cons, ih hl]
    by_cases hy : y = z
    · subst hy
      rw [if_neg hz, if_pos List.mem_cons_self]
    · have hsame := hother b hy
      by_cases hmem : y ∈ l
      · rw [if_pos hmem, if_pos (List.mem_cons_of_mem z hmem), hlocal y (hrel z b) hsame]
      · rw [if_neg hmem, if_neg (fun h => (List.mem_cons.1 h).elim hy hmem), hsame]

theorem allZones_nodup : allZones.Nodup := List.nodup_range

theorem mem_allZones {z : Nat} : z ∈ allZones ↔ z < 96 := List.mem_range

theorem showable_iff (b : Blocks) (z : Nat) : b.showable z = true ↔ ∃ c, b.zone? z = some c ∧ c.isProtected = false := by
  unfold Blocks.showable
  cases hz : b.zone? z with
  | none => simp
  | some c => simp

theorem showable_congr {a b : Blocks} {z : Nat} (h : b.zone? z = a.zone? z) : b.showable z = a.showable z := by
  unfold Blocks.showable; rw [h]

theorem zone?_eq_none {b : Blocks} {z : Nat} (h : b.zones.length ≤ z) : b.zone? z = none := by
  unfold Blocks.zone?
  rw [List.getElem?_eq_none h]
  rfl

theorem showable_lt {b : Blocks} {z : Nat} (hsized : b.zones.length = 96) (h : b.showable z = true) : z < 96 := by
  obtain ⟨c, hc, -⟩ := (showable_iff b z).1 h
  rw [← hsized]
  exact zone?_lt b hc

/-! ## What the latest render holds -/

theorem updateLatest_latestOf {g : ZoneOut → ZoneOut} (hg : g .absent = .absent) (b : Blocks) (z y : Nat) :
    (b.updateLatest z g).latestOf y = if y = z then g (b.latestOf z) else b.latestOf y := by
  unfold Blocks.updateLatest Blocks.latestOf
  by_cases hy : y = z
  · subst hy
    rw [if_pos rfl]
    by_cases hlt : y < b.chain.latest.length
    · rw [List.getD_eq_getElem?_getD, List.getElem?_set, if_pos rfl, if_pos hlt]
      rfl
    · have habsent : b.chain.latest.getD y .absent = .absent := List.getD_eq_default _ _ (not_lt.1 hlt)
      rw [List.set_eq_of_length_le (not_lt.1 hlt), habsent, hg]
  · rw [if_neg hy, List.getD_eq_getElem?_getD, List.getElem?_set, if_neg (fun h => hy h.symm), ← List.getD_eq_getElem?_getD]

theorem updateLatest_zone? (b : Blocks) (z : Nat) (g : ZoneOut → ZoneOut) (y : Nat) :
    (b.updateLatest z g).zone? y = b.zone? y := rfl

/-! ## A handover (R99, R101) -/

/-- A zone's record once a handover of a length has started on it. -/
def handedFor (h : Nat) (b : Blocks) (z : Nat) (c : Zone) : Zone :=
  { handedOver b z c with handover := (handedOver b z c).handover.map (fun x => { x with length := h }) }

/-- A zone's record once a handover of a length was to start on it: a protected zone keeps its own. -/
def handedFor? (h : Nat) (b : Blocks) (z : Nat) : Option Zone :=
  (b.zone? z).map (fun c => if c.isProtected then c else handedFor h b z c)

theorem handedFor?_default (b : Blocks) (z : Nat) : handedFor? b.chain.defaultHandover b z = handedOver? b z := rfl

section
variable {b : Blocks} {z : Nat}

theorem startHandover_of_hidden (hhidden : b.showable z = false) (h : Nat) : startHandover z h b = b := by
  unfold startHandover
  cases hz : b.zone? z with
  | none => rfl
  | some c =>
    have hprotected : c.isProtected = true := by
      by_contra hc
      rw [(showable_iff b z).2 ⟨c, hz, by simpa using hc⟩] at hhidden
      cases hhidden
    simp only [if_pos hprotected]

/-- The blocks with a zone's handover record written, before the latest render is lowered. -/
def handoverWritten (z h : Nat) (c : Zone) (b : Blocks) : Blocks := noteRewritten z (b.setZone z (some (handedFor h b z c)))

theorem startHandover_of_shown {c : Zone} (hz : b.zone? z = some c) (hshown : c.isProtected = false) (h : Nat) :
    startHandover z h b =
      if b.lowersAt z then (handoverWritten z h c b).updateLatest z (ZoneOut.cap b.curfewCeiling) else handoverWritten z h c b := by
  unfold startHandover
  rw [hz]
  exact if_neg (by rw [hshown]; exact Bool.false_ne_true)

theorem handedFor?_of_hidden (hhidden : b.showable z = false) (h : Nat) : handedFor? h b z = b.zone? z := by
  unfold handedFor?
  cases hz : b.zone? z with
  | none => rfl
  | some c =>
    cases hprotected : c.isProtected with
    | true => simp [hprotected]
    | false => rw [(showable_iff b z).2 ⟨c, hz, hprotected⟩] at hhidden; cases hhidden

theorem handedFor?_of_shown {c : Zone} (hz : b.zone? z = some c) (hshown : c.isProtected = false) (h : Nat) :
    handedFor? h b z = some (handedFor h b z c) := by
  unfold handedFor?
  rw [hz, Option.map_some, hshown]
  rfl

end

theorem startHandover_zone? (z h : Nat) (b : Blocks) (y : Nat) :
    (startHandover z h b).zone? y = if y = z then handedFor? h b z else b.zone? y := by
  cases hshown : b.showable z with
  | false =>
    rw [startHandover_of_hidden hshown, handedFor?_of_hidden hshown]
    split
    · next hy => rw [hy]
    · rfl
  | true =>
    obtain ⟨c, hz, hc⟩ := (showable_iff b z).1 hshown
    have hwritten : (handoverWritten z h c b).zone? y = if y = z then some (handedFor h b z c) else b.zone? y :=
      setZone_zone? b z y (some (handedFor h b z c)) (zone?_lt b hz)
    rw [startHandover_of_shown hz hc, handedFor?_of_shown hz hc, ← hwritten]
    split
    · rfl
    · rfl

theorem startHandover_latestOf (z h : Nat) (b : Blocks) (y : Nat) :
    (startHandover z h b).latestOf y =
      if y = z ∧ b.showable z = true ∧ b.lowersAt z = true then (b.latestOf y).cap b.curfewCeiling else b.latestOf y := by
  cases hshown : b.showable z with
  | false =>
    rw [startHandover_of_hidden hshown]
    simp
  | true =>
    obtain ⟨c, hz, hc⟩ := (showable_iff b z).1 hshown
    rw [startHandover_of_shown hz hc]
    have hwritten : ∀ x, (handoverWritten z h c b).latestOf x = b.latestOf x := fun _ => rfl
    cases hlowers : b.lowersAt z with
    | false => simp [hwritten]
    | true =>
      rw [if_pos rfl, updateLatest_latestOf rfl, hwritten, hwritten]
      by_cases hy : y = z
      · simp [hy]
      · simp [hy]

theorem startHandover_showable (z h : Nat) (b : Blocks) (y : Nat) : (startHandover z h b).showable y = b.showable y := by
  unfold Blocks.showable
  rw [startHandover_zone?]
  by_cases hy : y = z
  · subst hy
    rw [if_pos rfl]
    unfold handedFor?
    cases hz : b.zone? y with
    | none => rfl
    | some c =>
      show (match (some (if c.isProtected then c else handedFor h b y c) : Option Zone) with
        | some c => !c.isProtected | none => false) = !c.isProtected
      cases hc : c.isProtected with
      | true => simp [hc]
      | false =>
        show (!(handedFor h b y c).isProtected) = !false
        rw [← hc]
        rfl
  · rw [if_neg hy]

theorem startHandover_flight (z h : Nat) (b : Blocks) :
    (startHandover z h b).chain.flight =
      b.chain.flight.map (fun fl => { fl with rewritten := [z].filter b.showable ++ fl.rewritten }) := by
  cases hshown : b.showable z with
  | false =>
    rw [startHandover_of_hidden hshown, List.filter_cons_of_neg (by rw [hshown]; exact Bool.false_ne_true)]
    exact Option.map_id'.symm
  | true =>
    obtain ⟨c, hz, hc⟩ := (showable_iff b z).1 hshown
    rw [startHandover_of_shown hz hc, List.filter_cons_of_pos hshown]
    split
    · rfl
    · rfl

theorem startHandover_latest {z : Nat} {b : Blocks} (hkept : b.lowersAt z = false) (h : Nat) :
    (startHandover z h b).chain.latest = b.chain.latest := by
  cases hshown : b.showable z with
  | false => rw [startHandover_of_hidden hshown]
  | true =>
    obtain ⟨c, hz, hc⟩ := (showable_iff b z).1 hshown
    rw [startHandover_of_shown hz hc, hkept]
    rfl

/-! ## A pass of handovers -/

section
variable {a b : Blocks} (h : TouchesFades a b)
include h

theorem TouchesFades.lowersAt (z : Nat) : b.lowersAt z = a.lowersAt z := by rw [h]; rfl
theorem TouchesFades.curfewCeiling : b.curfewCeiling = a.curfewCeiling := by rw [h]; rfl
theorem TouchesFades.defaultHandover : b.chain.defaultHandover = a.chain.defaultHandover := by rw [h]
theorem TouchesFades.handoverLength (z : Nat) : b.handoverLength z = a.handoverLength z := by rw [h]; rfl

theorem TouchesFades.handedFor? {z : Nat} (hz : b.zone? z = a.zone? z) (n : Nat) : handedFor? n b z = handedFor? n a z := by
  have hsame : ∀ c, handedFor n b z c = handedFor n a z c := fun c => by rw [h]; rfl
  unfold Machine.handedFor?
  simp only [hz, hsame]

end

section
variable {len : Nat → Blocks → Nat} (hlen : ∀ (z : Nat) {a b : Blocks}, TouchesFades a b → len z b = len z a) {l : List Nat}
  (hl : l.Nodup) (b : Blocks)

include hlen hl in
theorem handovers_zone? (y : Nat) :
    (forEach l (fun z x => startHandover z (len z x) x) b).zone? y = if y ∈ l then handedFor? (len y b) b y else b.zone? y := by
  rw [forEach_read (read := fun z x => x.zone? z) (fun z x => startHandover_fades z (len z x) x) ?_ ?_ hl y b,
    startHandover_zone?, if_pos rfl]
  · intro z y x hy
    rw [startHandover_zone?, if_neg hy]
  · intro z a c hfades hsame
    rw [startHandover_zone?, startHandover_zone?, if_pos rfl, if_pos rfl, hlen z hfades, hfades.handedFor? hsame]

include hl in
theorem handovers_latestOf (y : Nat) :
    (forEach l (fun z x => startHandover z (len z x) x) b).latestOf y =
      if y ∈ l ∧ b.showable y = true ∧ b.lowersAt y = true then (b.latestOf y).cap b.curfewCeiling else b.latestOf y := by
  have hread := forEach_read (read := fun z x => (x.showable z, x.latestOf z)) (op := fun z x => startHandover z (len z x) x)
    (fun z x => startHandover_fades z (len z x) x) ?_ ?_ hl y b
  · have hlatest := congrArg Prod.snd hread
    simp only at hlatest
    rw [hlatest]
    by_cases hy : y ∈ l
    · rw [if_pos hy, startHandover_latestOf]
      simp only [hy, true_and]
    · simp only [hy, false_and, if_false]
  · intro z y x hy
    rw [startHandover_showable, startHandover_latestOf, if_neg (fun h => hy h.1)]
  · intro z a c hfades hsame
    obtain ⟨hshown, hlatest⟩ := Prod.mk.inj hsame
    rw [startHandover_showable, startHandover_showable, startHandover_latestOf, startHandover_latestOf, hshown, hlatest,
      hfades.lowersAt, hfades.curfewCeiling]

theorem handovers_flight :
    (forEach l (fun z x => startHandover z (len z x) x) b).chain.flight =
      b.chain.flight.map (fun fl => { fl with rewritten := (l.filter b.showable).reverse ++ fl.rewritten }) := by
  induction l generalizing b with
  | nil => exact Option.map_id'.symm
  | cons z l ih =>
    have hshown : (startHandover z (len z b) b).showable = b.showable := funext (startHandover_showable z (len z b) b)
    rw [forEach_cons, ih, hshown, startHandover_flight, Option.map_map]
    congr 1
    funext fl
    show ({ fl with rewritten := (l.filter b.showable).reverse ++ ([z].filter b.showable ++ fl.rewritten) } : Flight) = _
    cases hz : b.showable z with
    | true => simp [hz]
    | false => simp [hz]

theorem handovers_fades : TouchesFades b (forEach l (fun z x => startHandover z (len z x) x) b) :=
  forEach_rel TouchesFades.refl TouchesFades.trans (fun z x => startHandover_fades z (len z x) x) l b

end

/-! ## Handovers of the schedule default (R63, R65, R103, R108) -/

section
variable (p : Nat → Bool) (b : Blocks)

theorem defaultHandovers_zone? (hsized : b.zones.length = 96) (z : Nat) :
    (defaultHandovers p b).zone? z = if p z then handedOver? b z else b.zone? z := by
  unfold defaultHandovers
  rw [handovers_zone? (fun _ {a b} hfades => hfades.defaultHandover) (allZones_nodup.filter p) b z, handedFor?_default]
  simp only [List.mem_filter, mem_allZones]
  by_cases hz : z < 96
  · simp only [hz, true_and]
  · have hnone : b.zone? z = none := zone?_eq_none (by omega)
    simp [hz, handedOver?, hnone]

theorem defaultHandovers_latestOf (hsized : b.zones.length = 96) (z : Nat) :
    (defaultHandovers p b).latestOf z =
      if p z = true ∧ b.showable z = true ∧ b.lowersAt z = true then (b.latestOf z).cap b.curfewCeiling else b.latestOf z := by
  unfold defaultHandovers
  rw [handovers_latestOf (len := fun _ x => x.chain.defaultHandover) (allZones_nodup.filter p) b z]
  simp only [List.mem_filter, mem_allZones]
  by_cases hshown : b.showable z = true
  · simp only [showable_lt hsized hshown, true_and]
  · simp only [hshown, Bool.false_eq_true, false_and, and_false]

theorem defaultHandovers_flight :
    (defaultHandovers p b).chain.flight = b.chain.flight.map (fun fl =>
      { fl with rewritten := (allZones.filter (fun z => b.showable z && p z)).reverse ++ fl.rewritten }) := by
  unfold defaultHandovers
  rw [handovers_flight (len := fun _ x => x.chain.defaultHandover), List.filter_filter]

/-- While no window is open, a handover leaves the latest render. -/
theorem defaultHandovers_latest (hclosed : b.chain.windowOpen = false) :
    (defaultHandovers p b).chain.latest = b.chain.latest := by
  refine (forEach_keeps (P := fun x => x.chain.windowOpen = false ∧ x.chain.latest = b.chain.latest)
    (fun z x ⟨hx, hlatest⟩ => ⟨?_, ?_⟩) _ b ⟨hclosed, rfl⟩).2
  · rw [startHandover_fades z _ x]
    exact hx
  · rw [startHandover_latest (by unfold Blocks.lowersAt; rw [hx]; rfl), hlatest]

/-- All that a pass of handovers writes. -/
theorem defaultHandovers_eq :
    defaultHandovers p b = { b with
      zones := (defaultHandovers p b).zones
      chain := { b.chain with
        latest := (defaultHandovers p b).chain.latest
        flight := b.chain.flight.map (fun fl =>
          { fl with rewritten := (allZones.filter (fun z => b.showable z && p z)).reverse ++ fl.rewritten }) } } := by
  rw [← defaultHandovers_flight]
  exact defaultHandovers_fades p b

end

/-! ## Lowering to a ceiling (R103, R104) -/

/-- A zone's record lowered to a ceiling. -/
def loweredZone (k : Nat) (c : Zone) : Zone :=
  { c with last := capLevels k c.last, handover := c.handover.map (fun h => { h with from_ := capLevels k h.from_ }) }

/-- Only the zone records and the latest render may differ. -/
def TouchesLevels (a b : Blocks) : Prop := b = { a with zones := b.zones, chain := { a.chain with latest := b.chain.latest } }

theorem TouchesLevels.refl (b : Blocks) : TouchesLevels b b := rfl

theorem TouchesLevels.trans {a b c : Blocks} (h : TouchesLevels a b) (k : TouchesLevels b c) : TouchesLevels a c := by
  unfold TouchesLevels at *; rw [k, h]

theorem lowerZone_levels (k z : Nat) (b : Blocks) : TouchesLevels b (lowerZone k z b) := by
  unfold lowerZone; split <;> rfl

theorem lowerNonExempt_levels (b : Blocks) : TouchesLevels b (lowerNonExempt b) :=
  forEach_rel TouchesLevels.refl TouchesLevels.trans (lowerZone_levels _) _ b

theorem lowerZone_of_some {b : Blocks} {z : Nat} {c : Zone} (hz : b.zone? z = some c) (k : Nat) :
    lowerZone k z b = (b.setZone z (some (loweredZone k c))).updateLatest z (ZoneOut.cap k) := by
  unfold lowerZone
  rw [hz]
  rfl

theorem lowerZone_of_none {b : Blocks} {z : Nat} (hz : b.zone? z = none) (k : Nat) : lowerZone k z b = b := by
  unfold lowerZone
  rw [hz]

theorem lowerZone_zone? (k z : Nat) (b : Blocks) (y : Nat) :
    (lowerZone k z b).zone? y = if y = z then (b.zone? z).map (loweredZone k) else b.zone? y := by
  cases hz : b.zone? z with
  | none =>
    rw [lowerZone_of_none hz]
    split
    · next hy => rw [hy, hz]; rfl
    · rfl
  | some c =>
    rw [lowerZone_of_some hz, updateLatest_zone?]
    exact setZone_zone? b z y _ (zone?_lt b hz)

theorem lowerZone_latestOf (k z : Nat) (b : Blocks) (y : Nat) :
    (lowerZone k z b).latestOf y = if y = z ∧ (b.zone? z).isSome = true then (b.latestOf y).cap k else b.latestOf y := by
  cases hz : b.zone? z with
  | none =>
    rw [lowerZone_of_none hz]
    simp
  | some c =>
    rw [lowerZone_of_some hz, updateLatest_latestOf rfl]
    have hset : ∀ x, (b.setZone z (some (loweredZone k c))).latestOf x = b.latestOf x := fun _ => rfl
    rw [hset, hset]
    by_cases hy : y = z
    · simp [hy]
    · simp [hy]

/-- What a lowering of the facade leaves at a zone. -/
theorem lowerings_read (k : Nat) {l : List Nat} (hl : l.Nodup) (y : Nat) (b : Blocks) :
    (forEach l (lowerZone k) b).zone? y = (if y ∈ l then (b.zone? y).map (loweredZone k) else b.zone? y) ∧
    (forEach l (lowerZone k) b).latestOf y =
      if y ∈ l ∧ (b.zone? y).isSome = true then (b.latestOf y).cap k else b.latestOf y := by
  have hread := forEach_read (read := fun z x => (x.zone? z, x.latestOf z)) (op := lowerZone k)
    (lowerZone_levels k) ?_ ?_ hl y b
  · have hzone := congrArg Prod.fst hread
    have hlatest := congrArg Prod.snd hread
    simp only at hzone hlatest
    rw [hzone, hlatest]
    by_cases hy : y ∈ l
    · simp only [lowerZone_zone?, lowerZone_latestOf, hy, true_and, if_true, and_self]
    · simp only [hy, false_and, if_false, and_self]
  · intro z y x hy
    rw [lowerZone_zone?, lowerZone_latestOf, if_neg hy, if_neg (fun h => hy h.1)]
  · intro z a c _ hsame
    obtain ⟨hzone, hlatest⟩ := Prod.mk.inj hsame
    simp only [lowerZone_zone?, lowerZone_latestOf, hzone, hlatest]

/-- R103: the facade is lowered at every configured non-protected zone whose source is not exempt. -/
theorem lowerNonExempt_lowers {b : Blocks} (hsized : b.zones.length = 96) : LoweredTo b.curfewCeiling b (lowerNonExempt b) := by
  have hread := fun z => lowerings_read b.curfewCeiling (allZones_nodup.filter (fun z => b.showable z && !b.sourceExempt z)) z b
  have hmem : ∀ z, z ∈ allZones.filter (fun z => b.showable z && !b.sourceExempt z) ↔
      b.showable z = true ∧ b.sourceExempt z = false := by
    intro z
    rw [List.mem_filter, mem_allZones, Bool.and_eq_true, Bool.not_eq_true']
    exact ⟨fun h => h.2, fun h => ⟨showable_lt hsized h.1, h⟩⟩
  refine ⟨fun z c hz hshown hexempt => ?_, fun z hskip => ?_⟩
  · have hlowered := (hmem z).2 ⟨(showable_iff b z).2 ⟨c, hz, hshown⟩, hexempt⟩
    obtain ⟨hzone, hlatest⟩ := hread z
    rw [if_pos hlowered, hz] at hzone
    rw [if_pos ⟨hlowered, by rw [hz]; rfl⟩] at hlatest
    exact ⟨hzone, hlatest⟩
  · have hkept : z ∉ allZones.filter (fun z => b.showable z && !b.sourceExempt z) := by
      rw [hmem z]
      rintro ⟨hshown, hexempt⟩
      obtain h | h := hskip
      · rw [hshown] at h; cases h
      · rw [hexempt] at h; cases h
    obtain ⟨hzone, hlatest⟩ := hread z
    rw [if_neg hkept] at hzone
    rw [if_neg (fun h => hkept h.1)] at hlatest
    exact ⟨hzone, hlatest⟩

theorem capLevels_capped (k : Nat) (l : Levels) : Capped k (capLevels k l) :=
  ⟨min_le_right _ _, min_le_right _ _, min_le_right _ _, min_le_right _ _⟩

theorem cap_levels_capped {k : Nat} {x : ZoneOut} {l : Levels} {t : Token} (h : x.cap k = .levels l t) : Capped k l := by
  cases x with
  | levels m s =>
    cases h
    exact capLevels_capped k m
  | noLevels => cases h
  | absent => cases h

/-! ## The curfew's two passages (R103) -/

/-- The blocks with the window's state written. -/
def windowSet (isOpen : Bool) (b : Blocks) : Blocks := { b with chain := { b.chain with windowOpen := isOpen } }

theorem openWindow_eq (b : Blocks) : openWindow b = driveCurfewActive (lowerNonExempt (windowSet true b)) := rfl

theorem closeWindow_eq (b : Blocks) :
    closeWindow b = driveCurfewActive (defaultHandovers (fun z => b.showable z && !b.sourceExempt z) (windowSet false b)) := rfl

theorem exec_curfewOpening {s : State} (hdue : s.blocks.windowDue = true) (hclosed : s.blocks.chain.windowOpen = false) :
    exec .curfewOpening s = .next { s with blocks := openWindow s.blocks } := by
  have hopens : (if s.blocks.windowDue && !s.blocks.chain.windowOpen then openWindow s.blocks else s.blocks) = openWindow s.blocks :=
    if_pos (by rw [hdue, hclosed]; rfl)
  rw [← hopens]
  exact exec_event rfl rfl s

theorem exec_curfewClosing {s : State} (hdue : s.blocks.windowDue = false) (hopen : s.blocks.chain.windowOpen = true) :
    exec .curfewClosing s = .next { s with blocks := closeWindow s.blocks } := by
  have hcloses : (if !s.blocks.windowDue && s.blocks.chain.windowOpen then closeWindow s.blocks else s.blocks) = closeWindow s.blocks :=
    if_pos (by rw [hdue, hopen]; rfl)
  rw [← hcloses]
  exact exec_event rfl rfl s

/-- All that an opening writes. -/
theorem openWindow_writes (b : Blocks) :
    openWindow b = { b with
      zones := (openWindow b).zones
      chain := { b.chain with windowOpen := true, latest := (openWindow b).chain.latest }
      curfewActive := { b.curfewActive with output := b.curfewActive.driven true } } := by
  rw [openWindow_eq]
  generalize hlowered : lowerNonExempt (windowSet true b) = c
  have hc : TouchesLevels (windowSet true b) c := hlowered ▸ lowerNonExempt_levels _
  show ({ c with curfewActive := { c.curfewActive with output := c.curfewActive.driven c.chain.windowOpen } } : Blocks) =
    { b with
      zones := c.zones
      chain := { b.chain with windowOpen := true, latest := c.chain.latest }
      curfewActive := { b.curfewActive with output := b.curfewActive.driven true } }
  rw [hc]
  rfl

theorem openWindow_lowers {b : Blocks} (hsized : b.zones.length = 96) : LoweredTo b.curfewCeiling b (openWindow b) :=
  lowerNonExempt_lowers (b := windowSet true b) hsized

/-- All that a closing writes. -/
theorem closeWindow_writes (b : Blocks) :
    closeWindow b = { b with
      zones := (closeWindow b).zones
      chain := { b.chain with
        windowOpen := false
        flight := b.chain.flight.map (fun fl =>
          { fl with rewritten := (allZones.filter (fun z => b.showable z && !b.sourceExempt z)).reverse ++ fl.rewritten }) }
      curfewActive := { b.curfewActive with output := b.curfewActive.driven false } } := by
  have hwritten := defaultHandovers_eq (fun z => b.showable z && !b.sourceExempt z) (windowSet false b)
  rw [defaultHandovers_latest _ _ rfl] at hwritten
  have hfilter : (fun z => (windowSet false b).showable z && (b.showable z && !b.sourceExempt z)) =
      fun z => b.showable z && !b.sourceExempt z := by
    funext z
    show (b.showable z && (b.showable z && !b.sourceExempt z)) = _
    cases b.showable z <;> rfl
  rw [hfilter] at hwritten
  rw [closeWindow_eq]
  generalize defaultHandovers (fun z => b.showable z && !b.sourceExempt z) (windowSet false b) = c at hwritten ⊢
  show ({ c with curfewActive := { c.curfewActive with output := c.curfewActive.driven c.chain.windowOpen } } : Blocks) =
    { b with
      zones := c.zones
      chain := { b.chain with
        windowOpen := false
        flight := b.chain.flight.map (fun fl =>
          { fl with rewritten := (allZones.filter (fun z => b.showable z && !b.sourceExempt z)).reverse ++ fl.rewritten }) }
      curfewActive := { b.curfewActive with output := b.curfewActive.driven false } }
  rw [hwritten]
  rfl

theorem closeWindow_zone? {b : Blocks} (hsized : b.zones.length = 96) (z : Nat) :
    (closeWindow b).zone? z = if b.sourceExempt z then b.zone? z else handedOver? (windowSet false b) z := by
  have hhanded := defaultHandovers_zone? (fun z => b.showable z && !b.sourceExempt z) (windowSet false b) hsized z
  rw [closeWindow_eq]
  show (defaultHandovers (fun z => b.showable z && !b.sourceExempt z) (windowSet false b)).zone? z = _
  rw [hhanded]
  cases hexempt : b.sourceExempt z with
  | true => simp; rfl
  | false =>
    cases hshown : b.showable z with
    | true => simp
    | false =>
      have hkept : handedOver? (windowSet false b) z = b.zone? z := handedFor?_of_hidden (b := windowSet false b) hshown _
      simp [hkept]
      rfl

/-- Settles O39: an opening lowers the facade, and `LoweredTo` says at which zones. -/
theorem curfewOpeningLowersTheFacade : Obligations.CurfewOpeningLowersTheFacade := by
  unfold Obligations.CurfewOpeningLowersTheFacade
  intro s hdue hclosed hsized
  obtain ⟨hlowers, hkeeps⟩ := openWindow_lowers hsized.1
  refine ⟨_, exec_curfewOpening hdue hclosed, rfl, ?_, ?_, hkeeps, hlowers, fun _ _ => rfl, openWindow_writes s.blocks⟩
  · show (openWindow s.blocks).chain.windowOpen = true
    rw [openWindow_writes]
  · intro z c hz hshown hexempt
    have hwas : s.blocks.showable z = true := by
      by_contra hhidden
      have hsame := (hkeeps z (.inl (by simpa using hhidden))).1
      exact hhidden ((showable_iff s.blocks z).2 ⟨c, hsame ▸ hz, hshown⟩)
    obtain ⟨c₀, hz₀, hshown₀⟩ := (showable_iff s.blocks z).1 hwas
    obtain ⟨hzone, hlatest⟩ := hlowers z c₀ hz₀ hshown₀ hexempt
    cases hzone.symm.trans hz
    refine ⟨capLevels_capped _ _, fun h hh => ?_, fun l tok hl => cap_levels_capped (hlatest.symm.trans hl)⟩
    obtain ⟨h₀, -, rfl⟩ := Option.map_eq_some_iff.1 hh
    exact capLevels_capped _ _

/-! ## Facade-wide handovers (R63, R65, R108) -/

/-- The blocks with Panel Hold written. -/
def panelSet (held : Bool) (b : Blocks) : Blocks := { b with panelHold := held }

/-- A handover of the schedule default on every zone that can show one. -/
theorem defaultHandovers_shown (b : Blocks) (hsized : b.zones.length = 96) :
    (∀ z, (defaultHandovers b.showable b).zone? z = handedOver? b z) ∧
    (∀ z, (defaultHandovers b.showable b).latestOf z =
      if b.showable z = true ∧ b.chain.windowOpen = true ∧ b.sourceExempt z = false
        then (b.latestOf z).cap b.curfewCeiling else b.latestOf z) ∧
    defaultHandovers b.showable b = { b with
      zones := (defaultHandovers b.showable b).zones
      chain := { b.chain with
        latest := (defaultHandovers b.showable b).chain.latest
        flight := b.chain.flight.map (fun fl =>
          { fl with rewritten := (allZones.filter b.showable).reverse ++ fl.rewritten }) } } := by
  refine ⟨fun z => ?_, fun z => ?_, ?_⟩
  · rw [defaultHandovers_zone? b.showable b hsized z]
    cases hshown : b.showable z with
    | true => rfl
    | false => exact (handedFor?_of_hidden hshown b.chain.defaultHandover).symm
  · rw [defaultHandovers_latestOf b.showable b hsized z]
    unfold Blocks.lowersAt
    simp only [Bool.and_eq_true, Bool.not_eq_true', and_self_left]
  · have hwritten := defaultHandovers_eq b.showable b
    simp only [Bool.and_self] at hwritten
    exact hwritten

theorem exec_panelHoldAssertion {s : State} (hreleased : s.blocks.panelHold = false) :
    exec .panelHoldAssertion s =
      .next { s with blocks := defaultHandovers (panelSet true s.blocks).showable (panelSet true s.blocks) } := by
  have hasserts : assertPanelHold s.blocks = defaultHandovers (panelSet true s.blocks).showable (panelSet true s.blocks) :=
    if_neg (by rw [hreleased]; exact Bool.false_ne_true)
  rw [← hasserts]
  exact exec_event rfl rfl s

theorem exec_panelHoldRelease {s : State} (hasserted : s.blocks.panelHold = true) :
    exec .panelHoldRelease s =
      .next { s with blocks := defaultHandovers (panelSet false s.blocks).showable (panelSet false s.blocks) } := by
  have hreleases : releasePanelHold s.blocks = defaultHandovers (panelSet false s.blocks).showable (panelSet false s.blocks) :=
    if_pos hasserted
  rw [← hreleases]
  exact exec_event rfl rfl s

/-- Under Panel Hold no source is exempt (R94). -/
theorem sourceExempt_of_panelHold {b : Blocks} (h : b.panelHold = true) (z : Nat) : b.sourceExempt z = false := by
  unfold Blocks.sourceExempt
  rw [h, if_pos rfl]

/-- The blocks with the hold look written. -/
def holdLookSet (l : Levels) (b : Blocks) : Blocks := { b with chain := { b.chain with holdLook := l } }

theorem setHoldLook_of_capped {l : Levels} (hl : Capped 1000 l) (b : Blocks) :
    setHoldLook l b =
      (if b.panelHold then defaultHandovers (holdLookSet l b).showable (holdLookSet l b) else holdLookSet l b, okWith .empty) := by
  unfold setHoldLook
  rw [(levelsWithin_iff 1000 l).2 hl]
  rfl

theorem setHoldLook_released {l : Levels} (hl : Capped 1000 l) {b : Blocks} (hreleased : b.panelHold = false) :
    setHoldLook l b = (holdLookSet l b, okWith .empty) := by
  rw [setHoldLook_of_capped hl, hreleased, if_neg Bool.false_ne_true]

theorem setHoldLook_held {l : Levels} (hl : Capped 1000 l) {b : Blocks} (hheld : b.panelHold = true) :
    setHoldLook l b = (defaultHandovers (holdLookSet l b).showable (holdLookSet l b), okWith .empty) := by
  rw [setHoldLook_of_capped hl, hheld, if_pos rfl]

theorem setHoldLook_of_not_capped {l : Levels} (hl : ¬Capped 1000 l) (b : Blocks) :
    setHoldLook l b = (b, refuse .outOfRange) := by
  unfold setHoldLook
  have hout : levelsWithin 1000 l = false := by
    rw [← Bool.not_eq_true, levelsWithin_iff]
    exact hl
  rw [hout]
  rfl

/-- Settles O40: each of the four events is one pass of handovers. -/
theorem facadeWideHandovers : Obligations.FacadeWideHandovers := by
  unfold Obligations.FacadeWideHandovers
  refine ⟨?_, ?_, ?_, ?_, ?_⟩
  · rintro s b hreleased hsized rfl
    obtain ⟨hzones, hlatest, hwritten⟩ := defaultHandovers_shown (panelSet true s.blocks) hsized.1
    refine ⟨_, exec_panelHoldAssertion hreleased, rfl, hzones, fun z => ?_, hwritten⟩
    refine (hlatest z).trans ?_
    rw [sourceExempt_of_panelHold (b := panelSet true s.blocks) rfl]
    simp only [and_true]
    rfl
  · rintro s b hasserted hsized rfl
    obtain ⟨hzones, hlatest, hwritten⟩ := defaultHandovers_shown (panelSet false s.blocks) hsized.1
    exact ⟨_, exec_panelHoldRelease hasserted, rfl, hzones, hlatest, hwritten⟩
  · rintro s b hdue hopen hsized rfl
    refine ⟨_, exec_curfewClosing hdue hopen, rfl, ?_, closeWindow_zone? hsized.1, closeWindow_writes s.blocks⟩
    show (closeWindow s.blocks).chain.windowOpen = false
    rw [closeWindow_writes]
  · rintro s r l b hasks hl hsized rfl
    rw [exec_setHoldLook hasks]
    by_cases hheld : s.blocks.panelHold = true
    · obtain ⟨hzones, hlatest, hwritten⟩ := defaultHandovers_shown (holdLookSet l s.blocks) hsized.1
      rw [setHoldLook_held hl hheld]
      refine ⟨_, rfl, fun z => (hzones z).trans (if_pos hheld).symm, fun z => ?_, ?_⟩
      · refine (hlatest z).trans ?_
        rw [sourceExempt_of_panelHold (b := holdLookSet l s.blocks) hheld]
        simp only [and_true, hheld, true_and]
        rfl
      · rw [if_pos hheld]
        exact hwritten
    · rw [setHoldLook_released hl (by simpa using hheld)]
      refine ⟨_, rfl, fun z => (if_neg hheld).symm, fun z => (if_neg (fun h => hheld h.1)).symm, ?_⟩
      rw [if_neg hheld]
      rfl
  · intro s r l hasks hl
    rw [exec_setHoldLook hasks, setHoldLook_of_not_capped hl]

end Sys2Proof.Machine

/-! PROOFS. The Level Chain's settings: obligation O41. -/

namespace Sys2Proof.Machine

/-! ## Arming (R35) -/

/-- Only what an arming writes may differ: the armed flags, and what Feeder Control writes. -/
def TouchesArming (a b : Blocks) : Prop :=
  b = { a with upcoming := b.upcoming, feeders := b.feeders, notices := b.notices, deferral := b.deferral }

theorem TouchesArming.refl (b : Blocks) : TouchesArming b b := rfl

theorem TouchesArming.trans {a b c : Blocks} (h : TouchesArming a b) (k : TouchesArming b c) : TouchesArming a c := by
  unfold TouchesArming at *; rw [k, h]

theorem TouchesFeeders.arming {a b : Blocks} (h : TouchesFeeders a b) : TouchesArming a b := by
  unfold TouchesFeeders TouchesArming at *; rw [h]

section
variable {a b : Blocks} (h : TouchesArming a b)
include h

theorem TouchesArming.bookings : b.bookings = a.bookings := by rw [h]
theorem TouchesArming.active : b.active = a.active := by rw [h]
theorem TouchesArming.holding : b.holding = a.holding := by rw [h]
theorem TouchesArming.chain : b.chain = a.chain := by rw [h]
theorem TouchesArming.time : b.time = a.time := by rw [h]
theorem TouchesArming.armLead : b.armLead = a.armLead := by rw [h]
theorem TouchesArming.almanac : b.almanac = a.almanac := by rw [h]

end

/-- The armed flag of the entries of some numbers set. -/
def armedAmong (ns : List Nat) (e : UpcomingEntry) : UpcomingEntry := if e.number ∈ ns then { e with armed := true } else e

theorem armedAmong_number (ns : List Nat) (e : UpcomingEntry) : (armedAmong ns e).number = e.number := by
  unfold armedAmong; split <;> rfl

theorem armedAmong_start (ns : List Nat) (e : UpcomingEntry) : (armedAmong ns e).start = e.start := by
  unfold armedAmong; split <;> rfl

theorem armedAmong_armed (ns : List Nat) (e : UpcomingEntry) :
    ({ armedAmong ns e with armed := true } : UpcomingEntry) = { e with armed := true } := by
  unfold armedAmong; split <;> rfl

theorem armedAmong_of_armed (ns : List Nat) {e : UpcomingEntry} (h : e.armed = true) : armedAmong ns e = e := by
  unfold armedAmong
  split
  · rw [← h]
  · rfl

/-- The blocks with the entries of a number marked as armed. -/
def entryMarked (n : Nat) (b : Blocks) : Blocks := { b with upcoming := b.upcoming.map (armedAmong [n]) }

theorem armEntry_eq (n : Nat) (b : Blocks) :
    armEntry n b = forEach ((entryMarked n b).feedersOf ((entryMarked n b).zonesOf n)) (claimFeeder n) (entryMarked n b) := by
  have hmarked : (fun e : UpcomingEntry => if e.number = n then { e with armed := true } else e) = armedAmong [n] := by
    funext e
    simp only [armedAmong, List.mem_singleton]
  unfold armEntry entryMarked
  rw [hmarked]

theorem armEntry_touches_marked (n : Nat) (b : Blocks) : TouchesFeeders (entryMarked n b) (armEntry n b) := by
  rw [armEntry_eq]
  exact forEach_rel TouchesFeeders.refl TouchesFeeders.trans (claimFeeder_touches n) _ _

theorem armEntry_arming (n : Nat) (b : Blocks) : TouchesArming b (armEntry n b) :=
  TouchesArming.trans (b := entryMarked n b) rfl (armEntry_touches_marked n b).arming

theorem armEntry_upcoming (n : Nat) (b : Blocks) : (armEntry n b).upcoming = b.upcoming.map (armedAmong [n]) := by
  rw [armEntry_touches_marked n b]
  rfl

theorem armEntries_upcoming (ns : List Nat) (b : Blocks) : (forEach ns armEntry b).upcoming = b.upcoming.map (armedAmong ns) := by
  induction ns generalizing b with
  | nil =>
    have hnone : armedAmong [] = id := funext fun e => if_neg List.not_mem_nil
    rw [forEach_nil, hnone, List.map_id]
  | cons n ns ih =>
    rw [forEach_cons, ih, armEntry_upcoming, List.map_map]
    congr 1
    funext e
    simp only [Function.comp, armedAmong, List.mem_cons, List.not_mem_nil, or_false]
    by_cases hn : e.number = n <;> by_cases hns : e.number ∈ ns <;> simp [hn, hns]

/-- The numbers of the entries that an arming reaches at a now. -/
def Blocks.armable (b : Blocks) (now : Instant) : List Nat :=
  (b.upcoming.filter (fun e => b.withinLead now e && !e.armed)).map (fun e => e.number)

theorem withinLead_iff (b : Blocks) (now : Instant) (e : UpcomingEntry) :
    b.withinLead now e = true ↔ e.start - (b.armLead : Int) * 1000 ≤ now ∧ now < e.start := by
  unfold Blocks.withinLead
  rw [Bool.and_eq_true, decide_eq_true_eq, decide_eq_true_eq]

theorem armDue_of_now {b : Blocks} {now : Instant} (hnow : b.time.now = some now) :
    armDue b = forEach (b.armable now) armEntry b := by
  unfold armDue
  rw [hnow]
  rfl

theorem armDue_arming (b : Blocks) : TouchesArming b (armDue b) := by
  cases hnow : b.time.now with
  | none => unfold armDue; rw [hnow]; rfl
  | some now =>
    rw [armDue_of_now hnow]
    exact forEach_rel TouchesArming.refl TouchesArming.trans armEntry_arming _ _

/-- An arming sets armed flags and nothing else of the Upcoming List, for some set of numbers. -/
theorem armDue_upcoming (b : Blocks) : ∃ ns, (armDue b).upcoming = b.upcoming.map (armedAmong ns) ∧
    ∀ now, b.time.now = some now → ns = b.armable now := by
  cases hnow : b.time.now with
  | none =>
    refine ⟨[], ?_, fun _ h => by cases h⟩
    have hnone : armedAmong [] = id := funext fun e => if_neg List.not_mem_nil
    rw [hnone, List.map_id]
    unfold armDue
    rw [hnow]
  | some now =>
    refine ⟨b.armable now, ?_, fun n h => by cases h; rfl⟩
    rw [armDue_of_now hnow, armEntries_upcoming]

/-- After an arming every entry within its lead is armed. -/
theorem armDue_arms {b : Blocks} {now : Instant} (hnow : b.time.now = some now) {e : UpcomingEntry} (he : e ∈ (armDue b).upcoming)
    (hlead : b.withinLead now e = true) : e.armed = true := by
  rw [armDue_of_now hnow, armEntries_upcoming] at he
  obtain ⟨x, hx, rfl⟩ := List.mem_map.1 he
  have hwithin : b.withinLead now x = true := by
    unfold Blocks.withinLead at hlead ⊢
    rwa [armedAmong_start] at hlead
  cases harmed : x.armed with
  | true => rw [armedAmong_of_armed _ harmed, harmed]
  | false =>
    have hmem : x.number ∈ b.armable now :=
      List.mem_map.2 ⟨x, List.mem_filter.2 ⟨hx, by rw [hwithin, harmed]; rfl⟩, rfl⟩
    unfold armedAmong
    rw [if_pos hmem]

/-! ## Configure Schedule (R109) -/

/-- The blocks with the arm lead and the default handover written. -/
def scheduleSet (l h : Nat) (b : Blocks) : Blocks := { b with armLead := l, chain := { b.chain with defaultHandover := h } }

section
variable {lead handover : Option Nat} (b : Blocks)

theorem configureSchedule_outside (hout : (∃ x, lead = some x ∧ 120 < x) ∨ ∃ x, handover = some x ∧ 5000 < x) :
    configureSchedule lead handover b = (b, refuse .outOfRange) := by
  refine if_pos ?_
  obtain ⟨x, rfl, hx⟩ | ⟨x, rfl, hx⟩ := hout <;> simp [hx]

theorem configureSchedule_within (hlead : ∀ x, lead = some x → x ≤ 120) (hhandover : ∀ x, handover = some x → x ≤ 5000) :
    configureSchedule lead handover b =
      (if lead.getD b.armLead = b.armLead then scheduleSet (lead.getD b.armLead) (handover.getD b.chain.defaultHandover) b
        else armDue (scheduleSet (lead.getD b.armLead) (handover.getD b.chain.defaultHandover) b),
        okWith (.schedule (lead.getD b.armLead) (handover.getD b.chain.defaultHandover))) := by
  refine if_neg ?_
  rw [Bool.or_eq_true, Bool.and_eq_true, Bool.and_eq_true, decide_eq_true_eq, decide_eq_true_eq]
  rintro (⟨hsome, hover⟩ | ⟨hsome, hover⟩)
  · obtain ⟨x, rfl⟩ := Option.isSome_iff_exists.1 hsome
    exact absurd (hlead x rfl) (not_le.2 hover)
  · obtain ⟨x, rfl⟩ := Option.isSome_iff_exists.1 hsome
    exact absurd (hhandover x rfl) (not_le.2 hover)

end

/-! ## Set Ambient (R107) -/

theorem ambientInRange_iff (a : Ambient) :
    ambientInRange a = true ↔ 128 ≤ a.gmin ∧ a.gmin ≤ a.gmax ∧ a.gmax ≤ 4096 ∧ a.aref ≤ 4095 ∧
      1 ≤ a.sFast ∧ a.sFast ≤ 255 ∧ 1 ≤ a.sSlow ∧ a.sSlow ≤ 255 ∧ a.settle ≤ 255 := by
  unfold ambientInRange
  simp only [Bool.and_eq_true, decide_eq_true_eq]
  omega

/-- A face after Set Ambient. -/
def faceSet (a : Ambient) (moved resettle : Bool) (f : Face) : Face :=
  { f with
    gain := if moved then min (max f.gain a.gmin) a.gmax else f.gain
    settle := if resettle then a.settle else f.settle }

/-- The blocks with ambient settings and faces written. -/
def ambientSet (a : Ambient) (faces : List Face) (b : Blocks) : Blocks :=
  { b with chain := { b.chain with ambient := a, faces := faces } }

theorem clampGain_cast (lo hi g : Nat) : clampGain lo hi (g : Int) = min (max g lo) hi := by
  unfold clampGain
  omega

/-- The faces under new settings, clamped and resettled or not. -/
theorem resettled_eq (a : Ambient) (moved resettle : Bool) (b : Blocks) :
    (if resettle then reloadSettle (ambientSet a (if moved then b.chain.faces.map (clampFace a) else b.chain.faces) b)
      else ambientSet a (if moved then b.chain.faces.map (clampFace a) else b.chain.faces) b) =
    ambientSet a (b.chain.faces.map (faceSet a moved resettle)) b := by
  have hclamped : (if moved then b.chain.faces.map (clampFace a) else b.chain.faces) = b.chain.faces.map (faceSet a moved false) := by
    cases moved with
    | true =>
      refine List.map_congr_left fun f _ => ?_
      unfold clampFace faceSet
      rw [clampGain_cast]
      rfl
    | false => exact (List.map_id _).symm
  have hreload : ∀ faces, reloadSettle (ambientSet a faces b) = ambientSet a (faces.map (fun f => { f with settle := a.settle })) b :=
    fun _ => rfl
  rw [hclamped, hreload, List.map_map]
  cases resettle with
  | true => rfl
  | false => rfl

theorem setAmbient_within {x : AmbientBody} {b : Blocks} {a : Ambient} (ha : a = overlayAmbient x b.chain.ambient)
    (h : ambientInRange a = true) {moved : Bool}
    (hmoved : moved = (decide (a.gmin ≠ b.chain.ambient.gmin) || decide (a.gmax ≠ b.chain.ambient.gmax))) :
    setAmbient x b = (ambientSet a (b.chain.faces.map (faceSet a moved x.resettle)) b,
      okWith (.gains ((ambientSet a (b.chain.faces.map (faceSet a moved x.resettle)) b).chain.faces.map (fun f => f.gain)))) := by
  rw [← resettled_eq, ha, hmoved, ha]
  refine if_neg ?_
  rw [← ha, h]
  exact Bool.false_ne_true

theorem setAmbient_outside {x : AmbientBody} {b : Blocks} (h : ambientInRange (overlayAmbient x b.chain.ambient) = false) :
    setAmbient x b = (b, refuse .outOfRange) := by
  refine if_pos ?_
  rw [h]
  rfl

/-! ## Set Curfew (R102, R103) -/

/-- The blocks with curfew settings written. -/
def curfewSet (c : Option Curfew) (b : Blocks) : Blocks := { b with chain := { b.chain with curfew := c } }

/-- The blocks after curfew settings are stored and the window has followed them. -/
def curfewTaken (c : Option Curfew) (b : Blocks) : Blocks :=
  if b.chain.windowOpen && (followWindow (curfewSet c b)).chain.windowOpen &&
      decide ((curfewSet c b).curfewCeiling < b.curfewCeiling)
    then lowerNonExempt (followWindow (curfewSet c b)) else followWindow (curfewSet c b)

theorem followWindow_opens {b : Blocks} (hdue : b.windowDue = true) (hclosed : b.chain.windowOpen = false) :
    followWindow b = openWindow b := if_pos (by rw [hdue, hclosed]; rfl)

theorem followWindow_closes {b : Blocks} (hdue : b.windowDue = false) (hopen : b.chain.windowOpen = true) :
    followWindow b = closeWindow b :=
  (if_neg (by rw [hdue]; exact Bool.false_ne_true)).trans (if_pos (by rw [hdue, hopen]; rfl))

theorem followWindow_stays {b : Blocks} (hsame : b.chain.windowOpen = b.windowDue) : followWindow b = b := by
  unfold followWindow
  rw [hsame]
  cases b.windowDue with
  | true => rfl
  | false => rfl

theorem followWindow_windowOpen (b : Blocks) : (followWindow b).chain.windowOpen = b.windowDue := by
  cases hdue : b.windowDue with
  | true =>
    cases hopen : b.chain.windowOpen with
    | true => rw [followWindow_stays (hopen.trans hdue.symm), hopen]
    | false => rw [followWindow_opens hdue hopen, openWindow_writes]
  | false =>
    cases hopen : b.chain.windowOpen with
    | true => rw [followWindow_closes hdue hopen, closeWindow_writes]
    | false => rw [followWindow_stays (hopen.trans hdue.symm), hopen]

/-- A driven line shows its condition under Schedule and its command under Operator. -/
theorem driven_eq (i : Indicator) (level : Bool) :
    i.driven level = match i.source with | .schedule => level | .operator => i.command := rfl

theorem curfewStored_iff (b t : Blocks) (c : Option Curfew) :
    CurfewStored b t c ↔
    t = { curfewSet c b with
      zones := t.zones
      chain := { (curfewSet c b).chain with
        windowOpen := (curfewSet c b).windowDue, latest := t.chain.latest, flight := t.chain.flight }
      curfewActive := { b.curfewActive with
        output := if b.chain.windowOpen = (curfewSet c b).windowDue then b.curfewActive.output
          else b.curfewActive.driven (curfewSet c b).windowDue } } ∧
    ((curfewSet c b).windowDue = true → t.chain.flight = b.chain.flight ∧
      ((b.chain.windowOpen = false ∨ (curfewSet c b).curfewCeiling < b.curfewCeiling) →
        LoweredTo (curfewSet c b).curfewCeiling b t) ∧
      (b.chain.windowOpen = true → b.curfewCeiling ≤ (curfewSet c b).curfewCeiling →
        t.zones = b.zones ∧ t.chain.latest = b.chain.latest)) ∧
    ((curfewSet c b).windowDue = false → t.chain.latest = b.chain.latest ∧
      (b.chain.windowOpen = false → t.zones = b.zones ∧ t.chain.flight = b.chain.flight) ∧
      (b.chain.windowOpen = true →
        (∀ z, t.zone? z = if b.sourceExempt z then b.zone? z else handedOver? (windowSet false (curfewSet c b)) z) ∧
        t.chain.flight = b.chain.flight.map (fun fl => { fl with rewritten :=
          (allZones.filter (fun z => b.showable z && !b.sourceExempt z)).reverse ++ fl.rewritten }))) := Iff.rfl

section
variable {b : Blocks} {c : Option Curfew}

/-- A window that stays as it was leaves all but the settings. -/
theorem curfewStored_stays (hsame : b.chain.windowOpen = (curfewSet c b).windowDue)
    (hhigher : b.chain.windowOpen = true → b.curfewCeiling ≤ (curfewSet c b).curfewCeiling) :
    CurfewStored b (curfewSet c b) c := by
  rw [curfewStored_iff, if_pos hsame, ← hsame]
  refine ⟨rfl, fun hopen => ⟨rfl, fun hlower => ?_, fun _ _ => ⟨rfl, rfl⟩⟩, fun hclosed => ⟨rfl, fun _ => ⟨rfl, rfl⟩, fun hopen => ?_⟩⟩
  · obtain hclosed | hlower := hlower
    · rw [hopen] at hclosed; cases hclosed
    · exact absurd (hhigher hopen) (not_le.2 hlower)
  · rw [hopen] at hclosed; cases hclosed

/-- A lower ceiling under a window that stays open lowers the facade. -/
theorem curfewStored_lowers (hsized : b.zones.length = 96) (hopen : b.chain.windowOpen = true)
    (hdue : (curfewSet c b).windowDue = true) (hlower : (curfewSet c b).curfewCeiling < b.curfewCeiling) :
    CurfewStored b (lowerNonExempt (curfewSet c b)) c := by
  have hlevels := lowerNonExempt_levels (curfewSet c b)
  have hlowered : LoweredTo (curfewSet c b).curfewCeiling b (lowerNonExempt (curfewSet c b)) :=
    lowerNonExempt_lowers (b := curfewSet c b) hsized
  generalize lowerNonExempt (curfewSet c b) = t at hlevels hlowered ⊢
  have hflight : t.chain.flight = b.chain.flight := by rw [hlevels]; rfl
  rw [curfewStored_iff, hdue, if_pos hopen]
  refine ⟨?_, fun _ => ⟨hflight, fun _ => hlowered, fun _ hhigher => absurd hhigher (not_le.2 hlower)⟩, fun h => by cases h⟩
  rw [hflight, ← hopen]
  exact hlevels

/-- An opening lowers the facade to the new ceiling. -/
theorem curfewStored_opens (hsized : b.zones.length = 96) (hclosed : b.chain.windowOpen = false)
    (hdue : (curfewSet c b).windowDue = true) : CurfewStored b (openWindow (curfewSet c b)) c := by
  have hwrites := openWindow_writes (curfewSet c b)
  have hlowered : LoweredTo (curfewSet c b).curfewCeiling b (openWindow (curfewSet c b)) :=
    openWindow_lowers (b := curfewSet c b) hsized
  generalize openWindow (curfewSet c b) = t at hwrites hlowered ⊢
  have hflight : t.chain.flight = b.chain.flight := by rw [hwrites]; rfl
  rw [curfewStored_iff, hdue, if_neg (by rw [hclosed]; exact Bool.false_ne_true)]
  refine ⟨?_, fun _ => ⟨hflight, fun _ => hlowered, fun hopen => ?_⟩, fun h => by cases h⟩
  · rw [hflight]
    exact hwrites
  · rw [hclosed] at hopen; cases hopen

/-- A closing hands the facade over. -/
theorem curfewStored_closes (hsized : b.zones.length = 96) (hopen : b.chain.windowOpen = true)
    (hdue : (curfewSet c b).windowDue = false) : CurfewStored b (closeWindow (curfewSet c b)) c := by
  have hwrites := closeWindow_writes (curfewSet c b)
  have hzones := closeWindow_zone? (b := curfewSet c b) hsized
  generalize closeWindow (curfewSet c b) = t at hwrites hzones ⊢
  have hlatest : t.chain.latest = b.chain.latest := by rw [hwrites]; rfl
  have hflight : t.chain.flight = b.chain.flight.map (fun fl => { fl with rewritten :=
      (allZones.filter (fun z => b.showable z && !b.sourceExempt z)).reverse ++ fl.rewritten }) := by rw [hwrites]; rfl
  rw [curfewStored_iff, hdue, if_neg (by rw [hopen]; exact Bool.true_eq_false_eq_False)]
  refine ⟨?_, fun h => (by cases h), fun _ => ⟨hlatest, fun hclosed => ?_, fun _ => ⟨hzones, hflight⟩⟩⟩
  · rw [hlatest, hflight]
    exact hwrites
  · rw [hopen] at hclosed; cases hclosed

end

/-- Curfew settings are stored as `CurfewStored` says: a case for each way in which the window stands before and after. -/
theorem curfewTaken_stored {b : Blocks} (c : Option Curfew) (hsized : b.zones.length = 96) : CurfewStored b (curfewTaken c b) c := by
  have htaken : curfewTaken c b = if b.chain.windowOpen = true ∧ (curfewSet c b).windowDue = true ∧
      (curfewSet c b).curfewCeiling < b.curfewCeiling then lowerNonExempt (followWindow (curfewSet c b))
      else followWindow (curfewSet c b) := by
    unfold curfewTaken
    simp only [Bool.and_eq_true, decide_eq_true_eq, followWindow_windowOpen, and_assoc]
  rw [htaken]
  cases hopen : b.chain.windowOpen with
  | false =>
    rw [if_neg (fun h => Bool.false_ne_true h.1)]
    cases hdue : (curfewSet c b).windowDue with
    | false =>
      rw [followWindow_stays (b := curfewSet c b) (hopen.trans hdue.symm)]
      exact curfewStored_stays (hopen.trans hdue.symm) (fun h => by rw [hopen] at h; cases h)
    | true =>
      rw [followWindow_opens (b := curfewSet c b) hdue hopen]
      exact curfewStored_opens hsized hopen hdue
  | true =>
    cases hdue : (curfewSet c b).windowDue with
    | false =>
      rw [if_neg (fun h => Bool.false_ne_true h.2.1), followWindow_closes (b := curfewSet c b) hdue hopen]
      exact curfewStored_closes hsized hopen hdue
    | true =>
      rw [followWindow_stays (b := curfewSet c b) (hopen.trans hdue.symm)]
      by_cases hlower : (curfewSet c b).curfewCeiling < b.curfewCeiling
      · rw [if_pos ⟨rfl, rfl, hlower⟩]
        exact curfewStored_lowers hsized hopen hdue hlower
      · rw [if_neg (fun h => hlower h.2.2)]
        exact curfewStored_stays (hopen.trans hdue.symm) (fun _ => not_lt.1 hlower)

theorem curfewTaken_windowOpen {b : Blocks} {c : Option Curfew} (hsized : b.zones.length = 96) :
    (curfewTaken c b).chain.windowOpen = (curfewSet c b).windowDue := by
  have hstored := ((curfewStored_iff b (curfewTaken c b) c).1 (curfewTaken_stored c hsized)).1
  rw [hstored]

/-- The kinds that Set Curfew stores as barred, in their order. -/
def barredKinds (barred : List StepKind) : List StepKind :=
  [StepKind.pulse, .chase, .sparkle, .sweep].filter (fun x => decide (x ∈ barred))

theorem mem_barredKinds {barred : List StepKind} (hstatic : StepKind.static ∉ barred) (x : StepKind) :
    x ∈ barredKinds barred ↔ x ∈ barred := by
  unfold barredKinds
  cases x <;> simp [hstatic]

theorem setCurfew_off (b : Blocks) :
    setCurfew .off b = (curfewTaken none b, okWith (.curfewWindow (curfewTaken none b).chain.windowOpen)) := rfl

section
variable {a e k : Nat} {barred : List StepKind} (b : Blocks)

theorem setCurfew_within (ha : a ≤ 1439) (he : e ≤ 1439) (hk : k ≤ 1000) (hstatic : StepKind.static ∉ barred) :
    setCurfew (.window a e k barred) b = (curfewTaken (some ⟨a, e, k, barredKinds barred⟩) b,
      okWith (.curfewWindow (curfewTaken (some ⟨a, e, k, barredKinds barred⟩) b).chain.windowOpen)) := by
  refine if_neg ?_
  simp only [ha, he, hk, hstatic, decide_true, decide_false, Bool.and_self, Bool.not_false, Bool.not_true, Bool.false_eq_true,
    not_false_eq_true]

theorem setCurfew_outside (hout : 1439 < a ∨ 1439 < e ∨ 1000 < k ∨ StepKind.static ∈ barred) :
    setCurfew (.window a e k barred) b = (b, refuse .outOfRange) := by
  refine if_pos ?_
  rw [Bool.not_eq_true', Bool.eq_false_iff]
  intro hfits
  simp only [Bool.and_eq_true, decide_eq_true_eq, Bool.not_eq_true', decide_eq_false_iff_not] at hfits
  obtain ⟨⟨⟨ha, he⟩, hk⟩, hstatic⟩ := hfits
  obtain h | h | h | h := hout
  · omega
  · omega
  · omega
  · exact hstatic h

end

/-- R102: a window of minutes that does not pass midnight, and one that does. -/
theorem inWindow_iff (a e : Nat) (t : Int) :
    inWindow a e t = true ↔ (a < e ∧ (a : Int) * 60000 ≤ t ∧ t < (e : Int) * 60000) ∨
      (e < a ∧ ((a : Int) * 60000 ≤ t ∨ t < (e : Int) * 60000)) := by
  unfold inWindow
  split
  · next h =>
    rw [Bool.and_eq_true, decide_eq_true_eq, decide_eq_true_eq]
    omega
  · split
    · next h =>
      rw [Bool.or_eq_true, decide_eq_true_eq, decide_eq_true_eq]
      omega
    · constructor
      · exact fun h => absurd h Bool.false_ne_true
      · omega

theorem windowDue_iff {b : Blocks} {c : Curfew} (hc : b.chain.curfew = some c) :
    b.windowDue = true ↔ ∃ now, b.time.now = some now ∧ inWindow c.startMinute c.endMinute (now % 86400000) = true := by
  unfold Blocks.windowDue
  rw [hc]
  cases hnow : b.time.now with
  | none => simp
  | some now =>
    constructor
    · exact fun h => ⟨now, rfl, h⟩
    · rintro ⟨n, hn, h⟩
      cases hn
      exact h

theorem curfewSet_none_due (b : Blocks) : (curfewSet none b).windowDue = false := by
  unfold Blocks.windowDue
  show (match b.time.now, (none : Option Curfew) with
    | some now, some c => inWindow c.startMinute c.endMinute (timeOfDay now) | _, _ => false) = false
  cases b.time.now <;> rfl

/-- Settles O41. -/
theorem levelChainSettings : Obligations.LevelChainSettings := by
  unfold Obligations.LevelChainSettings
  refine ⟨fun s r a e k barred hasks ha he hk hstatic hsized => ?_, fun s r hasks hsized => ?_, fun s r a e k barred hasks hout => ?_,
    ambientInRange_iff, fun s r x a hasks ha => ⟨fun hout => ?_, fun hin => ?_⟩, fun s r lead handover hasks hout => ?_,
    fun s r lead handover l h hasks hl hh hlead hhandover => ?_⟩
  · refine ⟨_, ⟨a, e, k, barredKinds barred⟩, by rw [exec_setCurfew hasks, setCurfew_within s.blocks ha he hk hstatic], rfl, rfl, rfl,
      mem_barredKinds hstatic, curfewTaken_stored _ hsized.1, ?_⟩
    rw [curfewTaken_windowOpen hsized.1, windowDue_iff (b := curfewSet _ s.blocks) rfl]
    simp only [inWindow_iff]
    rfl
  · have hclosed : (curfewTaken none s.blocks).chain.windowOpen = false :=
      (curfewTaken_windowOpen hsized.1).trans (curfewSet_none_due s.blocks)
    exact ⟨_, by rw [exec_setCurfew hasks, setCurfew_off, hclosed], hclosed, curfewTaken_stored _ hsized.1⟩
  · rw [exec_setCurfew hasks, setCurfew_outside s.blocks hout]
  · rw [exec_setAmbient hasks, setAmbient_outside (by rw [← hout, ha]; rfl)]
  · refine ⟨_, by rw [exec_setAmbient hasks, setAmbient_within ha hin rfl], ?_⟩
    refine congrArg (fun faces => ambientSet a faces s.blocks) (List.map_congr_left fun f _ => ?_)
    unfold faceSet
    congr 1
    by_cases hmin : a.gmin = s.blocks.chain.ambient.gmin <;> by_cases hmax : a.gmax = s.blocks.chain.ambient.gmax <;> simp [hmin, hmax]
  · rw [exec_configureSchedule hasks, configureSchedule_outside s.blocks hout]
  · subst hl hh
    refine ⟨_, by rw [exec_configureSchedule hasks, configureSchedule_within s.blocks hlead hhandover], ?_⟩
    generalize lead.getD s.blocks.armLead = l
    generalize handover.getD s.blocks.chain.defaultHandover = h
    by_cases hsame : l = s.blocks.armLead
    · rw [if_pos hsame]
      exact ⟨rfl, rfl, rfl, rfl, rfl, fun e he _ => he, fun _ => rfl, fun hne => absurd hsame hne⟩
    · rw [if_neg hsame]
      have harming := armDue_arming (scheduleSet l h s.blocks)
      obtain ⟨ns, hupcoming, -⟩ := armDue_upcoming (scheduleSet l h s.blocks)
      refine ⟨harming.armLead, harming.chain, harming.bookings, harming.active, ?_, fun e he harmed => ?_,
        fun h => absurd h hsame, fun _ now hnow e he hlead hdue => ?_⟩
      · rw [hupcoming, List.map_map]
        exact List.map_congr_left fun e _ => armedAmong_armed ns e
      · rw [hupcoming]
        exact List.mem_map.2 ⟨e, he, armedAmong_of_armed ns harmed⟩
      · exact armDue_arms (b := scheduleSet l h s.blocks) hnow he ((withinLead_iff _ now e).2 ⟨hlead, hdue⟩)

end Sys2Proof.Machine

/-! PROOFS. The completion of a render: obligation O38. -/

namespace Sys2Proof.Machine

/-! ## The zones that a render reaches (R92) -/

theorem renderZone_reachNext (b a : Blocks) (fl : Flight) (z : Nat) (c : Zone) :
    renderZone b (reachNext a fl) z c = renderZone b fl z c := rfl

/-- A render that goes on writes the results of the numbers it reaches, and keeps the others. -/
theorem reachMany_result (b : Blocks) (n : Nat) (fl : Flight) (z : Nat) (hz : z < fl.results.length) :
    (reachMany b n fl).results[z]? =
      if fl.nextZone ≤ z ∧ z < fl.nextZone + n then some ((b.zone? z).map (renderZone b fl z)) else fl.results[z]? := by
  induction n generalizing fl with
  | zero =>
    rw [if_neg (by omega)]
    rfl
  | succ n ih =>
    have hlength : (reachNext b fl).results.length = fl.results.length := List.length_set
    have hnext : (reachNext b fl).nextZone = fl.nextZone + 1 := rfl
    have hsame : (b.zone? z).map (renderZone b (reachNext b fl) z) = (b.zone? z).map (renderZone b fl z) := rfl
    have hwritten : (reachNext b fl).results[z]? =
        if fl.nextZone = z then some ((b.zone? z).map (renderZone b fl z)) else fl.results[z]? := by
      show (fl.results.set fl.nextZone _)[z]? = _
      rw [List.getElem?_set]
      by_cases hhere : fl.nextZone = z
      · rw [if_pos hhere, if_pos hhere, if_pos (by omega), hhere]
      · rw [if_neg hhere, if_neg hhere]
    show (reachMany b n (reachNext b fl)).results[z]? = _
    rw [ih _ (by rw [hlength]; exact hz), hnext, hsame, hwritten]
    by_cases hhere : fl.nextZone = z
    · rw [if_neg (by omega), if_pos hhere, if_pos (by omega)]
    · rw [if_neg hhere]
      by_cases hafter : fl.nextZone + 1 ≤ z ∧ z < fl.nextZone + 1 + n
      · rw [if_pos hafter, if_pos (by omega)]
      · rw [if_neg hafter, if_neg (by omega)]

/-! ## The scale that fits a budget (R100) -/

theorem loadAt_zero (channels : List (Nat × Nat)) : loadAt 0 channels = 0 := by
  unfold loadAt
  have hzero : channels.map (fun p => p.1 * 0 / 1024 * p.2 / 1000) = channels.map (fun _ => 0) :=
    List.map_congr_left fun p _ => by simp
  rw [hzero, List.map_const', List.sum_replicate, smul_zero]

theorem fitScale_le (channels : List (Nat × Nat)) (budget : Nat) : ∀ n, fitScale channels budget n ≤ n
  | 0 => le_refl 0
  | n + 1 => by
    unfold fitScale
    split
    · exact le_refl _
    · exact (fitScale_le channels budget n).trans (Nat.le_succ n)

theorem loadAt_fitScale_le (channels : List (Nat × Nat)) (budget : Nat) :
    ∀ n, loadAt (fitScale channels budget n) channels ≤ budget
  | 0 => by
    show loadAt 0 channels ≤ budget
    rw [loadAt_zero]
    exact Nat.zero_le _
  | n + 1 => by
    unfold fitScale
    split
    · assumption
    · exact loadAt_fitScale_le channels budget n

/-- No larger scale up to the candidate fits. -/
theorem le_fitScale {channels : List (Nat × Nat)} {budget m : Nat} (hfits : loadAt m channels ≤ budget) :
    ∀ {n : Nat}, m ≤ n → m ≤ fitScale channels budget n
  | 0, h => h
  | n + 1, h => by
    unfold fitScale
    split
    · exact h
    · next hover =>
      have hbelow : m ≠ n + 1 := fun he => hover (he ▸ hfits)
      exact le_fitScale hfits (by omega)

section
variable {results : List (Option ZoneResult)} {f budget : Nat}

theorem feederBudget_unlit (h : hasLit results f = false) : feederBudget results f budget = (1024, 0) := by
  unfold feederBudget
  rw [h]
  rfl

theorem feederBudget_none (h : hasLit results f = true) : feederBudget results f 0 = (0, 0) := by
  unfold feederBudget
  rw [h]
  rfl

theorem feederBudget_within (h : hasLit results f = true) (hbudget : 0 < budget)
    (hdemand : loadAt 1024 (feederChannels results f) ≤ budget) :
    feederBudget results f budget = (1024, loadAt 1024 (feederChannels results f)) := by
  unfold feederBudget
  rw [h]
  exact (if_neg Bool.false_ne_true).trans ((if_neg (by omega)).trans (if_pos hdemand))

theorem feederBudget_above (h : hasLit results f = true) (hbudget : 0 < budget)
    (hdemand : budget < loadAt 1024 (feederChannels results f)) :
    feederBudget results f budget =
      (fitScale (feederChannels results f) budget (budget * 1024 / loadAt 1024 (feederChannels results f)),
        loadAt (fitScale (feederChannels results f) budget (budget * 1024 / loadAt 1024 (feederChannels results f)))
          (feederChannels results f)) := by
  unfold feederBudget
  rw [h]
  exact (if_neg Bool.false_ne_true).trans ((if_neg (by omega)).trans (if_neg (by omega)))

/-- In each of the four cases the load stays within the budget and the scale within 1,024. -/
theorem feederBudget_bounds (results : List (Option ZoneResult)) (f budget : Nat) :
    (feederBudget results f budget).2 ≤ budget ∧ (feederBudget results f budget).1 ≤ 1024 := by
  cases hlit : hasLit results f with
  | false => rw [feederBudget_unlit hlit]; exact ⟨Nat.zero_le _, le_refl _⟩
  | true =>
    obtain rfl | hbudget := Nat.eq_zero_or_pos budget
    · rw [feederBudget_none hlit]; exact ⟨le_refl _, by omega⟩
    · obtain hdemand | hdemand := le_or_gt (loadAt 1024 (feederChannels results f)) budget
      · rw [feederBudget_within hlit hbudget hdemand]; exact ⟨hdemand, le_refl _⟩
      · rw [feederBudget_above hlit hbudget hdemand]
        refine ⟨loadAt_fitScale_le _ _ _, (fitScale_le _ _ _).trans ?_⟩
        exact Nat.div_le_of_le_mul (by nlinarith)

end

theorem hasLit_iff (results : List (Option ZoneResult)) (f : Nat) :
    hasLit results f = true ↔
      ∃ (z : Nat) (l watts : Levels) (layout : Layout) (tok : Token) (src : Option TakenHolder) (ended : Bool),
        results[z]? = some (some (ZoneResult.lit l layout tok f watts src ended)) := by
  unfold hasLit
  rw [List.any_eq_true]
  constructor
  · rintro ⟨x, hx, hlit⟩
    obtain ⟨z, hz⟩ := List.mem_iff_getElem?.1 hx
    cases x with
    | none => cases hlit
    | some r =>
      cases r with
      | noLevels => cases hlit
      | tripped => cases hlit
      | lit l layout tok g watts src ended =>
        obtain rfl : g = f := of_decide_eq_true hlit
        exact ⟨z, l, watts, layout, tok, src, ended, hz⟩
  · rintro ⟨z, l, watts, layout, tok, src, ended, hz⟩
    exact ⟨_, List.mem_of_getElem? hz, decide_eq_true rfl⟩

/-! ## The feeders' records (R93 step 4) -/

theorem recordScale_eq (f scale load : Nat) (b : Blocks) :
    recordScale f scale load b =
      if decide (scale < 1024) ≠ decide ((b.feeder f).scale < 1024)
      then (b.updateFeeder f (fun x => { x with scale := scale, load := load })).report (.feeder f) .scalingChanged
      else b.updateFeeder f (fun x => { x with scale := scale, load := load }) := by
  unfold recordScale
  simp only [bne_iff_ne, ne_eq]

/-- Only the feeders' records and the Notice List may differ. -/
def TouchesRecords (a b : Blocks) : Prop := b = { a with feeders := b.feeders, notices := b.notices }

theorem TouchesRecords.refl (b : Blocks) : TouchesRecords b b := rfl

theorem TouchesRecords.trans {a b c : Blocks} (h : TouchesRecords a b) (k : TouchesRecords b c) : TouchesRecords a c := by
  unfold TouchesRecords at *; rw [k, h]

theorem report_records (b : Blocks) (r : RecordId) (k : ChangeKind) : TouchesRecords b (b.report r k) := by
  unfold TouchesRecords Blocks.report Blocks.submit; split <;> rfl

theorem recordScale_touches (f scale load : Nat) (b : Blocks) : TouchesRecords b (recordScale f scale load b) := by
  have hset : ∀ g, TouchesRecords b (b.updateFeeder f g) := fun _ => rfl
  rw [recordScale_eq]
  split
  · exact (hset _).trans (report_records _ _ _)
  · exact hset _

theorem recordScale_feeder (f scale load : Nat) (b : Blocks) (y : Nat) :
    (recordScale f scale load b).feeder y = (b.updateFeeder f (fun x => { x with scale := scale, load := load })).feeder y := by
  rw [recordScale_eq]
  split
  · exact feeder_congr (by simp) y
  · rfl

theorem updateFeeder_feeder_other {f y : Nat} (h : y ≠ f) (g : Feeder → Feeder) (b : Blocks) :
    (b.updateFeeder f g).feeder y = b.feeder y := by
  unfold Blocks.feeder
  show (b.feeders.set f _).getD y resetFeeder = _
  rw [List.getD_eq_getElem?_getD, List.getElem?_set, if_neg (fun e => h e.symm), ← List.getD_eq_getElem?_getD]

theorem recordScale_feeder_other {f y : Nat} (h : y ≠ f) (scale load : Nat) (b : Blocks) :
    (recordScale f scale load b).feeder y = b.feeder y := by
  rw [recordScale_feeder, updateFeeder_feeder_other h]

theorem recordScale_length (f scale load : Nat) (b : Blocks) : (recordScale f scale load b).feeders.length = b.feeders.length := by
  rw [recordScale_eq]
  split
  · simp
  · simp

section
variable {p : Nat → Nat × Nat} {l : List Nat} (hl : l.Nodup) (b : Blocks)
include hl

theorem recordScales_feeder (hlt : ∀ f ∈ l, f < b.feeders.length) (f : Nat) :
    (forEach l (fun f x => recordScale f (p f).1 (p f).2 x) b).feeder f =
      if f ∈ l then { b.feeder f with scale := (p f).1, load := (p f).2 } else b.feeder f := by
  have hread := forEach_read (read := fun f x => (x.feeder f, x.feeders.length)) (op := fun f x => recordScale f (p f).1 (p f).2 x)
    (fun f x => recordScale_touches f (p f).1 (p f).2 x) ?_ ?_ hl f b
  · have hfeeder := congrArg Prod.fst hread
    simp only at hfeeder
    rw [hfeeder]
    by_cases hf : f ∈ l
    · rw [if_pos hf, if_pos hf]
      exact (recordScale_feeder f _ _ b f).trans (updateFeeder_feeder_self b f _ (hlt f hf))
    · rw [if_neg hf, if_neg hf]
  · intro f y x hy
    rw [recordScale_feeder_other hy, recordScale_length]
  · intro f a c _ hsame
    obtain ⟨hfeeder, hlength⟩ := Prod.mk.inj hsame
    rw [recordScale_length, recordScale_length, recordScale_feeder, recordScale_feeder, hlength]
    congr 1
    by_cases hf : f < a.feeders.length
    · rw [updateFeeder_feeder_self a f _ hf, updateFeeder_feeder_self c f _ (hlength ▸ hf), hfeeder]
    · have hnone : ∀ x : Blocks, ¬f < x.feeders.length → ∀ g, (x.updateFeeder f g).feeder f = x.feeder f := fun x hx g => by
        unfold Blocks.feeder
        show (x.feeders.set f _).getD f resetFeeder = _
        rw [List.set_eq_of_length_le (not_lt.1 hx)]
      rw [hnone a hf, hnone c (hlength ▸ hf), hfeeder]

/-- A feeder that begins or ceases to be scaling is reported. -/
theorem recordScales_told {f : Nat} (hf : f ∈ l) (hchanged : decide ((p f).1 < 1024) ≠ decide ((b.feeder f).scale < 1024)) :
    Told (forEach l (fun f x => recordScale f (p f).1 (p f).2 x) b) (.feeder f) .scalingChanged := by
  induction l generalizing b with
  | nil => exact absurd hf List.not_mem_nil
  | cons y l ih =>
    obtain ⟨hy, hl⟩ := List.nodup_cons.1 hl
    rw [forEach_cons]
    by_cases hhere : f = y
    · subst hhere
      refine forEach_keeps (P := fun x => Told x (.feeder f) .scalingChanged) (fun g x hx => ?_) l _ ?_
      · rw [recordScale_eq]
        split
        · exact submit_keeps_told (b := x.updateFeeder g _) hx _ _ _
        · exact hx
      · rw [recordScale_eq, if_pos hchanged]
        exact report_told _ _ _
    · have hin : f ∈ l := (List.mem_cons.1 hf).resolve_left hhere
      exact ih hl _ hin (by rw [recordScale_feeder_other hhere]; exact hchanged)

/-- With no feeder's scaling changed nothing is reported. -/
theorem recordScales_quiet (hquiet : ∀ f ∈ l, decide ((p f).1 < 1024) = decide ((b.feeder f).scale < 1024)) :
    (forEach l (fun f x => recordScale f (p f).1 (p f).2 x) b).notices = b.notices := by
  induction l generalizing b with
  | nil => rfl
  | cons y l ih =>
    obtain ⟨hy, hl⟩ := List.nodup_cons.1 hl
    rw [forEach_cons, ih hl, recordScale_eq, if_neg (not_not.2 (hquiet y List.mem_cons_self))]
    · rfl
    · intro f hf
      have hother : f ≠ y := fun he => hy (he ▸ hf)
      rw [recordScale_feeder_other hother]
      exact hquiet f (List.mem_cons_of_mem y hf)

end

/-! ## The completion (R93) -/

/-- A feeder's scale and load from the results of a render. -/
def scaleOf (b : Blocks) (rs : List (Option ZoneResult)) (f : Nat) : Nat × Nat := feederBudget rs f (b.feeder f).budget

/-- A result under its feeder's scale and the completion check. -/
def finished (b : Blocks) (rs : List (Option ZoneResult)) (x : ZoneResult) : ZoneResult :=
  checkCurfew b (scaleResult (allFeeders.map (fun f => (scaleOf b rs f).1)) x)

/-- The blocks of a completion before the feeders' records are written. -/
def renderWritten (b : Blocks) (fl : Flight) (rs : List (Option ZoneResult)) : Blocks :=
  { b with
    chain := { b.chain with flight := none, latest := (rs.map (Option.map (finished b rs))).map (fun x => (x.map resultOut).getD .absent) }
    risers := b.risers.map (fun r => { r with newRender := true })
    zones := allZones.map (fun z => (b.zone? z).map (completeZone fl (rs.map (Option.map (finished b rs))) z)) }

/-- The results of a whole render, of the zones that are configured at its completion. -/
def wholeRender (b : Blocks) (fl : Flight) : List (Option ZoneResult) :=
  allZones.map (fun z => if (b.zone? z).isSome then ((reachMany b (96 - fl.nextZone) fl).results[z]?).join else none)

theorem completeRender_eq {b : Blocks} {fl : Flight} (hflight : b.chain.flight = some fl) :
    completeRender b = forEach allFeeders (fun f x =>
      recordScale f (scaleOf b (wholeRender b fl) f).1 (scaleOf b (wholeRender b fl) f).2 x) (renderWritten b fl (wholeRender b fl)) := by
  unfold completeRender
  rw [hflight]
  rfl

theorem mem_allFeeders {f : Nat} : f ∈ allFeeders ↔ f < 4 := by
  unfold allFeeders
  simp only [List.mem_cons, List.not_mem_nil, or_false]
  omega

theorem allFeeders_nodup : allFeeders.Nodup := by decide

section
variable {b : Blocks} {fl : Flight} (hflight : b.chain.flight = some fl)
include hflight

theorem completeRender_touches : TouchesRecords (renderWritten b fl (wholeRender b fl)) (completeRender b) := by
  rw [completeRender_eq hflight]
  exact forEach_rel TouchesRecords.refl TouchesRecords.trans (fun f x => recordScale_touches f _ _ x) _ _

theorem completeRender_feeder (hsized : b.feeders.length = 4) {f : Nat} (hf : f < 4) :
    (completeRender b).feeder f =
      { b.feeder f with scale := (scaleOf b (wholeRender b fl) f).1, load := (scaleOf b (wholeRender b fl) f).2 } := by
  have hsame : (renderWritten b fl (wholeRender b fl)).feeder f = b.feeder f := rfl
  rw [completeRender_eq hflight, recordScales_feeder allFeeders_nodup _ (fun g hg => ?_), if_pos (mem_allFeeders.2 hf), hsame]
  show g < b.feeders.length
  rw [hsized]
  exact mem_allFeeders.1 hg

theorem completeRender_latestOf (z : Nat) :
    (completeRender b).latestOf z = (((wholeRender b fl)[z]?.join).map (fun x => resultOut (finished b (wholeRender b fl) x))).getD .absent := by
  have hlatest : (completeRender b).latestOf z = (renderWritten b fl (wholeRender b fl)).latestOf z := by
    rw [completeRender_touches hflight]
    rfl
  rw [hlatest]
  unfold Blocks.latestOf renderWritten
  rw [List.getD_eq_getElem?_getD, List.getElem?_map, List.getElem?_map]
  cases (wholeRender b fl)[z]? with
  | none => rfl
  | some x => cases x <;> rfl

theorem completeRender_zone? (hsized : b.zones.length = 96) (z : Nat) :
    (completeRender b).zone? z =
      (b.zone? z).map (completeZone fl ((wholeRender b fl).map (Option.map (finished b (wholeRender b fl)))) z) := by
  have hzone : (completeRender b).zone? z = (renderWritten b fl (wholeRender b fl)).zone? z := by
    rw [completeRender_touches hflight]
    rfl
  rw [hzone]
  unfold renderWritten Blocks.zone?
  rw [List.getElem?_map]
  by_cases hz : z < 96
  · have hrange : allZones[z]? = some z := List.getElem?_range hz
    rw [hrange]
    rfl
  · have hrange : allZones[z]? = none := List.getElem?_eq_none (by show (List.range 96).length ≤ z; rw [List.length_range]; omega)
    rw [hrange, List.getElem?_eq_none (by omega)]
    rfl

end

/-! ## What a result leaves of a zone -/

theorem finished_lit (b : Blocks) (rs : List (Option ZoneResult)) {f : Nat} (hf : f < 4) (l watts : Levels) (layout : Layout)
    (tok : Token) (src : Option TakenHolder) (ended : Bool) :
    finished b rs (.lit l layout tok f watts src ended) =
      .lit (stageCurfew b.chain.windowOpen (b.takenExempt src) b.curfewCeiling
        (Levels.map (fun x => x * (scaleOf b rs f).1 / 1024) l)) layout tok f watts src ended := by
  have hscale : (allFeeders.map (fun f => (scaleOf b rs f).1)).getD f 1024 = (scaleOf b rs f).1 := by
    obtain rfl | rfl | rfl | rfl : f = 0 ∨ f = 1 ∨ f = 2 ∨ f = 3 := by omega
    all_goals rfl
  simp only [finished, scaleResult, hscale, checkCurfew]

theorem resultEnded_finished (b : Blocks) (rs : List (Option ZoneResult)) (x : ZoneResult) :
    resultEnded (finished b rs x) = resultEnded x := by
  cases x <;> rfl

/-- What the latest render holds of a result is what the last dispatched levels take. -/
theorem resultOut_levels {x : ZoneResult} {l : Levels} {tok : Token} (h : resultOut x = .levels l tok) : resultLevels x = l := by
  cases x with
  | noLevels => cases h
  | tripped => cases h; rfl
  | lit m layout t f watts src ended => cases h; rfl

theorem resultOut_noLevels {x : ZoneResult} (h : resultOut x = .noLevels) : resultLevels x = ⟨0, 0, 0, 0⟩ := by
  cases x with
  | noLevels => rfl
  | tripped => cases h
  | lit m layout t f watts src ended => cases h

theorem resultOut_ne_absent (x : ZoneResult) : resultOut x ≠ .absent := by
  cases x <;> exact nofun

theorem keptHandover_at_end {fl : Flight} {h : Handover} (hend : h.start + h.length ≤ fl.instant) (z : Nat) (ended : Bool) :
    keptHandover fl z ended (some h) = none := if_pos hend

section
variable {fl : Flight} {h : Handover} (hruns : fl.instant < h.start + h.length) (z : Nat)
include hruns

theorem keptHandover_rewritten (hz : z ∈ fl.rewritten) (ended : Bool) : keptHandover fl z ended (some h) = some h := by
  refine (if_neg (by omega)).trans (if_neg ?_)
  rw [decide_eq_true hz, Bool.not_true, Bool.and_false]
  exact Bool.false_ne_true

theorem keptHandover_running : keptHandover fl z false (some h) = some h := (if_neg (by omega)).trans (if_neg Bool.false_ne_true)

theorem keptHandover_ended (hz : z ∉ fl.rewritten) : keptHandover fl z true (some h) = none := by
  refine (if_neg (by omega)).trans (if_pos ?_)
  rw [decide_eq_false hz]
  rfl

end

theorem capped_of_lowered {isOpen exempt : Bool} {k : Nat} (hopen : isOpen = true) (hexempt : exempt = false) (l : Levels) :
    Capped k (stageCurfew isOpen exempt k l) := by
  rw [hopen, hexempt]
  exact capLevels_capped k l

theorem dark_capped (k : Nat) : Capped k dark := ⟨Nat.zero_le _, Nat.zero_le _, Nat.zero_le _, Nat.zero_le _⟩

/-- A taken holder is exempt only by a booking that carries Exempt. -/
theorem takenExempt_of_none_exempt {b : Blocks} (hnone : ∀ k ∈ b.bookings, k.fields.exempt = false) (src : Option TakenHolder) :
    b.takenExempt src = false := by
  cases src with
  | none => rfl
  | some t =>
    cases hk : b.takenBooking? t with
    | none => simp only [Blocks.takenExempt, hk]
    | some k =>
      have hmem : k ∈ b.bookings := by
        unfold Blocks.takenBooking? at hk
        cases hbooking : b.booking? t.number with
        | none => rw [hbooking] at hk; cases hk
        | some x =>
          simp only [hbooking, Option.ite_none_right_eq_some, Option.some.injEq] at hk
          exact hk.2 ▸ List.mem_of_find?_eq_some hbooking
      simp only [Blocks.takenExempt, hk, hnone k hmem]

/-- The source that stage 1 finds is the taken holder, or none. -/
theorem stageLook_source (b : Blocks) (panelHold : Bool) (taken : Option TakenHolder) (c : Zone) :
    (stageLook b panelHold taken c).source = none ∨
      (panelHold = false ∧ (stageLook b panelHold taken c).source = taken) := by
  cases panelHold with
  | true => exact .inl rfl
  | false =>
    cases taken with
    | none => exact .inl rfl
    | some t =>
      cases hk : b.takenBooking? t with
      | none => exact .inl (by rw [stageLook_of_freed hk]; rfl)
      | some k =>
        by_cases hready : ∃ p, b.program k.fields.program = .ready p
        · obtain ⟨p, hp⟩ := hready
          exact .inr ⟨rfl, by rw [stageLook_of_ready hk hp]⟩
        · exact .inl (by rw [stageLook_of_unready hk (fun p hp => hready ⟨p, hp⟩)]; rfl)

/-! ## The results of a render -/

section
variable {b : Blocks} {fl : Flight}

theorem wholeRender_of_none {z : Nat} (hz : z < 96) (hnone : b.zone? z = none) : (wholeRender b fl)[z]? = some none := by
  unfold wholeRender
  rw [List.getElem?_map, show allZones[z]? = some z from List.getElem?_range hz, Option.map_some, hnone]
  rfl

theorem wholeRender_lt {z : Nat} {x : Option ZoneResult} (h : (wholeRender b fl)[z]? = some x) : z < 96 := by
  by_contra hz
  unfold wholeRender at h
  have hrange : allZones[z]? = none := List.getElem?_eq_none (by show (List.range 96).length ≤ z; rw [List.length_range]; omega)
  rw [List.getElem?_map, hrange] at h
  cases h

/-- A render that no zone number was reached of before its completion takes every configured zone as it stands. -/
theorem wholeRender_of_some (hfirst : fl.nextZone = 0) (hlength : fl.results.length = 96) {z : Nat} {c : Zone} (hz : z < 96)
    (hc : b.zone? z = some c) : (wholeRender b fl)[z]? = some (some (renderZone b fl z c)) := by
  have hreached := reachMany_result b 96 fl z (by omega)
  rw [if_pos (by omega), hc] at hreached
  unfold wholeRender
  rw [List.getElem?_map, show allZones[z]? = some z from List.getElem?_range hz, Option.map_some, hc, hfirst, hreached]
  rfl

end

section
variable {b : Blocks} {fl : Flight} (hflight : b.chain.flight = some fl)
include hflight

theorem latestOf_of_result {z : Nat} {x : ZoneResult} (h : (wholeRender b fl)[z]? = some (some x)) :
    (completeRender b).latestOf z = resultOut (finished b (wholeRender b fl) x) := by
  rw [completeRender_latestOf hflight, h]
  rfl

theorem latestOf_of_no_result {z : Nat} (h : (wholeRender b fl)[z]?.join = none) : (completeRender b).latestOf z = .absent := by
  rw [completeRender_latestOf hflight, h]
  rfl

theorem zone?_of_result (hsized : b.zones.length = 96) {z : Nat} {c : Zone} {x : ZoneResult} (hc : b.zone? z = some c)
    (h : (wholeRender b fl)[z]? = some (some x)) :
    (completeRender b).zone? z = some { c with
      last := resultLevels (finished b (wholeRender b fl) x), handover := keptHandover fl z (resultEnded x) c.handover } := by
  rw [completeRender_zone? hflight hsized, hc, Option.map_some, ← resultEnded_finished b (wholeRender b fl)]
  unfold completeZone
  rw [List.getElem?_map, h]
  rfl

theorem zone?_of_no_result (hsized : b.zones.length = 96) {z : Nat} {c : Zone} (hc : b.zone? z = some c)
    (h : (wholeRender b fl)[z]?.join = none) :
    (completeRender b).zone? z = some { c with handover := keptHandover fl z false c.handover } := by
  have hnone : ((wholeRender b fl).map (Option.map (finished b (wholeRender b fl))))[z]?.join = none := by
    rw [List.getElem?_map]
    cases hz : (wholeRender b fl)[z]? with
    | none => rfl
    | some x =>
      rw [hz] at h
      cases x with
      | none => rfl
      | some y => cases h
  rw [completeRender_zone? hflight hsized, hc, Option.map_some]
  unfold completeZone
  rw [hnone]

/-- What a completion leaves of a configured zone, by its result or without one. -/
theorem zone?_completed (hsized : b.zones.length = 96) {z : Nat} {c : Zone} (hc : b.zone? z = some c) :
    ∃ d : Zone, (completeRender b).zone? z = some d ∧ d = { c with last := d.last, handover := d.handover } ∧
      (∀ l tok, (completeRender b).latestOf z = .levels l tok → d.last = l) ∧
      ((completeRender b).latestOf z = .noLevels → d.last = ⟨0, 0, 0, 0⟩) ∧ ((completeRender b).latestOf z = .absent → d.last = c.last) ∧
      ∃ ended : Bool, d.handover = keptHandover fl z ended c.handover ∧
        (ended = true ↔ ∃ (l watts : Levels) (layout : Layout) (tok : Token) (f : Nat) (src : Option TakenHolder),
          (wholeRender b fl)[z]? = some (some (ZoneResult.lit l layout tok f watts src true))) := by
  cases hjoin : (wholeRender b fl)[z]?.join with
  | none =>
    have hout := latestOf_of_no_result hflight hjoin
    refine ⟨_, zone?_of_no_result hflight hsized hc hjoin, rfl, fun l tok h => ?_, fun h => ?_, fun _ => rfl, false, rfl, ?_⟩
    · rw [hout] at h; cases h
    · rw [hout] at h; cases h
    · refine ⟨fun h => absurd h Bool.false_ne_true, ?_⟩
      rintro ⟨l, watts, layout, tok, f, src, hlit⟩
      rw [hlit] at hjoin
      cases hjoin
  | some x =>
    have hx : (wholeRender b fl)[z]? = some (some x) := Option.join_eq_some_iff.1 hjoin
    have hout := latestOf_of_result hflight hx
    refine ⟨_, zone?_of_result hflight hsized hc hx, rfl, fun l tok h => resultOut_levels (hout.symm.trans h),
      fun h => resultOut_noLevels (hout.symm.trans h), fun h => absurd (hout.symm.trans h) (resultOut_ne_absent _),
      resultEnded x, rfl, ?_⟩
    rw [hx]
    cases x with
    | noLevels => simp [resultEnded]
    | tripped => simp [resultEnded]
    | lit l layout tok f watts src ended => simp [resultEnded, and_comm]

/-- Under an open window the levels of a zone are capped, unless the source that its render found is exempt. -/
theorem latestOf_capped (hopen : b.chain.windowOpen = true) {z : Nat} {l : Levels} {tok : Token}
    (hout : (completeRender b).latestOf z = .levels l tok)
    (hexempt : ∀ (m watts : Levels) (layout : Layout) (t : Token) (f : Nat) (src : Option TakenHolder) (ended : Bool),
      (wholeRender b fl)[z]? = some (some (.lit m layout t f watts src ended)) → b.takenExempt src = false) :
    Capped b.curfewCeiling l := by
  cases hjoin : (wholeRender b fl)[z]?.join with
  | none => rw [latestOf_of_no_result hflight hjoin] at hout; cases hout
  | some x =>
    have hx : (wholeRender b fl)[z]? = some (some x) := Option.join_eq_some_iff.1 hjoin
    rw [latestOf_of_result hflight hx] at hout
    cases x with
    | noLevels => cases hout
    | tripped => cases hout; exact dark_capped _
    | lit m layout t f watts src ended =>
      cases hout
      exact capped_of_lowered hopen (hexempt m watts layout tok f src ended hx) _

end

theorem exec_renderCompletion (s : State) : exec .renderCompletion s = .next { s with blocks := completeRender s.blocks } :=
  exec_event rfl rfl s

/-- A zone that the completion itself reaches takes its class of then, and its handover is at its end only by a change of layout. -/
theorem zone?_reached_at_completion {b : Blocks} {fl : Flight} (hflight : b.chain.flight = some fl) (hsized : b.zones.length = 96)
    (hfirst : fl.nextZone = 0) (hlength : fl.results.length = 96) {z : Nat} {c : Zone} (hc : b.zone? z = some c) :
    (wholeRender b fl)[z]? = some (some (renderZone b fl z c)) ∧
    ((c.isProtected = true ∨ c.node.live = false) → (completeRender b).latestOf z = .noLevels) ∧
    (∀ h, c.handover = some h → fl.instant < h.start + h.length →
      (∀ x, fl.handovers[z]? = some (some x) → x.layout = c.layout) →
      ∃ d, (completeRender b).zone? z = some d ∧ d.handover = some h) ∧
    (c.isProtected = false → c.node.live = true → ∃ l tok, (completeRender b).latestOf z = .levels l tok ∧
      ((b.feeder c.feeder).tripped = true → l = ⟨0, 0, 0, 0⟩) ∧
      (b.chain.windowOpen = true →
        (fl.panelHold = true ∨ b.takenExempt ((fl.holders[z]?).join) = false) → Capped b.curfewCeiling l) ∧
      (∀ h, (b.feeder c.feeder).tripped = false → fl.handovers[z]? = some (some h) → h.layout ≠ c.layout →
        z ∉ fl.rewritten → (completeRender b).zone? z = some { c with last := l, handover := none })) := by
  have hz : z < 96 := hsized ▸ zone?_lt b hc
  have hresult := wholeRender_of_some hfirst hlength hz hc
  have hout := latestOf_of_result hflight hresult
  have hzone := zone?_of_result hflight hsized hc hresult
  refine ⟨hresult, fun hhidden => ?_, fun h hh hruns hlayout => ⟨_, hzone, ?_⟩, fun hshown hlive => ?_⟩
  · rw [hout, renderZone_no_levels hhidden]
    rfl
  · have hnotended : resultEnded (renderZone b fl z c) = false := by
      by_cases hhidden : c.isProtected = true ∨ c.node.live = false
      · rw [renderZone_no_levels hhidden]
        rfl
      · rw [not_or, Bool.not_eq_true, Bool.not_eq_false] at hhidden
        cases htripped : (b.feeder c.feeder).tripped with
        | true => rw [renderZone_tripped hhidden.1 hhidden.2 htripped]; rfl
        | false =>
          rw [renderZone_lit hhidden.1 hhidden.2 htripped]
          show (stageHandover fl.instant ((fl.handovers[z]?).join) c.layout _).2 = false
          cases htaken : (fl.handovers[z]?).join with
          | none => rfl
          | some x => rw [stageHandover_of_same_layout (hlayout x (Option.join_eq_some_iff.1 htaken))]
    show keptHandover fl z (resultEnded (renderZone b fl z c)) c.handover = some h
    rw [hnotended, hh, keptHandover_running hruns]
  · cases htripped : (b.feeder c.feeder).tripped with
    | true =>
      rw [renderZone_tripped hshown hlive htripped] at hout
      exact ⟨dark, .plain, hout, fun _ => rfl, fun _ _ => dark_capped _, fun _ h => by cases h⟩
    | false =>
      rw [renderZone_lit hshown hlive htripped] at hout hzone hresult
      refine ⟨_, _, hout, nofun, fun hopen hsource => ?_, fun h _ hh hlayout hz => ?_⟩
      · refine latestOf_capped hflight hopen hout fun m watts layout t f src ended hlit => ?_
        have hsrc : src = (stageLook b fl.panelHold ((fl.holders[z]?).join) c).source := by
          have hsame := Option.some.inj (Option.some.inj (hlit.symm.trans hresult))
          unfold litZone at hsame
          injection hsame
        obtain hnone | ⟨hheld, htaken⟩ := stageLook_source b fl.panelHold ((fl.holders[z]?).join) c
        · rw [hsrc, hnone]
          rfl
        · obtain hpanel | hnot := hsource
          · rw [hheld] at hpanel; cases hpanel
          · rw [hsrc, htaken, hnot]
      · have hended : resultEnded (litZone b fl z c) = true := by
          show (stageHandover fl.instant ((fl.handovers[z]?).join) c.layout _).2 = true
          rw [hh, Option.join_some, stageHandover_of_other_layout hlayout]
        rw [hzone, hended]
        cases hhandover : c.handover with
        | none => rfl
        | some x =>
          have hcleared : keptHandover fl z true (some x) = none := by
            by_cases hend : x.start + x.length ≤ fl.instant
            · exact keptHandover_at_end hend z true
            · exact keptHandover_ended (not_le.1 hend) z hz
          rw [hcleared]
          rfl

/-- Settles O38: the whole render's results are `wholeRender`, the feeders' records `feederBudget` and the zones' `zone?_completed`. -/
theorem renderCompletionKeepsBudgetAndCurfew : Obligations.RenderCompletionKeepsBudgetAndCurfew := by
  unfold Obligations.RenderCompletionKeepsBudgetAndCurfew
  intro s fl rs hflight hsized hrs
  have hwhole : rs = wholeRender s.blocks fl := hrs
  clear hrs
  subst hwhole
  have hframe := completeRender_touches hflight
  refine ⟨_, exec_renderCompletion s, rfl, ?_, fun f hf was now channels demand hwas hnow hchannels hdemand => ?_, fun hquiet => ?_,
    fun n channels => rfl, hasLit_iff _, fun z f l watts layout tok src ended hf hlit => ?_, fun z htripped => ?_, fun z hdark => ?_,
    fun hopen hexempt z l tok hout => ?_, fun z hnone hz => ?_, fun z c hc => ?_, fun z c hfirst hlength hc => ?_⟩
  · show completeRender s.blocks = _
    generalize completeRender s.blocks = t at hframe ⊢
    rw [hframe]
    rfl
  · have hrecord := completeRender_feeder hflight hsized.2.2.2.1 hf
    subst hwas hchannels hdemand
    obtain rfl : now = _ := hnow.trans hrecord
    obtain ⟨hload, hscale⟩ := feederBudget_bounds (wholeRender s.blocks fl) f (s.blocks.feeder f).budget
    refine ⟨rfl, hload, hscale, fun hunlit => ?_, fun hlit hbudget => ?_, fun hlit hbudget hwithin => ?_, fun hlit hbudget habove => ?_,
      fun hchanged => ?_⟩
    · have h := feederBudget_unlit (budget := (s.blocks.feeder f).budget) hunlit
      exact ⟨congrArg Prod.fst h, congrArg Prod.snd h⟩
    · have h := feederBudget_none hlit
      rw [← hbudget] at h
      exact ⟨(congrArg Prod.fst h).trans hbudget, (congrArg Prod.snd h).trans hbudget⟩
    · have h := feederBudget_within hlit hbudget hwithin
      exact ⟨congrArg Prod.fst h, congrArg Prod.snd h⟩
    · have h := feederBudget_above hlit hbudget habove
      have hscaled : (scaleOf s.blocks (wholeRender s.blocks fl) f).1 = _ := congrArg Prod.fst h
      have hloaded : (scaleOf s.blocks (wholeRender s.blocks fl) f).2 = _ := congrArg Prod.snd h
      refine ⟨?_, ?_, fun n hn hfits => ?_⟩
      · show (scaleOf s.blocks (wholeRender s.blocks fl) f).1 ≤ _
        rw [hscaled]
        exact fitScale_le _ _ _
      · show (scaleOf s.blocks (wholeRender s.blocks fl) f).2 = loadAt (scaleOf s.blocks (wholeRender s.blocks fl) f).1 _
        rw [hloaded, hscaled]
      · show n ≤ (scaleOf s.blocks (wholeRender s.blocks fl) f).1
        rw [hscaled]
        exact le_fitScale hfits hn
    · show Told (completeRender s.blocks) (.feeder f) .scalingChanged
      rw [completeRender_eq hflight]
      exact recordScales_told allFeeders_nodup (renderWritten s.blocks fl _) (mem_allFeeders.2 hf) hchanged
  · show (completeRender s.blocks).notices = s.blocks.notices
    rw [completeRender_eq hflight]
    refine recordScales_quiet allFeeders_nodup (renderWritten s.blocks fl _) fun f hf => ?_
    have hf4 := mem_allFeeders.1 hf
    have hrecord := hquiet f hf4
    rw [completeRender_feeder hflight hsized.2.2.2.1 hf4] at hrecord
    exact hrecord
  · have hout := latestOf_of_result hflight hlit
    rw [finished_lit s.blocks _ hf] at hout
    refine ⟨_, hout, fun g hg => ?_⟩
    have hscaled : ∀ (k : Nat) (m : Levels), g (Levels.map (fun x => x * k / 1024) m) = g m * k / 1024 := by
      intro k m
      simp only [List.mem_cons, List.not_mem_nil, or_false] at hg
      obtain rfl | rfl | rfl | rfl := hg <;> rfl
    rw [stageCurfew_level _ _ _ _ g hg, hscaled, completeRender_feeder hflight hsized.2.2.2.1 hf]
  · exact latestOf_of_result hflight htripped
  · exact latestOf_of_result hflight hdark
  · exact latestOf_capped hflight hopen hout fun _ _ _ _ _ src _ _ => takenExempt_of_none_exempt hexempt src
  · refine ⟨?_, latestOf_of_no_result hflight (by rw [wholeRender_of_none hz hnone]; rfl)⟩
    show (completeRender s.blocks).zone? z = none
    rw [completeRender_zone? hflight hsized.1, hnone]
    rfl
  · obtain ⟨d, hd, hkept, hlevels, hnolevels, habsent, ended, hhandover, hended⟩ := zone?_completed hflight hsized.1 hc
    refine ⟨d, hd, hkept, hlevels, hnolevels, habsent, fun hnone => by rw [hhandover, hnone]; rfl, fun h hh hend => ?_,
      fun h hh hruns => ⟨fun hz => ?_, fun hnotended => ?_, fun hz hlit => ?_⟩⟩
    · rw [hhandover, hh, keptHandover_at_end hend]
    · rw [hhandover, hh, keptHandover_rewritten hruns z hz]
    · have hfalse : ended = false := by
        rw [← Bool.not_eq_true, hended]
        rintro ⟨l, watts, layout, tok, f, src, hlit⟩
        exact hnotended l watts layout tok f src hlit
      rw [hhandover, hh, hfalse, keptHandover_running hruns]
    · rw [hhandover, hh, hended.2 hlit, keptHandover_ended hruns z hz]
  · exact zone?_reached_at_completion hflight hsized.1 hfirst hlength hc

end Sys2Proof.Machine

/-! PROOFS. The Sensor Scan and the trip of a feeder: obligations O58 and O59. -/

namespace Sys2Proof.Machine

/-! ## What a scan stores (R165) -/

theorem exec_sensorScan (c : Fin 8) (x y : BitVec 12) (s : State) :
    exec (.sensorScan c x y) s = .next { s with blocks := scanChannel c.val x.toNat y.toNat s.blocks } := exec_event rfl rfl s

/-- R165: two conversions more than 16 apart give no sample. -/
theorem spread_iff (x y : Nat) : Config.conversionSpread < conversionDiff x y ↔ x + 16 < y ∨ y + 16 < x := by
  show 16 < (x - y) + (y - x) ↔ _
  omega

section
variable {c x y : Nat} {b : Blocks} {ch : Channel} (hscans : b.scan.calibrating = false) (hch : b.scan.channels[c]? = some ch)

include hch in
theorem storeScan_eq (latest : Option Nat) (age : Nat) :
    storeScan c latest age b = { b with
      ownUs := max b.ownUs ch.nextScan
      scan := { b.scan with channels := b.scan.channels.set c ⟨latest, age, max b.ownUs ch.nextScan + 250000⟩ } } := by
  rw [← channel_of_getElem? hch]
  rfl

include hscans hch in
theorem scanChannel_dropped (hspread : x + 16 < y ∨ y + 16 < x) :
    scanChannel c x y b = storeScan c ch.latest (min 255 (ch.age + 1)) b := by
  have hdropped : ¬conversionDiff x y ≤ Config.conversionSpread := not_le.2 ((spread_iff x y).2 hspread)
  rw [← channel_of_getElem? hch]
  exact (if_neg (by rw [hscans]; exact Bool.false_ne_true)).trans (if_neg hdropped)

include hscans in
theorem scanChannel_taken (hx : x ≤ y + 16) (hy : y ≤ x + 16) :
    scanChannel c x y b =
      if c < 4 then ambientSample c ((x + y) / 2) (storeScan c (some ((x + y) / 2)) 0 b)
      else currentSample (c - 4) ((x + y) / 2) (storeScan c (some ((x + y) / 2)) 0 b) := by
  have htaken : conversionDiff x y ≤ Config.conversionSpread := not_lt.1 (fun h => by have := (spread_iff x y).1 h; omega)
  exact (if_neg (by rw [hscans]; exact Bool.false_ne_true)).trans (if_pos htaken)

end

/-! ## Ambient samples (R105) -/

theorem face_of_getElem? {b : Blocks} {c : Nat} {f : Face} (h : b.chain.faces[c]? = some f) : b.face c = f := by
  unfold Blocks.face
  rw [List.getD_eq_getElem?_getD, h, Option.getD_some]

/-- The blocks with a face's record written. -/
def faceWritten (c : Nat) (f : Face) (b : Blocks) : Blocks := { b with chain := { b.chain with faces := b.chain.faces.set c f } }

theorem ambientSample_eq (c code : Nat) (b : Blocks) :
    ambientSample c code b = faceWritten c
      (if (b.face c).count + 1 = 16 then ambientUpdate b.chain.ambient (((b.face c).sum + code) / 16) (b.face c)
        else { b.face c with sum := (b.face c).sum + code, count := (b.face c).count + 1 }) b := rfl

section
variable {b : Blocks} {c : Nat} {f : Face} (hf : b.chain.faces[c]? = some f) (code : Nat)
include hf

theorem ambientSample_joins (hcount : f.count < 15) :
    ambientSample c code b = faceWritten c { f with sum := f.sum + code, count := f.count + 1 } b := by
  rw [ambientSample_eq, face_of_getElem? hf, if_neg (by omega)]

theorem ambientSample_completes (hcount : f.count = 15) :
    ambientSample c code b = faceWritten c (ambientUpdate b.chain.ambient ((f.sum + code) / 16) f) b := by
  rw [ambientSample_eq, face_of_getElem? hf, if_pos (by omega)]

end

/-- R105: under glare the 16th sample only ends the accumulation, else it moves the gain within its limits. -/
theorem ambientUpdate_eq (a : Ambient) (average : Nat) (f : Face) :
    ambientUpdate a average f =
      if 4000 ≤ average then { f with sum := 0, count := 0 }
      else { gain := clampGain a.gmin a.gmax ((f.gain : Int) +
              Int.tdiv (((average : Int) - a.aref) * ((if 0 < f.settle then a.sFast else a.sSlow : Nat) : Int)) 256),
             settle := f.settle - 1, sum := 0, count := 0 } := rfl

theorem clampGain_bounds {lo hi : Nat} (h : lo ≤ hi) (g : Int) : lo ≤ clampGain lo hi g ∧ clampGain lo hi g ≤ hi := by
  unfold clampGain
  omega

/-! ## Current samples (R168) -/

section
variable {f code : Nat} {b : Blocks}

theorem currentSample_tripped (h : (b.feeder f).tripped = true) : currentSample f code b = b := if_pos h

theorem currentSample_below (hnormal : (b.feeder f).tripped = false) (hmark : code ≤ (b.feeder f).tripMark) :
    currentSample f code b = b.updateFeeder f (fun x => { x with overCount := 0 }) := by
  have hzero : overCountAfter f code b = 0 := if_neg (not_lt.2 hmark)
  have hcounted : currentSample f code b = countSample f code b :=
    (if_neg (by rw [hnormal]; exact Bool.false_ne_true)).trans (if_neg (by rw [← overCountAfter, hzero]; omega))
  rw [hcounted, countSample, hzero]

theorem currentSample_over (hnormal : (b.feeder f).tripped = false) (hmark : (b.feeder f).tripMark < code)
    (hfew : (b.feeder f).overCount < 2) :
    currentSample f code b = b.updateFeeder f (fun x => { x with overCount := (b.feeder f).overCount + 1 }) := by
  have hnext : overCountAfter f code b = (b.feeder f).overCount + 1 := if_pos hmark
  have hcounted : currentSample f code b = countSample f code b :=
    (if_neg (by rw [hnormal]; exact Bool.false_ne_true)).trans (if_neg (by rw [← overCountAfter, hnext]; omega))
  rw [hcounted, countSample, hnext]

theorem currentSample_third (hnormal : (b.feeder f).tripped = false) (hmark : (b.feeder f).tripMark < code)
    (hmany : 2 ≤ (b.feeder f).overCount) :
    currentSample f code b = tripFeeder f (b.updateFeeder f (fun x => { x with overCount := (b.feeder f).overCount + 1 })) := by
  have hnext : overCountAfter f code b = (b.feeder f).overCount + 1 := if_pos hmark
  have htrips : currentSample f code b = tripFeeder f (countSample f code b) :=
    (if_neg (by rw [hnormal]; exact Bool.false_ne_true)).trans (if_pos (by rw [← overCountAfter, hnext]; omega))
  rw [htrips, countSample, hnext]

end

/-- Settles O58: each clause is one way in which a scan is taken. -/
theorem scansTakeSamples : Obligations.ScansTakeSamples := by
  unfold Obligations.ScansTakeSamples
  refine ⟨fun s hcal => ?_, fun s c x y ch own hscans hch hown hspread => ?_,
    fun s c x y ch f own hscans hch hc hf hcount hown hx hy => ?_,
    fun s c x y ch own hscans hch hc hnormal hown hx hy hmark => ?_,
    fun s c x y ch f a own code average g hscans hch hc hf hcount hown hx hy hcode haverage ha hg => ?_,
    fun s c x y ch own hscans hch hc hown hx hy => ⟨fun hnormal hfew hmark => ?_, fun htripped => ?_⟩,
    fun a average f hlimits hmin hmax => ?_⟩
  · have hends : endCalibration s.blocks = { s.blocks with
        ownUs := max s.blocks.ownUs 2000000
        scan := { calibrating := false, channels := s.blocks.scan.channels.map (fun ch =>
          { ch with nextScan := max s.blocks.ownUs 2000000 }) } } := if_pos hcal
    rw [← hends]
    exact exec_event rfl rfl s
  · subst hown
    rw [exec_sensorScan, scanChannel_dropped hscans hch hspread, storeScan_eq hch]
  · subst hown
    rw [exec_sensorScan, scanChannel_taken hscans hx hy, if_pos hc,
      ambientSample_joins (b := storeScan c.val (some ((x.toNat + y.toNat) / 2)) 0 s.blocks) hf _ hcount, storeScan_eq hch]
    rfl
  · subst hown
    rw [exec_sensorScan, scanChannel_taken hscans hx hy, if_neg (not_lt.2 hc),
      currentSample_below (b := storeScan c.val (some ((x.toNat + y.toNat) / 2)) 0 s.blocks) hnormal hmark, storeScan_eq hch]
    rfl
  · subst hown hcode haverage ha hg
    rw [exec_sensorScan, scanChannel_taken hscans hx hy, if_pos hc,
      ambientSample_completes (b := storeScan c.val (some ((x.toNat + y.toNat) / 2)) 0 s.blocks) hf _ hcount, ambientUpdate_eq,
      storeScan_eq hch]
    rfl
  · subst hown
    rw [exec_sensorScan, scanChannel_taken hscans hx hy, if_neg (not_lt.2 hc),
      currentSample_over (b := storeScan c.val (some ((x.toNat + y.toNat) / 2)) 0 s.blocks) hnormal hmark hfew, storeScan_eq hch]
    rfl
  · subst hown
    rw [exec_sensorScan, scanChannel_taken hscans hx hy, if_neg (not_lt.2 hc),
      currentSample_tripped (b := storeScan c.val (some ((x.toNat + y.toNat) / 2)) 0 s.blocks) htripped, storeScan_eq hch]
  · rw [ambientUpdate_eq]
    split
    · exact ⟨hmin, hmax, rfl⟩
    · exact ⟨(clampGain_bounds hlimits _).1, (clampGain_bounds hlimits _).2, rfl⟩

/-! ## A contactor's move (R167) -/

section
variable (f : Nat) (closed : Bool) (b : Blocks)

theorem setContactor_records : TouchesRecords b (setContactor f closed b) := by
  have hset : ∀ g, TouchesRecords b (b.updateFeeder f g) := fun _ => rfl
  unfold setContactor
  split
  · exact .refl b
  · exact (hset _).trans (report_records _ _ _)

theorem setContactor_feeder_other {g : Nat} (h : g ≠ f) : (setContactor f closed b).feeder g = b.feeder g := by
  unfold setContactor
  split
  · rfl
  · rw [feeder_congr (report_feeders _ _ _), updateFeeder_feeder_other h]

theorem setContactor_feeder (hf : f < b.feeders.length) :
    (setContactor f closed b).feeder f = { b.feeder f with closed := closed } := by
  unfold setContactor
  split
  · next hsame => rw [← hsame]
  · rw [feeder_congr (report_feeders _ _ _), updateFeeder_feeder_self b f _ hf]

theorem setContactor_length : (setContactor f closed b).feeders.length = b.feeders.length := by
  unfold setContactor
  split
  · rfl
  · simp

theorem setContactor_told (hchanged : (b.feeder f).closed ≠ closed) : Told (setContactor f closed b) (.feeder f) .contactorChanged := by
  unfold setContactor
  rw [if_neg hchanged]
  exact report_told _ _ _

end

theorem setContactor_keeps_told {b : Blocks} {r : RecordId} {k : ChangeKind} (h : Told b r k) (f : Nat) (closed : Bool) :
    Told (setContactor f closed b) r k := by
  unfold setContactor
  split
  · exact h
  · exact submit_keeps_told (b := b.updateFeeder f _) h _ _ _

/-! ## The zones of a feeder made dark (R168) -/

/-- A zone's record made dark. -/
def darkened (c : Zone) : Zone := { c with last := dark }

theorem updateZone_latestOf (b : Blocks) (z : Nat) (g : Zone → Zone) (y : Nat) : (b.updateZone z g).latestOf y = b.latestOf y := rfl

theorem darkenZone_zone? (z : Nat) (b : Blocks) (y : Nat) :
    (darkenZone z b).zone? y = if y = z ∧ (b.latestOf z).hasLevels = true then (b.zone? z).map darkened else b.zone? y := by
  unfold darkenZone
  by_cases hlevels : (b.latestOf z).hasLevels = true
  · rw [if_pos hlevels, updateLatest_zone?, updateZone_zone?]
    simp only [hlevels, and_true]
    rfl
  · rw [if_neg hlevels, if_neg (fun h => hlevels h.2)]

theorem darkenZone_latestOf (z : Nat) (b : Blocks) (y : Nat) :
    (darkenZone z b).latestOf y = if y = z then (b.latestOf z).darken else b.latestOf y := by
  unfold darkenZone
  by_cases hlevels : (b.latestOf z).hasLevels = true
  · rw [if_pos hlevels, updateLatest_latestOf rfl, updateZone_latestOf, updateZone_latestOf]
  · rw [if_neg hlevels]
    split
    · next hy =>
      subst hy
      cases hout : b.latestOf y with
      | levels l t => rw [hout] at hlevels; exact absurd rfl hlevels
      | noLevels => rfl
      | absent => rfl
    · rfl

theorem darkenZone_levels (z : Nat) (b : Blocks) : TouchesLevels b (darkenZone z b) := by
  unfold darkenZone
  split
  · rfl
  · rfl

theorem darkenings_read {l : List Nat} (hl : l.Nodup) (y : Nat) (b : Blocks) :
    (forEach l darkenZone b).zone? y =
      (if y ∈ l ∧ (b.latestOf y).hasLevels = true then (b.zone? y).map darkened else b.zone? y) ∧
    (forEach l darkenZone b).latestOf y = if y ∈ l then (b.latestOf y).darken else b.latestOf y := by
  have hread := forEach_read (read := fun z x => (x.zone? z, x.latestOf z)) (op := darkenZone) darkenZone_levels ?_ ?_ hl y b
  · have hzone := congrArg Prod.fst hread
    have hlatest := congrArg Prod.snd hread
    simp only at hzone hlatest
    rw [hzone, hlatest]
    by_cases hy : y ∈ l
    · simp only [darkenZone_zone?, darkenZone_latestOf, hy, true_and, if_true, and_self]
    · simp only [hy, false_and, if_false, and_self]
  · intro z y x hy
    rw [darkenZone_zone?, darkenZone_latestOf, if_neg hy, if_neg (fun h => hy h.1)]
  · intro z a c _ hsame
    obtain ⟨hzone, hlatest⟩ := Prod.mk.inj hsame
    simp only [darkenZone_zone?, darkenZone_latestOf, hzone, hlatest]

theorem onFeeder_iff (b : Blocks) (f z : Nat) : b.onFeeder f z = true ↔ ∃ c, b.zone? z = some c ∧ c.feeder = f := by
  unfold Blocks.onFeeder
  cases hz : b.zone? z with
  | none => simp
  | some c => simp

/-- What the Level Chain writes at a trip: the feeder's zones with levels go dark, and every other zone stays. -/
theorem darkenFeeder_read {b : Blocks} (hsized : b.zones.length = 96) (f z : Nat) :
    (∀ d, b.zone? z = some d → d.feeder = f → (b.latestOf z).hasLevels = true →
      (darkenFeeder f b).zone? z = some (darkened d) ∧ (darkenFeeder f b).latestOf z = .levels dark .plain) ∧
    ((∀ d, b.zone? z = some d → d.feeder ≠ f) →
      (darkenFeeder f b).zone? z = b.zone? z ∧ (darkenFeeder f b).latestOf z = b.latestOf z) := by
  obtain ⟨hzone, hlatest⟩ := darkenings_read (allZones_nodup.filter (b.onFeeder f)) z b
  have hsame : (darkenFeeder f b).zone? z = (forEach (allZones.filter (b.onFeeder f)) darkenZone b).zone? z ∧
      (darkenFeeder f b).latestOf z = (forEach (allZones.filter (b.onFeeder f)) darkenZone b).latestOf z := ⟨rfl, rfl⟩
  rw [hsame.1, hsame.2, hzone, hlatest]
  refine ⟨fun d hd hf hlevels => ?_, fun hother => ?_⟩
  · have hon : z ∈ allZones.filter (b.onFeeder f) :=
      List.mem_filter.2 ⟨mem_allZones.2 (hsized ▸ zone?_lt b hd), (onFeeder_iff b f z).2 ⟨d, hd, hf⟩⟩
    rw [if_pos ⟨hon, hlevels⟩, if_pos hon, hd]
    refine ⟨rfl, ?_⟩
    cases hout : b.latestOf z with
    | levels l t => rfl
    | noLevels => rw [hout] at hlevels; cases hlevels
    | absent => rw [hout] at hlevels; cases hlevels
  · have hoff : z ∉ allZones.filter (b.onFeeder f) := fun h => by
      obtain ⟨d, hd, hf⟩ := (onFeeder_iff b f z).1 (List.mem_filter.1 h).2
      exact hother d hd hf
    rw [if_neg (fun h => hoff h.1), if_neg hoff]
    exact ⟨rfl, rfl⟩

/-- The zone records, the latest render and the results of the render in flight are all that a trip's darkness writes. -/
theorem darkenFeeder_eq (f : Nat) (b : Blocks) :
    darkenFeeder f b = { b with
      zones := (darkenFeeder f b).zones
      chain := { b.chain with
        latest := (darkenFeeder f b).chain.latest
        flight := b.chain.flight.map (fun fl => { fl with results := fl.results.map (Option.map (tripResult f)) }) } } := by
  have hlevels := forEach_rel TouchesLevels.refl TouchesLevels.trans darkenZone_levels (allZones.filter (b.onFeeder f)) b
  unfold darkenFeeder
  generalize forEach (allZones.filter (b.onFeeder f)) darkenZone b = c at hlevels ⊢
  rw [hlevels]

/-- The blocks of a trip before the Level Chain is told. -/
def tripReported (f : Nat) (b : Blocks) : Blocks :=
  (setContactor f false (b.updateFeeder f (fun x => { x with tripped := true, idleFrom := none }))).report (.feeder f) .tripped

theorem tripFeeder_eq (f : Nat) (b : Blocks) : tripFeeder f b = darkenFeeder f (tripReported f b) := rfl

theorem tripReported_records (f : Nat) (b : Blocks) : TouchesRecords b (tripReported f b) := by
  have hset : ∀ g, TouchesRecords b (b.updateFeeder f g) := fun _ => rfl
  exact (hset _).trans ((setContactor_records f false _).trans (report_records _ _ _))

theorem tripReported_feeder {f : Nat} {b : Blocks} (hf : f < b.feeders.length) :
    (tripReported f b).feeder f = { b.feeder f with tripped := true, closed := false, idleFrom := none } := by
  unfold tripReported
  rw [feeder_congr (report_feeders _ _ _), setContactor_feeder _ _ _ (by simpa using hf), updateFeeder_feeder_self b f _ hf]

theorem tripReported_feeder_other {f g : Nat} (h : g ≠ f) (b : Blocks) : (tripReported f b).feeder g = b.feeder g := by
  unfold tripReported
  rw [feeder_congr (report_feeders _ _ _), setContactor_feeder_other f false _ h, updateFeeder_feeder_other h]

theorem tripReported_contactor {f : Nat} {b : Blocks} (hf : f < b.feeders.length) (hclosed : (b.feeder f).closed = true) :
    Told (tripReported f b) (.feeder f) .contactorChanged := by
  refine submit_keeps_told (setContactor_told f false _ ?_) _ _ _
  rw [updateFeeder_feeder_self b f _ hf]
  show (b.feeder f).closed ≠ false
  rw [hclosed]
  exact Bool.true_eq_false_eq_False

theorem darkenFeeder_keeps_told {b : Blocks} {r : RecordId} {k : ChangeKind} (h : Told b r k) (f : Nat) : Told (darkenFeeder f b) r k := by
  rw [darkenFeeder_eq]
  exact h

/-- The blocks of a scan that trips a feeder, before the trip. -/
def thirdOver (c code f : Nat) (b : Blocks) : Blocks :=
  (storeScan c (some code) 0 b).updateFeeder f (fun x => { x with overCount := (b.feeder f).overCount + 1 })

/-- Settles O59. -/
theorem thirdOverSampleTrips : Obligations.ThirdOverSampleTrips := by
  unfold Obligations.ThirdOverSampleTrips
  intro s c x y f hsized hscans hc hnormal hmany hx hy hmark
  obtain ⟨hzones, -, -, hfeeders, -⟩ := hsized
  have hf : f < s.blocks.feeders.length := by omega
  have hscan : scanChannel c.val x.toNat y.toNat s.blocks =
      tripFeeder f (thirdOver c.val ((x.toNat + y.toNat) / 2) f s.blocks) := by
    rw [scanChannel_taken hscans hx hy, if_neg (by omega), show c.val - 4 = f by omega]
    exact currentSample_third (b := storeScan c.val _ 0 s.blocks) hnormal hmark hmany
  have hfth : f < (thirdOver c.val ((x.toNat + y.toNat) / 2) f s.blocks).feeders.length := by
    unfold thirdOver
    simpa using hf
  have hfeeder : (thirdOver c.val ((x.toNat + y.toNat) / 2) f s.blocks).feeder f =
      { s.blocks.feeder f with overCount := (s.blocks.feeder f).overCount + 1 } :=
    updateFeeder_feeder_self (storeScan c.val _ 0 s.blocks) f _ hf
  have hother : ∀ g, g ≠ f → (thirdOver c.val ((x.toNat + y.toNat) / 2) f s.blocks).feeder g = s.blocks.feeder g :=
    fun g hg => updateFeeder_feeder_other hg _ (storeScan c.val _ 0 s.blocks)
  have hkept : ∀ z, (thirdOver c.val ((x.toNat + y.toNat) / 2) f s.blocks).zone? z = s.blocks.zone? z ∧
      (thirdOver c.val ((x.toNat + y.toNat) / 2) f s.blocks).latestOf z = s.blocks.latestOf z := fun _ => ⟨rfl, rfl⟩
  have hchain : (thirdOver c.val ((x.toNat + y.toNat) / 2) f s.blocks).chain = s.blocks.chain := rfl
  have hrest : (thirdOver c.val ((x.toNat + y.toNat) / 2) f s.blocks).holding = s.blocks.holding ∧
      (thirdOver c.val ((x.toNat + y.toNat) / 2) f s.blocks).active = s.blocks.active ∧
      (thirdOver c.val ((x.toNat + y.toNat) / 2) f s.blocks).bookings = s.blocks.bookings ∧
      (thirdOver c.val ((x.toNat + y.toNat) / 2) f s.blocks).zones.length = 96 := ⟨rfl, rfl, rfl, hzones⟩
  rw [exec_sensorScan, hscan, tripFeeder_eq]
  generalize thirdOver c.val ((x.toNat + y.toNat) / 2) f s.blocks = m at hfth hfeeder hother hkept hchain hrest
  obtain ⟨hholding, hactive, hbookings, hsized⟩ := hrest
  have hrecords := tripReported_records f m
  have hdark := darkenFeeder_eq f (tripReported f m)
  have hread := darkenFeeder_read (b := tripReported f m) (by rw [hrecords]; exact hsized) f
  have hsame : ∀ z, (tripReported f m).zone? z = s.blocks.zone? z ∧ (tripReported f m).latestOf z = s.blocks.latestOf z := fun z => by
    rw [hrecords]
    exact hkept z
  refine ⟨_, rfl, rfl, ?_, darkenFeeder_keeps_told (report_told _ _ _) f, fun hclosed => ?_, ?_, fun _ _ _ _ _ _ _ => rfl, rfl, rfl,
    fun g _ hg => ?_, fun z d hz hd hlevels => ?_, fun z hz => ?_, ?_, ?_, ?_⟩
  · show (darkenFeeder f (tripReported f m)).feeder f = _
    rw [feeder_congr (darkenFeeder_feeders f _), tripReported_feeder hfth, hfeeder]
  · exact darkenFeeder_keeps_told (tripReported_contactor hfth (by rw [hfeeder]; exact hclosed)) f
  · show (darkenFeeder f (tripReported f m)).chain = _
    rw [hdark, ← hchain, hrecords]
  · show (darkenFeeder f (tripReported f m)).feeder g = _
    rw [feeder_congr (darkenFeeder_feeders f _), tripReported_feeder_other hg, hother g hg]
  · exact (hread z).1 d ((hsame z).1.trans hz) hd (by rw [(hsame z).2]; exact hlevels)
  · obtain ⟨hzone, hlatest⟩ := (hread z).2 (fun d hd => hz d ((hsame z).1.symm.trans hd))
    exact ⟨hzone.trans (hsame z).1, hlatest.trans (hsame z).2⟩
  · show (darkenFeeder f (tripReported f m)).holding = _
    rw [hdark, hrecords, hholding]
  · show (darkenFeeder f (tripReported f m)).active = _
    rw [hdark, hrecords, hactive]
  · show (darkenFeeder f (tripReported f m)).bookings = _
    rw [hdark, hrecords, hbookings]

end Sys2Proof.Machine

/-! PROOFS. The commands of Feeder Control: obligation O60. -/

namespace Sys2Proof.Machine

/-! ## The idle timer (R171) -/

/-- The blocks at the end of a feeder's idle timer, the timer stopped. -/
def idleStopped (f us : Nat) (b : Blocks) : Blocks := (b.advanceTo us).updateFeeder f (fun x => { x with idleFrom := none })

theorem exec_idleTimerExpiry {s : State} {f : Fin 4} {t0 : Nat} (h : (s.blocks.feeder f).idleFrom = some t0) :
    exec (.idleTimerExpiry f) s =
      .next { s with blocks := setContactor f false (idleStopped f (t0 + 600000000) s.blocks) } := by
  have hexpires : idleExpiry f.val s.blocks = setContactor f false (idleStopped f (t0 + 600000000) s.blocks) := by
    unfold idleExpiry
    rw [h]
    rfl
  rw [← hexpires]
  exact exec_event rfl rfl s

/-! ## Claims and fades (R169, R170) -/

/-- A fade leaves the feeder and the node of every zone. -/
theorem startHandover_zone_claims (z h : Nat) (b : Blocks) (y : Nat) :
    ((startHandover z h b).zone? y).map (fun c => (c.feeder, c.node)) = (b.zone? y).map (fun c => (c.feeder, c.node)) := by
  rw [startHandover_zone?]
  split
  · next hy =>
    subst hy
    unfold handedFor?
    rw [Option.map_map]
    refine Option.map_congr fun c _ => ?_
    show (fun c : Zone => (c.feeder, c.node)) (if c.isProtected then c else handedFor h b y c) = _
    split <;> rfl
  · rfl

theorem zoneClaims_eq (b : Blocks) (f z : Nat) :
    b.zoneClaims f z = (((b.zone? z).map (fun c => (c.feeder, c.node))).map
      (fun p => decide (p.1 = f) && p.2.live && (b.holder? z).isSome)).getD false := by
  unfold Blocks.zoneClaims
  cases b.zone? z with
  | none => rfl
  | some c => rfl

/-- Claims follow the feeders, the holders, and the feeder and node of each zone. -/
theorem claimed_congr {a b : Blocks} (hfeeders : b.feeders = a.feeders) (hholding : b.holding = a.holding)
    (hzones : ∀ z, (b.zone? z).map (fun c => (c.feeder, c.node)) = (a.zone? z).map (fun c => (c.feeder, c.node))) (f : Nat) :
    b.claimed f = a.claimed f := by
  unfold Blocks.claimed
  rw [feeder_congr hfeeders]
  congr 2
  funext z
  rw [zoneClaims_eq, zoneClaims_eq, hzones, holder?_congr hholding]

theorem fadeUpFeeder_fades (f : Nat) (b : Blocks) : TouchesFades b (fadeUpFeeder f b) := defaultHandovers_fades _ b

theorem fadeUpFeeder_claimed (f : Nat) (b : Blocks) : (fadeUpFeeder f b).claimed f = b.claimed f := by
  have hfades := fadeUpFeeder_fades f b
  refine claimed_congr (by rw [hfades]) (by rw [hfades]) (fun y => ?_) f
  exact forEach_keeps (P := fun x => (x.zone? y).map (fun c => (c.feeder, c.node)) = (b.zone? y).map (fun c => (c.feeder, c.node)))
    (fun z x hx => (startHandover_zone_claims z _ x y).trans hx) _ b rfl

theorem fadeUpFeeder_zone? (f : Nat) {b : Blocks} (hsized : b.zones.length = 96) (z : Nat) :
    (fadeUpFeeder f b).zone? z = if b.onFeeder f z then handedOver? b z else b.zone? z := by
  unfold fadeUpFeeder
  rw [defaultHandovers_zone? _ b hsized]
  cases hon : b.onFeeder f z with
  | false => rfl
  | true =>
    cases hshown : b.showable z with
    | true => rfl
    | false => exact (handedFor?_of_hidden hshown b.chain.defaultHandover).symm

/-! ## Reclose Feeder (R169) -/

/-- Whether a feeder's source would have its contactor closed after a trip: the command under Operator, the claims under Schedule. -/
def driveTarget (f : Nat) (b : Blocks) : Bool :=
  match (b.feeder f).source with
  | .operator => (b.feeder f).commandClosed
  | .schedule => b.claimed f

/-- Under Schedule an unclaimed feeder's idle timer stops before its contactor opens. -/
def driveStopped (f : Nat) (b : Blocks) : Blocks :=
  if (b.feeder f).source = .schedule ∧ b.claimed f = false then b.updateFeeder f (fun x => { x with idleFrom := none }) else b

theorem driveReclosed_eq (f : Nat) (b : Blocks) : driveReclosed f b = setContactor f (driveTarget f b) (driveStopped f b) := by
  unfold driveReclosed driveTarget driveStopped
  cases hsource : (b.feeder f).source with
  | operator => rfl
  | schedule =>
    cases hclaimed : b.claimed f with
    | true => rfl
    | false => rfl

/-- What may be said of a feeder's record wherever the idle timer alone was stopped. -/
theorem driveStopped_feeder {f : Nat} {b : Blocks} (hf : f < b.feeders.length) :
    ∃ idle, (driveStopped f b).feeder f = { b.feeder f with idleFrom := idle } := by
  unfold driveStopped
  split
  · exact ⟨none, updateFeeder_feeder_self b f _ hf⟩
  · exact ⟨(b.feeder f).idleFrom, rfl⟩

theorem driveStopped_records (f : Nat) (b : Blocks) : TouchesRecords b (driveStopped f b) := by
  unfold driveStopped
  split
  · rfl
  · rfl

theorem driveStopped_feeder_other {f g : Nat} (h : g ≠ f) (b : Blocks) : (driveStopped f b).feeder g = b.feeder g := by
  unfold driveStopped
  split
  · exact updateFeeder_feeder_other h _ b
  · rfl

theorem driveStopped_length (f : Nat) (b : Blocks) : (driveStopped f b).feeders.length = b.feeders.length := by
  unfold driveStopped
  split
  · simp
  · rfl

/-- The blocks with a feeder's trip cleared. -/
def tripCleared (f : Nat) (b : Blocks) : Blocks := b.updateFeeder f (fun x => { x with tripped := false, overCount := 0 })

theorem recloseFeeder_of_tripped {f : Nat} {b : Blocks} (hf : f ≤ 3) (htripped : (b.feeder f).tripped = true) :
    recloseFeeder f b = (driveReclosed f (fadeUpFeeder f (tripCleared f b)),
      okWith (.contactor ((driveReclosed f (fadeUpFeeder f (tripCleared f b))).feeder f).closed)) :=
  (if_neg (not_lt.2 hf)).trans (if_neg (by rw [htripped]; exact Bool.false_ne_true))

theorem recloseFeeder_of_normal {f : Nat} {b : Blocks} (hf : f ≤ 3) (hnormal : (b.feeder f).tripped = false) :
    recloseFeeder f b = (b, refuse .wrongState) :=
  (if_neg (not_lt.2 hf)).trans (if_pos (by rw [hnormal]; rfl))

theorem recloseFeeder_of_lt {f : Nat} (hf : 4 ≤ f) (b : Blocks) : recloseFeeder f b = (b, refuse .outOfRange) := if_pos hf

section
variable {f : Nat} {b : Blocks} (hf : f < b.feeders.length)
include hf

/-- The feeder's record as the source is to drive it. -/
theorem fadedCleared_feeder : (fadeUpFeeder f (tripCleared f b)).feeder f = { b.feeder f with tripped := false, overCount := 0 } := by
  have hfeeders : (fadeUpFeeder f (tripCleared f b)).feeders = (tripCleared f b).feeders := by rw [fadeUpFeeder_fades]
  exact (feeder_congr hfeeders f).trans (updateFeeder_feeder_self b f _ hf)

theorem fadedCleared_target : driveTarget f (fadeUpFeeder f (tripCleared f b)) = driveTarget f b := by
  have hclaimed : (fadeUpFeeder f (tripCleared f b)).claimed f = b.claimed f := by
    rw [fadeUpFeeder_claimed]
    unfold Blocks.claimed tripCleared
    rw [updateFeeder_feeder_self b f _ hf]
    rfl
  unfold driveTarget
  rw [fadedCleared_feeder hf, hclaimed]

theorem fadedCleared_length : f < (fadeUpFeeder f (tripCleared f b)).feeders.length := by
  rw [fadeUpFeeder_fades f (tripCleared f b)]
  simpa [tripCleared] using hf

/-- All that a Reclose leaves of the feeder's record but its idle timer. -/
theorem reclosed_feeder : ∃ idle, (driveReclosed f (fadeUpFeeder f (tripCleared f b))).feeder f =
    { b.feeder f with tripped := false, overCount := 0, idleFrom := idle, closed := driveTarget f b } := by
  have hlength := fadedCleared_length hf
  obtain ⟨idle, hidle⟩ := driveStopped_feeder hlength
  refine ⟨idle, ?_⟩
  rw [driveReclosed_eq, setContactor_feeder _ _ _ (by rw [driveStopped_length]; exact hlength), hidle, fadedCleared_feeder hf,
    fadedCleared_target hf]

theorem reclosed_told (hchanged : driveTarget f b ≠ (b.feeder f).closed) :
    Told (driveReclosed f (fadeUpFeeder f (tripCleared f b))) (.feeder f) .contactorChanged := by
  obtain ⟨idle, hidle⟩ := driveStopped_feeder (fadedCleared_length hf)
  rw [driveReclosed_eq]
  refine setContactor_told f _ _ ?_
  rw [hidle, fadedCleared_feeder hf, fadedCleared_target hf]
  exact hchanged.symm

end

theorem reclosed_feeder_other {f g : Nat} (h : g ≠ f) (b : Blocks) :
    (driveReclosed f (fadeUpFeeder f (tripCleared f b))).feeder g = b.feeder g := by
  have hfeeders : (fadeUpFeeder f (tripCleared f b)).feeders = (tripCleared f b).feeders := by rw [fadeUpFeeder_fades]
  rw [driveReclosed_eq, setContactor_feeder_other f _ _ h, driveStopped_feeder_other h, feeder_congr hfeeders]
  exact updateFeeder_feeder_other h _ b

/-! ## Configure Feeder (R173) -/

section
variable {f : Nat} {p m : Option Nat} (b : Blocks)

theorem configureFeeder_outside (hout : 4 ≤ f ∨ (∃ v, p = some v ∧ 1000000 < v) ∨ ∃ v, m = some v ∧ 4095 < v) :
    configureFeeder f p m b = (b, refuse .outOfRange) := by
  refine if_pos ?_
  obtain hf | ⟨v, rfl, hv⟩ | ⟨v, rfl, hv⟩ := hout
  · rw [decide_eq_true (show 3 < f from hf)]
    rfl
  · simp [hv]
  · simp [hv]

theorem configureFeeder_within (hf : f ≤ 3) (hp : ∀ v, p = some v → v ≤ 1000000) (hm : ∀ v, m = some v → v ≤ 4095)
    (hlength : f < b.feeders.length) :
    configureFeeder f p m b =
      (b.updateFeeder f (fun x => { x with budget := p.getD x.budget, tripMark := m.getD x.tripMark }),
        okWith (.feederRecord (b.feederRecord
          { b.feeder f with budget := p.getD (b.feeder f).budget, tripMark := m.getD (b.feeder f).tripMark }))) := by
  have hfits : ¬(decide (3 < f) || (p.any (fun v => decide (1000000 < v))) || (m.any (fun v => decide (4095 < v)))) = true := by
    simp only [Bool.or_eq_true, decide_eq_true_eq, Option.any_eq_true]
    rintro ((h | ⟨v, hv, h⟩) | ⟨v, hv, h⟩)
    · omega
    · exact absurd (hp v hv) (not_le.2 h)
    · exact absurd (hm v hv) (not_le.2 h)
  refine (if_neg hfits).trans ?_
  show (_, okWith (.feederRecord (b.feederRecord ((b.updateFeeder f _).feeder f)))) = _
  rw [updateFeeder_feeder_self b f _ hlength]

end

/-! ## One feeder's record (R171, R172) -/

/-- Only one feeder's record and the Notice List may differ. -/
def OnlyFeeder (f : Nat) (a b : Blocks) : Prop := b = { a with feeders := a.feeders.set f (b.feeder f), notices := b.notices }

theorem OnlyFeeder.feeders {f : Nat} {a b : Blocks} (h : OnlyFeeder f a b) : b.feeders = a.feeders.set f (b.feeder f) :=
  congrArg Blocks.feeders h

theorem OnlyFeeder.trans {f : Nat} {a b c : Blocks} (h : OnlyFeeder f a b) (k : OnlyFeeder f b c) : OnlyFeeder f a c := by
  have hfeeders : c.feeders = a.feeders.set f (c.feeder f) := by rw [k.feeders, h.feeders, List.set_set]
  have hrecords : TouchesRecords a c := TouchesRecords.trans (b := b)
    (show b = { a with feeders := b.feeders, notices := b.notices } by rw [h.feeders]; exact h)
    (show c = { b with feeders := c.feeders, notices := c.notices } by rw [k.feeders]; exact k)
  unfold OnlyFeeder
  rw [← hfeeders]
  exact hrecords

theorem OnlyFeeder.other {f g : Nat} {a b : Blocks} (h : OnlyFeeder f a b) (hg : g ≠ f) : b.feeder g = a.feeder g :=
  (feeder_congr h.feeders g).trans (updateFeeder_feeder_other hg (fun _ => b.feeder f) a)

theorem OnlyFeeder.refl (f : Nat) (b : Blocks) : OnlyFeeder f b b := by
  have hset : b.feeders.set f (b.feeder f) = b.feeders := by
    unfold Blocks.feeder
    by_cases hf : f < b.feeders.length
    · rw [List.getD_eq_getElem _ _ hf, List.set_getElem_self]
    · rw [List.set_eq_of_length_le (not_lt.1 hf)]
  unfold OnlyFeeder
  rw [hset]

theorem updateFeeder_only {f : Nat} {b : Blocks} (hf : f < b.feeders.length) (g : Feeder → Feeder) :
    OnlyFeeder f b (b.updateFeeder f g) := by
  unfold OnlyFeeder
  rw [updateFeeder_feeder_self b f g hf]
  rfl

theorem setContactor_only {f : Nat} {b : Blocks} (hf : f < b.feeders.length) (closed : Bool) :
    OnlyFeeder f b (setContactor f closed b) := by
  have hreported : ∀ c : Blocks, OnlyFeeder f c (c.report (.feeder f) .contactorChanged) := by
    intro c
    have hsame : (c.report (.feeder f) .contactorChanged).feeder f = c.feeder f := feeder_congr (report_feeders _ _ _) f
    have hwritten := report_records c (.feeder f) .contactorChanged
    unfold TouchesRecords at hwritten
    rw [report_feeders] at hwritten
    unfold OnlyFeeder
    rw [hsame, ← (OnlyFeeder.refl f c).feeders]
    exact hwritten
  unfold setContactor
  split
  · exact .refl f b
  · exact (updateFeeder_only hf _).trans (hreported _)

/-- The record of a feeder that its claims drive (R171). -/
def evaluatedFeeder (x : Feeder) (claimed : Bool) (own : Nat) : Feeder :=
  if claimed then { x with closed := true, idleFrom := none }
  else if x.closed then { x with idleFrom := some (x.idleFrom.getD own) } else x

section
variable {f : Nat} {b : Blocks} (hf : f < b.feeders.length)
include hf

theorem evaluateFeeder_only : OnlyFeeder f b (evaluateFeeder f b) := by
  unfold evaluateFeeder
  split
  · exact .refl f b
  · split
    · exact (updateFeeder_only hf _).trans (setContactor_only (by simpa using hf) true)
    · split
      · exact updateFeeder_only hf _
      · exact .refl f b

theorem evaluateFeeder_driven (hschedule : (b.feeder f).source = .schedule) (hnormal : (b.feeder f).tripped = false) :
    (evaluateFeeder f b).feeder f = evaluatedFeeder (b.feeder f) (b.claimed f) b.ownUs := by
  unfold evaluateFeeder evaluatedFeeder
  rw [if_neg (by rw [hschedule, hnormal]; exact nofun)]
  split
  · rw [setContactor_feeder _ _ _ (by simpa using hf), updateFeeder_feeder_self b f _ hf]
  · split
    · rw [updateFeeder_feeder_self b f _ hf]
    · rfl

omit hf in
theorem evaluateFeeder_tripped (htripped : (b.feeder f).tripped = true) : evaluateFeeder f b = b :=
  if_pos (by rw [htripped, Bool.or_true])

theorem evaluateFeeder_told (hchanged : ((evaluateFeeder f b).feeder f).closed ≠ (b.feeder f).closed) :
    Told (evaluateFeeder f b) (.feeder f) .contactorChanged := by
  unfold evaluateFeeder at hchanged ⊢
  split at hchanged
  · exact absurd rfl hchanged
  · next hdriven =>
    rw [if_neg hdriven]
    split at hchanged
    · next hclaimed =>
      rw [if_pos hclaimed]
      refine setContactor_told f true _ ?_
      rw [setContactor_feeder _ _ _ (by simpa using hf)] at hchanged
      rw [updateFeeder_feeder_self b f _ hf]
      exact hchanged.symm
    · split at hchanged
      · rw [updateFeeder_feeder_self b f _ hf] at hchanged
        exact absurd rfl hchanged
      · exact absurd rfl hchanged

end

theorem reevaluateFeeder_of_none {b : Blocks} (h : b.deferral = none) (f : Nat) : reevaluateFeeder f b = evaluateFeeder f b := by
  unfold reevaluateFeeder
  rw [h]

/-! ## Set Output on a contactor (R172) -/

/-- A feeder's record with a source and a command stored. -/
def outputStored (so : Option OutputSource) (co : Option Bool) (x : Feeder) : Feeder :=
  { x with source := so.getD x.source, commandClosed := co.getD x.commandClosed }

theorem contactorCommand_closed (co : Option Bool) (c : Bool) :
    ((co.map contactorCommand).map (fun c => decide (c = .closed))).getD c = co.getD c := by
  cases co with
  | none => rfl
  | some c => cases c <;> rfl

theorem outputStored_eq (so : Option OutputSource) (co : Option Bool) :
    (fun x : Feeder => { x with
      source := so.getD x.source
      commandClosed := ((co.map contactorCommand).map (fun c => decide (c = .closed))).getD x.commandClosed }) = outputStored so co := by
  funext x
  rw [contactorCommand_closed]
  rfl

section
variable {f : Nat} {so : Option OutputSource} {co : Option Bool} {b : Blocks} (hf : f < b.feeders.length)
include hf

theorem setContactorOutput_operator (hoperator : (outputStored so co (b.feeder f)).source = .operator) :
    setContactorOutput f so (co.map contactorCommand) b =
      if (b.feeder f).tripped then b.updateFeeder f (fun x => { outputStored so co x with idleFrom := none })
      else setContactor f (outputStored so co (b.feeder f)).commandClosed
        (b.updateFeeder f (fun x => { outputStored so co x with idleFrom := none })) := by
  unfold setContactorOutput
  simp only [outputStored_eq, updateFeeder_feeder_self b f _ hf, hoperator, updateFeeder_updateFeeder b f _ _ hf]
  rfl

theorem setContactorOutput_schedule (hschedule : (outputStored so co (b.feeder f)).source = .schedule) :
    setContactorOutput f so (co.map contactorCommand) b =
      if (b.feeder f).source = .operator then reevaluateFeeder f (b.updateFeeder f (outputStored so co))
      else b.updateFeeder f (outputStored so co) := by
  unfold setContactorOutput
  simp only [outputStored_eq, updateFeeder_feeder_self b f _ hf, hschedule]

/-- R172: under Operator the contactor takes the command at once, unless the feeder is Tripped, and the idle timer stops. -/
theorem setContactorOutput_commands (hoperator : (outputStored so co (b.feeder f)).source = .operator) :
    OnlyFeeder f b (setContactorOutput f so (co.map contactorCommand) b) ∧
    (setContactorOutput f so (co.map contactorCommand) b).feeder f =
      { outputStored so co (b.feeder f) with
        idleFrom := none
        closed := if (b.feeder f).tripped then (b.feeder f).closed else (outputStored so co (b.feeder f)).commandClosed } ∧
    (((setContactorOutput f so (co.map contactorCommand) b).feeder f).closed ≠ (b.feeder f).closed →
      Told (setContactorOutput f so (co.map contactorCommand) b) (.feeder f) .contactorChanged) := by
  have hstopped := updateFeeder_only hf (fun x => { outputStored so co x with idleFrom := none })
  have hrecord := updateFeeder_feeder_self b f (fun x => { outputStored so co x with idleFrom := none }) hf
  rw [setContactorOutput_operator hf hoperator]
  cases htripped : (b.feeder f).tripped with
  | true =>
    rw [if_pos rfl, if_pos rfl, hrecord]
    exact ⟨hstopped, rfl, fun h => absurd rfl h⟩
  | false =>
    have hlength : f < (b.updateFeeder f (fun x => { outputStored so co x with idleFrom := none })).feeders.length := by simpa using hf
    rw [if_neg Bool.false_ne_true, if_neg Bool.false_ne_true, setContactor_feeder _ _ _ hlength, hrecord]
    refine ⟨hstopped.trans (setContactor_only hlength _), rfl, fun hchanged => setContactor_told f _ _ ?_⟩
    rw [hrecord]
    exact hchanged.symm

/-- R171, R172: a contactor returned to Schedule follows its claims, unless the feeder is Tripped. -/
theorem setContactorOutput_follows (hdeferral : b.deferral = none) (hschedule : (outputStored so co (b.feeder f)).source = .schedule) :
    OnlyFeeder f b (setContactorOutput f so (co.map contactorCommand) b) ∧
    (setContactorOutput f so (co.map contactorCommand) b).feeder f =
      (if (b.feeder f).source = .operator ∧ (b.feeder f).tripped = false
        then evaluatedFeeder (outputStored so co (b.feeder f)) (b.claimed f) b.ownUs else outputStored so co (b.feeder f)) ∧
    (((setContactorOutput f so (co.map contactorCommand) b).feeder f).closed ≠ (b.feeder f).closed →
      Told (setContactorOutput f so (co.map contactorCommand) b) (.feeder f) .contactorChanged) := by
  have honly := updateFeeder_only hf (outputStored so co)
  have hrecord := updateFeeder_feeder_self b f (outputStored so co) hf
  have hlength : f < (b.updateFeeder f (outputStored so co)).feeders.length := by simpa using hf
  have hclaimed : (b.updateFeeder f (outputStored so co)).claimed f = b.claimed f := by
    unfold Blocks.claimed
    rw [hrecord]
    rfl
  rw [setContactorOutput_schedule hf hschedule]
  by_cases hwas : (b.feeder f).source = .operator
  · rw [if_pos hwas, reevaluateFeeder_of_none (b := b.updateFeeder f (outputStored so co)) hdeferral]
    cases htripped : (b.feeder f).tripped with
    | true =>
      rw [evaluateFeeder_tripped (by rw [hrecord]; exact htripped), if_neg (fun h => Bool.false_ne_true h.2.symm), hrecord]
      exact ⟨honly, rfl, fun h => absurd rfl h⟩
    | false =>
      have hdriven := evaluateFeeder_driven hlength (by rw [hrecord]; exact hschedule) (by rw [hrecord]; exact htripped)
      rw [hrecord, hclaimed] at hdriven
      rw [if_pos ⟨hwas, rfl⟩]
      refine ⟨honly.trans (evaluateFeeder_only hlength), hdriven, fun hchanged => evaluateFeeder_told hlength ?_⟩
      rw [hrecord]
      exact hchanged
  · rw [if_neg hwas, if_neg (fun h => hwas h.1), hrecord]
    exact ⟨honly, rfl, fun h => absurd rfl h⟩

end

/-! ## Set Output (R172) -/

theorem knownCode_known {α : Type} (x : Option α) : knownCode (x.map Code.known) = some x := by
  cases x <;> rfl

theorem setOutput_known (o : OutputLine) (so : Option OutputSource) (co : Option OutputCommand) (b : Blocks) :
    setOutput (.known o) (so.map .known) (co.map .known) b =
      if (co.map (commandSuits o)).getD true
      then (if so.isNone && co.isNone then b else driveLine o so co b,
        okWith (.output ((if so.isNone && co.isNone then b else driveLine o so co b).outputView o)))
      else (b, refuse .outOfRange) := by
  unfold setOutput
  simp only [knownCode_known]

/-- A line that takes a source or a command that suits it is driven. -/
theorem setOutput_drives {o : OutputLine} {so : Option OutputSource} {co : Option OutputCommand}
    (hsuits : ∀ c, co = some c → commandSuits o c = true) (hsome : so ≠ none ∨ co ≠ none) (b : Blocks) :
    setOutput (.known o) (so.map .known) (co.map .known) b =
      (driveLine o so co b, okWith (.output ((driveLine o so co b).outputView o))) := by
  have hfits : (co.map (commandSuits o)).getD true = true := by
    cases co with
    | none => rfl
    | some c => exact hsuits c rfl
  have hcarries : (so.isNone && co.isNone) = false := by
    obtain h | h := hsome
    · rw [Option.isNone_eq_false_iff.2 (Option.isSome_iff_ne_none.2 h), Bool.false_and]
    · rw [Option.isNone_eq_false_iff.2 (Option.isSome_iff_ne_none.2 h), Bool.and_false]
  rw [setOutput_known, if_pos hfits, hcarries, if_neg Bool.false_ne_true]

/-- A command suits a contactor unless it is a level, and an indicator line only if it is one. -/
theorem commandSuits_eq_false (o : OutputLine) (c : OutputCommand) :
    commandSuits o c = false ↔ ((∃ f, o = .contactor f) ↔ (c = .asserted ∨ c = .deasserted)) := by
  cases o <;> cases c <;> simp [commandSuits]

theorem setOutput_outside {l : Code OutputLine} {so : Option (Code OutputSource)} {co : Option (Code OutputCommand)}
    (hout : l = .unknown ∨ so = some .unknown ∨ co = some .unknown ∨
      ∃ o c, l = .known o ∧ co = some (.known c) ∧ ((∃ f, o = .contactor f) ↔ (c = .asserted ∨ c = .deasserted))) (b : Blocks) :
    setOutput l so co b = (b, refuse .outOfRange) := by
  obtain rfl | rfl | rfl | ⟨o, c, rfl, rfl, hmismatch⟩ := hout
  · rfl
  · cases l <;> rfl
  · cases l with
    | unknown => rfl
    | known o =>
      cases so with
      | none => rfl
      | some x => cases x <;> rfl
  · have hsuits := (commandSuits_eq_false o c).2 hmismatch
    cases so with
    | none => exact (setOutput_known o none (some c) b).trans (if_neg (by rw [Option.map_some, Option.getD_some, hsuits]; exact Bool.false_ne_true))
    | some x =>
      cases x with
      | unknown => rfl
      | known x =>
        exact (setOutput_known o (some x) (some c) b).trans (if_neg (by rw [Option.map_some, Option.getD_some, hsuits]; exact Bool.false_ne_true))

theorem map_contactorCommand (co : Option Bool) :
    co.map (fun c => Code.known (if c then OutputCommand.closed else .open_)) = (co.map contactorCommand).map .known := by
  rw [Option.map_map]
  rfl

theorem map_indicatorCommand (co : Option Bool) :
    co.map (fun c => Code.known (if c then OutputCommand.asserted else .deasserted)) = (co.map indicatorCommand).map .known := by
  rw [Option.map_map]
  rfl

/-- An indicator line's record after Set Output is the one that its source, its command and its level give. -/
theorem setIndicator_eq {so : Option OutputSource} {co : Option Bool} {level : Bool} {i j : Indicator}
    (hsource : j.source = so.getD i.source) (hcommand : j.command = co.getD i.command)
    (hoperator : j.source = .operator → j.output = j.command) (hschedule : j.source = .schedule → j.output = level) :
    setIndicator so (co.map indicatorCommand) level i = j := by
  obtain ⟨source, command, output⟩ := j
  have hstored : ((co.map indicatorCommand).map (fun c => decide (c = .asserted))).getD i.command = co.getD i.command := by
    cases co with
    | none => rfl
    | some c => cases c <;> rfl
  simp only at hsource hcommand hoperator hschedule
  unfold setIndicator
  rw [hstored, ← hsource, ← hcommand]
  cases source with
  | schedule => rw [hschedule rfl]; rfl
  | operator => rw [hoperator rfl]; rfl

/-- R70, R172: the condition of Show Live. -/
theorem showLiveScheduled_iff (b : Blocks) :
    b.showLiveScheduled = true ↔
      ∃ o ∈ b.active, 0 < o.tier.rank ∧ ∃ h ∈ b.holding, h.holder.map (fun k => k.id) = some o.id := by
  unfold Blocks.showLiveScheduled
  simp only [List.any_eq_true, Bool.and_eq_true, decide_eq_true_eq, beq_iff_eq]

theorem commandSuits_contactor {f : Fin 4} {co : Option Bool} (c : OutputCommand) (h : co.map contactorCommand = some c) :
    commandSuits (.contactor f) c = true := by
  obtain ⟨x, -, rfl⟩ := Option.map_eq_some_iff.1 h
  cases x <;> rfl

theorem commandSuits_showLive {co : Option Bool} (c : OutputCommand) (h : co.map indicatorCommand = some c) :
    commandSuits .showLive c = true := by
  obtain ⟨x, -, rfl⟩ := Option.map_eq_some_iff.1 h
  cases x <;> rfl

theorem commandSuits_curfewActive {co : Option Bool} (c : OutputCommand) (h : co.map indicatorCommand = some c) :
    commandSuits .curfewActive c = true := by
  obtain ⟨x, -, rfl⟩ := Option.map_eq_some_iff.1 h
  cases x <;> rfl

theorem map_ne_none {α β : Type} {x : Option α} (g : α → β) (h : x ≠ none) : x.map g ≠ none :=
  fun hmap => h (Option.map_eq_none_iff.1 hmap)

/-- Settles O60, a clause for each command of Feeder Control. -/
theorem feederCommands : Obligations.FeederCommands := by
  unfold Obligations.FeederCommands
  refine ⟨fun s f t0 hsized hidle => ?_, fun s r f hasks hf hsized htripped => ?_, fun s r f hasks hf hnormal => ?_,
    fun s r f hasks hf => ?_, fun s r f p m hasks hout => ?_, fun s r f p m x hasks hf hsized hp hm hx => ?_,
    fun s r l so co hasks => ⟨fun hout => ?_, fun o hl hso hco => ?_⟩,
    fun s r f so co x hasks hsome hsized hdeferral hx => ?_, fun s r so co i j hasks hsome hi hsource hcommand hoperator hschedule => ?_,
    fun s r so co i j hasks hsome hi hsource hcommand hoperator hschedule => ?_, fun s r c f hasks hsized => ?_,
    fun s r so c i hasks hi => ?_⟩
  · have hf : f.val < s.blocks.feeders.length := by rw [hsized]; exact f.isLt
    have hlength : f.val < (idleStopped f (t0 + 600000000) s.blocks).feeders.length := by simpa [idleStopped] using hf
    have hrecords := setContactor_records f false (idleStopped f (t0 + 600000000) s.blocks)
    have hstopped : (idleStopped f (t0 + 600000000) s.blocks).feeder f = { s.blocks.feeder f with idleFrom := none } :=
      updateFeeder_feeder_self (s.blocks.advanceTo _) f _ hf
    refine ⟨_, exec_idleTimerExpiry hidle, rfl, ?_, ?_, fun hclosed => setContactor_told f false _ ?_, fun g _ hg => ?_, ?_, ?_⟩
    · show (setContactor f false (idleStopped f (t0 + 600000000) s.blocks)).feeder f = _
      rw [setContactor_feeder _ _ _ hlength, hstopped]
    · show (setContactor f false (idleStopped f (t0 + 600000000) s.blocks)).ownUs = _
      rw [hrecords]
      rfl
    · rw [hstopped]
      show (s.blocks.feeder f).closed ≠ false
      rw [hclosed]
      exact Bool.true_eq_false_eq_False
    · show (setContactor f false (idleStopped f (t0 + 600000000) s.blocks)).feeder g = _
      rw [setContactor_feeder_other f false _ hg]
      exact updateFeeder_feeder_other hg _ (s.blocks.advanceTo _)
    · show (setContactor f false (idleStopped f (t0 + 600000000) s.blocks)).zones = _
      rw [hrecords]
      rfl
    · show (setContactor f false (idleStopped f (t0 + 600000000) s.blocks)).bookings = _
      rw [hrecords]
      rfl
  · have hlength : f < s.blocks.feeders.length := by omega
    obtain ⟨idle, hrecord⟩ := reclosed_feeder hlength
    have hrecords : TouchesRecords (fadeUpFeeder f (tripCleared f s.blocks)) (driveReclosed f (fadeUpFeeder f (tripCleared f s.blocks))) := by
      rw [driveReclosed_eq]
      exact (driveStopped_records f _).trans (setContactor_records f _ _)
    refine ⟨_, by rw [exec_recloseFeeder hasks, recloseFeeder_of_tripped hf htripped], by rw [hrecord], by rw [hrecord], ?_,
      fun hsized z => ?_, fun hchanged => reclosed_told hlength ?_, fun g _ hg => reclosed_feeder_other hg s.blocks, ?_, ?_⟩
    · rw [hrecord]
      rfl
    · have hzone : (driveReclosed f (fadeUpFeeder f (tripCleared f s.blocks))).zone? z =
          (fadeUpFeeder f (tripCleared f s.blocks)).zone? z := zone?_congr (by rw [hrecords]) z
      rw [hzone, fadeUpFeeder_zone? f (b := tripCleared f s.blocks) hsized.1]
      rfl
    · rw [hrecord] at hchanged
      exact hchanged
    · rw [hrecords, fadeUpFeeder_fades]
      rfl
    · rw [hrecords, fadeUpFeeder_fades]
      rfl
  · rw [exec_recloseFeeder hasks, recloseFeeder_of_normal hf hnormal]
  · rw [exec_recloseFeeder hasks, recloseFeeder_of_lt hf]
  · rw [exec_configureFeeder hasks, configureFeeder_outside s.blocks hout]
  · subst hx
    rw [exec_configureFeeder hasks, configureFeeder_within s.blocks hf hp hm (by omega)]
    rfl
  · rw [exec_setOutput hasks, setOutput_outside hout]
  · subst hl hso hco
    rw [exec_setOutput hasks]
    rfl
  · subst hx
    have hf : f.val < s.blocks.feeders.length := by rw [hsized]; exact f.isLt
    rw [map_contactorCommand] at hasks
    refine ⟨setContactorOutput f so (co.map contactorCommand) s.blocks, ?_, ?_⟩
    · rw [exec_setOutput hasks, setOutput_drives commandSuits_contactor (hsome.imp_right (map_ne_none _))]
      rfl
    · cases hsource : (outputStored so co (s.blocks.feeder f)).source with
      | operator =>
        obtain ⟨honly, hrecord, htold⟩ := setContactorOutput_commands hf hsource
        have hnever : ∀ {P : Prop}, (outputStored so co (s.blocks.feeder f)).source = .schedule → P := fun h => by
          rw [hsource] at h; cases h
        exact ⟨fun _ => hrecord, hnever, hnever, htold, honly⟩
      | schedule =>
        obtain ⟨honly, hrecord, htold⟩ := setContactorOutput_follows hf hdeferral hsource
        have hnever : ∀ {P : Prop}, (outputStored so co (s.blocks.feeder f)).source = .operator → P := fun h => by
          rw [hsource] at h; cases h
        refine ⟨hnever, fun _ hkept => hrecord.trans (if_neg ?_),
          fun _ hwas hnormal => hrecord.trans (if_pos ⟨hwas, hnormal⟩), htold, honly⟩
        rintro ⟨hwas, hnormal⟩
        obtain hkept | hkept := hkept
        · exact nomatch hwas.symm.trans hkept
        · exact nomatch hnormal.symm.trans hkept
  · subst hi
    rw [map_indicatorCommand] at hasks
    have hline := setIndicator_eq (level := s.blocks.showLiveScheduled) hsource hcommand hoperator
      (fun h => Bool.eq_iff_iff.2 ((hschedule h).trans (showLiveScheduled_iff s.blocks).symm))
    have hdriven : driveLine .showLive so (co.map indicatorCommand) s.blocks = { s.blocks with showLive := j } := by
      rw [← hline]
      rfl
    rw [exec_setOutput hasks, setOutput_drives commandSuits_showLive (hsome.imp_right (map_ne_none _)), hdriven]
    rfl
  · subst hi
    rw [map_indicatorCommand] at hasks
    have hline := setIndicator_eq hsource hcommand hoperator hschedule
    have hdriven : driveLine .curfewActive so (co.map indicatorCommand) s.blocks = { s.blocks with curfewActive := j } := by
      rw [← hline]
      rfl
    rw [exec_setOutput hasks, setOutput_drives commandSuits_curfewActive (hsome.imp_right (map_ne_none _)), hdriven]
    rfl
  · have hf : f.val < s.blocks.feeders.length := by rw [hsized]; exact f.isLt
    obtain ⟨honly, hrecord, -⟩ := setContactorOutput_commands (so := some .operator) (co := some c) hf rfl
    have hdrives := setOutput_drives (o := .contactor f) (so := some .operator) (co := (some c).map contactorCommand)
      commandSuits_contactor (.inl nofun) s.blocks
    refine ⟨setContactorOutput f (some .operator) ((some c).map contactorCommand) s.blocks, ?_, hrecord,
      fun g _ hg => honly.other hg, ?_, ?_⟩
    · rw [exec_setOutput hasks]
      exact congrArg (fun p : Blocks × Answer => Host.Outcome.next (replied s r p.1 p.2)) hdrives
    · rw [honly]
    · rw [honly]
  · have hdrives := setOutput_drives (o := .curfewActive) (so := some so) (co := (some c).map indicatorCommand)
      commandSuits_curfewActive (.inl nofun) s.blocks
    have hline : setIndicator (some so) ((some c).map indicatorCommand) s.blocks.chain.windowOpen s.blocks.curfewActive = i := by
      subst hi
      cases so with
      | schedule => exact setIndicator_eq rfl rfl nofun (fun _ => rfl)
      | operator => exact setIndicator_eq rfl rfl (fun _ => rfl) nofun
    have hdriven : driveLine .curfewActive (some so) ((some c).map indicatorCommand) s.blocks = { s.blocks with curfewActive := i } := by
      rw [← hline]
      rfl
    have hsource : i.source = so := by rw [hi]
    have hcommand : i.command = c := by rw [hi]
    rw [hdriven] at hdrives
    rw [exec_setOutput hasks, ← hsource, ← hcommand]
    rw [← hsource, ← hcommand] at hdrives
    exact congrArg (fun p : Blocks × Answer => Host.Outcome.next (replied s r p.1 p.2)) hdrives

end Sys2Proof.Machine

/-! PROOFS. The requests that only read: obligations O47 and O48. -/

namespace Sys2Proof.Machine

/-! ## Each report's answer -/

theorem bookingNumber_out {n : Nat} (h : n = 0 ∨ 65534 < n) : bookingNumber n = false := by
  rw [← Bool.not_eq_true, bookingNumber_iff]
  omega

section
variable (b : Blocks)

theorem lookUp_out {n : Nat} (h : n = 0 ∨ 65534 < n) : lookUp n b = (b, refuse .outOfRange) := by
  unfold lookUp
  rw [bookingNumber_out h]
  rfl

theorem lookUp_free {n : Nat} (hn : bookingNumber n = true) (h : b.booking? n = none) : lookUp n b = (b, refuse .noSuchRecord) := by
  unfold lookUp
  rw [hn, h]
  rfl

theorem lookUp_found {n : Nat} {k : Booking} (hn : bookingNumber n = true) (h : b.booking? n = some k) :
    lookUp n b = (b, okWith (.booking (b.bookingView k))) := by
  unfold lookUp
  rw [hn, h]
  rfl

theorem programReport_out {n : Nat} (h : 64 ≤ n) : programReport n b = (b, refuse .outOfRange) := if_pos h

theorem programReport_found {n : Nat} (h : n < 64) : programReport n b = (b, okWith (.program (b.programView n))) :=
  if_neg (not_le.2 h)

theorem zoneReport_out {z : Nat} (h : 96 ≤ z) : zoneReport z b = (b, refuse .outOfRange) := if_pos h

theorem zoneReport_found {z : Nat} (h : z < 96) : zoneReport z b = (b, okWith (.zone (b.zoneView z))) := if_neg (not_le.2 h)

theorem riserReport_out {n : Nat} (h : 4 ≤ n) : riserReport n b = (b, refuse .outOfRange) := if_pos h

theorem riserReport_found {n : Nat} (h : n < 4) : riserReport n b = (b, okWith (.riser (b.riserView n))) :=
  if_neg (not_lt.2 (Nat.le_of_lt_succ h))

theorem feederReport_out {n : Nat} (h : 4 ≤ n) : feederReport n b = (b, refuse .outOfRange) := if_pos h

theorem feederReport_found {n : Nat} (h : n < 4) : feederReport n b = (b, okWith (.feeder (b.feederView n))) :=
  if_neg (not_lt.2 (Nat.le_of_lt_succ h))

end

/-- Settles O47, an answer for each report. -/
theorem reportsChangeNothing : Obligations.ReportsChangeNothing := by
  unfold Obligations.ReportsChangeNothing
  intro s r
  refine ⟨fun n k hasks hlow hhigh hk => ?_, fun n hasks => ⟨fun hout => ?_, fun hlow hhigh hnone => ?_⟩, fun n hasks h => ?_,
    fun n hasks h => ?_, fun n hasks h => ?_, fun n hasks h => ?_, fun start n l hasks hl => ?_, fun n hasks h => ?_,
    fun z hasks h => ?_, fun n hasks h => ⟨?_, ?_, rfl⟩, fun hasks => ?_, fun hasks => ?_, fun n hasks h => ⟨?_, rfl, rfl⟩⟩
  · rw [exec_lookUp hasks, lookUp_found s.blocks ((bookingNumber_iff n).2 ⟨hlow, hhigh⟩) hk]
    rfl
  · rw [exec_lookUp hasks, lookUp_out s.blocks hout]
  · rw [exec_lookUp hasks, lookUp_free s.blocks ((bookingNumber_iff n).2 ⟨hlow, hhigh⟩) hnone]
  · rw [exec_programReport hasks, programReport_out s.blocks h]
  · rw [exec_zoneReport hasks, zoneReport_out s.blocks h]
  · rw [exec_riserReport hasks, riserReport_out s.blocks h]
  · rw [exec_feederReport hasks, feederReport_out s.blocks h]
  · subst hl
    exact exec_listUpcoming hasks
  · rw [exec_programReport hasks, programReport_found s.blocks h]
  · rw [exec_zoneReport hasks, zoneReport_found s.blocks h]
    rfl
  · rw [exec_riserReport hasks, riserReport_found s.blocks h]
  · show ((s.blocks.riser n).queue.map exchangeView).map (fun e => (e.slot, e.attempts)) = _
    rw [List.map_map]
    rfl
  · exact exec_cueReport hasks
  · exact exec_chainReport hasks
  · rw [exec_feederReport hasks, feederReport_found s.blocks h]

/-! ## Forecast (R24, R25) -/

theorem covers_iff (c : Contender) (t : Instant) : c.covers t = true ↔ c.start ≤ t ∧ t < c.finish := by
  unfold Contender.covers
  rw [Bool.and_eq_true, decide_eq_true_eq, decide_eq_true_eq]

theorem countsOn_iff (base : Nat) (f : BookingFields) (d : Nat) :
    countsOn base f d = true ↔ f.pattern.first ≤ d ∧ d ≤ f.pattern.last ∧ d ∉ f.skip ∧
      (f.pattern.kind = .weekly → (base + d) % 7 ∈ f.pattern.weekdays) := by
  unfold countsOn runsOn weekday
  rw [Bool.and_eq_true, Bool.and_eq_true, Bool.and_eq_true, Bool.or_eq_true, Bool.not_eq_true']
  simp only [decide_eq_true_eq, decide_eq_false_iff_not, and_assoc, ne_eq]
  rw [imp_iff_not_or]

/-- The window of a booking on a day, by the active occurrence on its own day and by the pattern on any other. -/
theorem forecastDay_of_active {b : Blocks} {k : Booking} {d : Nat} {o : Occurrence} (hcounts : countsOn b.time.base k.fields d = true)
    (ho : b.active? k.number = some o) (hday : o.day = d) :
    b.forecastDay k d = some ⟨k.number, k.fields.tier, d, o.start, o.finish, k.marks.any⟩ := by
  have hown : (b.active? k.number).filter (fun o => o.day == d) = some o := by
    rw [ho, Option.filter_some, if_pos (beq_iff_eq.2 hday)]
  unfold Blocks.forecastDay
  rw [if_pos hcounts, hown]

theorem forecastDay_of_window {b : Blocks} {k : Booking} {d : Nat} {w : Window} (hcounts : countsOn b.time.base k.fields d = true)
    (hother : ∀ o, b.active? k.number = some o → o.day ≠ d) (hw : windowOf b.almanac k.fields none d = .window w) :
    b.forecastDay k d = some ⟨k.number, k.fields.tier, d, w.start, w.finish, w.estimated⟩ := by
  have hnone : (b.active? k.number).filter (fun o => o.day == d) = none := by
    rw [Option.filter_eq_none_iff]
    intro o ho
    simp [hother o ho]
  unfold Blocks.forecastDay
  rw [if_pos hcounts, hnone]
  simp only [hw]

theorem forecastDay_eq_some (b : Blocks) (k : Booking) (d : Nat) (c : Contender) :
    b.forecastDay k d = some c ↔ countsOn b.time.base k.fields d = true ∧
      ((∃ o, b.active? k.number = some o ∧ o.day = d ∧ c = ⟨k.number, k.fields.tier, d, o.start, o.finish, k.marks.any⟩) ∨
        ((∀ o, b.active? k.number = some o → o.day ≠ d) ∧ ∃ w, windowOf b.almanac k.fields none d = .window w ∧
          c = ⟨k.number, k.fields.tier, d, w.start, w.finish, w.estimated⟩)) := by
  by_cases hcounts : countsOn b.time.base k.fields d = true
  · by_cases hown : ∃ o, b.active? k.number = some o ∧ o.day = d
    · obtain ⟨o, ho, hday⟩ := hown
      rw [forecastDay_of_active hcounts ho hday, Option.some.injEq]
      constructor
      · rintro rfl
        exact ⟨hcounts, .inl ⟨o, ho, hday, rfl⟩⟩
      · rintro ⟨-, ⟨p, hp, -, rfl⟩ | ⟨hother, -⟩⟩
        · cases ho.symm.trans hp
          rfl
        · exact absurd hday (hother o ho)
    · have hother : ∀ o, b.active? k.number = some o → o.day ≠ d := fun o ho hday => hown ⟨o, ho, hday⟩
      have hnone : (b.active? k.number).filter (fun o => o.day == d) = none := by
        rw [Option.filter_eq_none_iff]
        intro o ho
        simp [hother o ho]
      constructor
      · intro h
        refine ⟨hcounts, .inr ⟨hother, ?_⟩⟩
        cases hw : windowOf b.almanac k.fields none d with
        | window w =>
          rw [forecastDay_of_window hcounts hother hw] at h
          exact ⟨w, rfl, (Option.some.inj h).symm⟩
        | noTime => simp [Blocks.forecastDay, hcounts, hnone, hw] at h
        | absent => simp [Blocks.forecastDay, hcounts, hnone, hw] at h
        | noValidEnd st => simp [Blocks.forecastDay, hcounts, hnone, hw] at h
      · rintro ⟨-, ⟨o, ho, hday, -⟩ | ⟨-, w, hw, rfl⟩⟩
        · exact absurd hday (hother o ho)
        · exact forecastDay_of_window hcounts hother hw
  · constructor
    · intro h
      unfold Blocks.forecastDay at h
      rw [if_neg hcounts] at h
      cases h
    · exact fun h => absurd h.1 hcounts

/-- R24: a booking contends by the earlier of the two days whose window covers the instant. -/
theorem contender_eq_some (b : Blocks) (t z : Nat) (k : Booking) (c : Contender) :
    b.contender t z k = some c ↔ z ∈ k.fields.zones ∧ c.start ≤ t ∧ (t : Int) < c.finish ∧
      ∃ day : Nat, (day = t / 86400000 ∨ day + 1 = t / 86400000) ∧ b.forecastDay k day = some c ∧
        (day = t / 86400000 → ∀ e c', e + 1 = day → b.forecastDay k e = some c' → ¬(c'.start ≤ t ∧ (t : Int) < c'.finish)) := by
  have hcovering : ∀ d c, ((b.forecastDay k d).filter (fun c => c.covers t)) = some c ↔
      b.forecastDay k d = some c ∧ c.start ≤ t ∧ (t : Int) < c.finish := by
    intro d c
    rw [Option.filter_eq_some_iff, covers_iff]
  have hmissing : ∀ d, ((b.forecastDay k d).filter (fun c => c.covers t)) = none ↔
      ∀ c, b.forecastDay k d = some c → ¬(c.start ≤ t ∧ (t : Int) < c.finish) := by
    intro d
    rw [Option.filter_eq_none_iff]
    simp only [covers_iff]
  unfold Blocks.contender
  by_cases hz : z ∈ k.fields.zones
  · rw [if_pos hz]
    unfold forecastDays
    by_cases hfirst : t / 86400000 = 0
    · rw [if_pos hfirst, List.findSome?_singleton, hcovering]
      constructor
      · rintro ⟨hday, hstart, hfinish⟩
        exact ⟨hz, hstart, hfinish, 0, .inl hfirst.symm, hday, fun _ e c' he => by omega⟩
      · rintro ⟨-, hstart, hfinish, day, hwhich, hday, -⟩
        obtain rfl : day = 0 := by omega
        exact ⟨hday, hstart, hfinish⟩
    · rw [if_neg hfirst, List.findSome?_cons]
      cases hbefore : (b.forecastDay k (t / 86400000 - 1)).filter (fun c => c.covers t) with
      | some c' =>
        obtain ⟨hday', hstart', hfinish'⟩ := (hcovering _ c').1 hbefore
        constructor
        · intro h
          cases h
          exact ⟨hz, hstart', hfinish', t / 86400000 - 1, .inr (by omega), hday', fun h => by omega⟩
        · rintro ⟨-, hstart, hfinish, day, hwhich, hday, hearlier⟩
          obtain rfl | hwhich := hwhich
          · exact absurd ⟨hstart', hfinish'⟩ (hearlier rfl (t / 86400000 - 1) c' (by omega) hday')
          · obtain rfl : day = t / 86400000 - 1 := by omega
            exact hday'.symm.trans hday
      | none =>
        have hnot := (hmissing _).1 hbefore
        show [t / 86400000].findSome? _ = some c ↔ _
        rw [List.findSome?_singleton, hcovering]
        constructor
        · rintro ⟨hday, hstart, hfinish⟩
          refine ⟨hz, hstart, hfinish, t / 86400000, .inl rfl, hday, fun _ e c' he => ?_⟩
          obtain rfl : e = t / 86400000 - 1 := by omega
          exact hnot c'
        · rintro ⟨-, hstart, hfinish, day, hwhich, hday, -⟩
          obtain rfl | hwhich := hwhich
          · exact ⟨hday, hstart, hfinish⟩
          · obtain rfl : day = t / 86400000 - 1 := by omega
            exact absurd ⟨hstart, hfinish⟩ (hnot c hday)
  · rw [if_neg hz]
    exact ⟨nofun, fun h => absurd h.1 hz⟩

/-! ## The ranking (R25) -/

theorem mem_insertContender (x c : Contender) (l : List Contender) : c ∈ insertContender x l ↔ c = x ∨ c ∈ l := by
  induction l with
  | nil => simp [insertContender]
  | cons y ys ih =>
    unfold insertContender
    split
    · simp
    · simp only [List.mem_cons, ih]
      tauto

theorem mem_contenders (b : Blocks) (t z : Nat) (c : Contender) :
    c ∈ b.contenders t z ↔ ∃ k ∈ b.bookings, b.contender t z k = some c := by
  rw [← List.mem_filterMap]
  unfold Blocks.contenders
  induction b.bookings.filterMap (b.contender t z) with
  | nil => exact Iff.rfl
  | cons x xs ih => rw [List.foldr_cons, mem_insertContender, ih, List.mem_cons]

theorem ranksBefore_iff (x y : Contender) :
    ranksBefore x y = true ↔ y.tier.rank < x.tier.rank ∨ (x.tier.rank = y.tier.rank ∧
      (y.start < x.start ∨ (x.start = y.start ∧ x.number < y.number))) := by
  unfold ranksBefore
  simp only [Bool.or_eq_true, Bool.and_eq_true, decide_eq_true_eq]

/-- Comparing by a rank, then by an instant, then by a number is asymmetric. -/
theorem rankedBefore_asymm {p q m n : Nat} {s u : Int} (h : q < p ∨ (p = q ∧ (u < s ∨ (s = u ∧ m < n)))) :
    ¬(p < q ∨ (q = p ∧ (s < u ∨ (u = s ∧ n < m)))) := by omega

/-- And what does not go before one that does not go before a third does not go before that. -/
theorem rankedBefore_negTrans {p q r m n o : Nat} {s u v : Int} (h : ¬(p < q ∨ (q = p ∧ (s < u ∨ (u = s ∧ n < m)))))
    (k : ¬(q < r ∨ (r = q ∧ (u < v ∨ (v = u ∧ o < n))))) : ¬(p < r ∨ (r = p ∧ (s < v ∨ (v = s ∧ o < m)))) := by omega

theorem ranksBefore_asymm {x y : Contender} (h : ranksBefore x y = true) : ranksBefore y x = false := by
  rw [← Bool.not_eq_true, ranksBefore_iff]
  exact rankedBefore_asymm ((ranksBefore_iff x y).1 h)

theorem ranksBefore_negTrans {x y z : Contender} (hxy : ranksBefore y x = false) (hyz : ranksBefore z y = false) :
    ranksBefore z x = false := by
  rw [← Bool.not_eq_true, ranksBefore_iff] at *
  exact rankedBefore_negTrans hxy hyz

theorem insertContender_ranked (x : Contender) {l : List Contender} (h : l.Pairwise (fun x y => ranksBefore y x = false)) :
    (insertContender x l).Pairwise (fun x y => ranksBefore y x = false) := by
  induction l with
  | nil => exact List.pairwise_singleton _ _
  | cons y ys ih =>
    obtain ⟨hy, hys⟩ := List.pairwise_cons.1 h
    unfold insertContender
    split
    · next hbefore =>
      refine List.pairwise_cons.2 ⟨fun c hc => ?_, h⟩
      obtain rfl | hc := List.mem_cons.1 hc
      · exact ranksBefore_asymm hbefore
      · exact ranksBefore_negTrans (ranksBefore_asymm hbefore) (hy c hc)
    · next hafter =>
      refine List.pairwise_cons.2 ⟨fun c hc => ?_, ih hys⟩
      obtain rfl | hc := (mem_insertContender x c ys).1 hc
      · exact Bool.eq_false_iff.2 hafter
      · exact hy c hc

theorem contenders_ranked (b : Blocks) (t z : Nat) : (b.contenders t z).Pairwise (fun x y => ranksBefore y x = false) := by
  unfold Blocks.contenders
  induction b.bookings.filterMap (b.contender t z) with
  | nil => exact List.Pairwise.nil
  | cons x xs ih => exact insertContender_ranked x ih

/-- R25: an instant lies within reach of a Forecast up to the last day, and within 400 days of a set civil time. -/
theorem withinReach_iff (b : Blocks) (t : Nat) :
    b.withinReach t = true ↔ t ≤ 5662310399999 ∧
      ∀ now, b.time.now = some now → (t : Int) - now ≤ 34560000000 ∧ now - t ≤ 34560000000 := by
  have hlast : ((t : Int) ≤ Config.lastInstant) ↔ t ≤ 5662310399999 := by
    show (t : Int) ≤ 5662310399999 ↔ _
    omega
  unfold Blocks.withinReach
  rw [Bool.and_eq_true, decide_eq_true_eq, hlast]
  refine and_congr_right fun _ => ?_
  cases b.time.now with
  | none => simp
  | some now =>
    show (decide ((t : Int) - now ≤ 34560000000) && decide (now - (t : Int) ≤ 34560000000)) = true ↔ _
    rw [Bool.and_eq_true, decide_eq_true_eq, decide_eq_true_eq]
    simp

theorem forecast_out {t z : Nat} {b : Blocks} (h : 96 ≤ z ∨ b.withinReach t = false) : forecast t z b = (b, refuse .outOfRange) := by
  refine if_pos ?_
  obtain hz | hreach := h
  · rw [decide_eq_true (show Config.zoneCount ≤ z from hz), Bool.true_or]
  · rw [hreach, Bool.not_false, Bool.or_true]

theorem forecast_within {t z : Nat} {b : Blocks} (hz : z < 96) (hreach : b.withinReach t = true) :
    forecast t z b = (b, okWith (.forecast (b.contenders t z).head? ((b.contenders t z).tail.take 8)
      ((b.contenders t z).tail.length - 8))) := by
  refine if_neg ?_
  rw [decide_eq_false (show ¬Config.zoneCount ≤ z from not_le.2 hz), hreach]
  exact Bool.false_ne_true

/-- Settles O48: `contender_eq_some` says who contends, and `contenders_ranked` in which order. -/
theorem forecastRanksTheContenders : Obligations.ForecastRanksTheContenders := by
  unfold Obligations.ForecastRanksTheContenders
  refine ⟨contender_eq_some, fun b k day c => ?_, fun s r t z hasks hout => ?_, fun s r t z hasks hz hlast hreach => ?_⟩
  · rw [forecastDay_eq_some, countsOn_iff, and_assoc, and_assoc, and_assoc]
    rfl
  · rw [exec_forecast hasks, forecast_out]
    obtain hz | hlate | ⟨now, hnow, hfar⟩ := hout
    · exact .inl hz
    · right
      rw [← Bool.not_eq_true, withinReach_iff]
      omega
    · right
      rw [← Bool.not_eq_true, withinReach_iff]
      intro h
      obtain ⟨hafter, hbefore⟩ := h.2 now hnow
      exact hfar.elim (not_lt.2 hafter) (not_lt.2 hbefore)
  · refine ⟨s.blocks.contenders t z, ?_, contenders_ranked _ t z, mem_contenders s.blocks t z, fun c hc => ?_⟩
    · rw [exec_forecast hasks, forecast_within hz ((withinReach_iff s.blocks t).2 ⟨hlast, hreach⟩)]
    · obtain ⟨k, -, hk⟩ := (mem_contenders s.blocks t z c).1 hc
      obtain ⟨-, hstart, hfinish, -⟩ := (contender_eq_some s.blocks t z k c).1 hk
      exact ⟨hstart, hfinish⟩

end Sys2Proof.Machine

/-! PROOFS. The search for the next occurrence: obligation O44. -/

namespace Sys2Proof.Machine

/-! ## The window of a pattern day (R27 to R29) -/

/-- Whether a boundary lets a start pass (R30 step 3). -/
def AtOrAfter (bd : Option Instant) (start : Instant) : Prop := ∀ x, bd = some x → x ≤ start

/-- Whether a start lies before a boundary. -/
def startsBefore (bd : Option Instant) (start : Instant) : Bool :=
  match bd with
  | some x => decide (start < x)
  | none => false

theorem startsBefore_eq_false (bd : Option Instant) (start : Instant) : startsBefore bd start = false ↔ AtOrAfter bd start := by
  unfold AtOrAfter startsBefore
  cases bd with
  | none => simp
  | some x => simp

/-- What a usable start that no boundary bars gives, by its end (R29). -/
def windowEnding (alm : List AlmanacDay) (f : BookingFields) (d : Nat) (start : Instant) (est : Bool) : WindowAnswer :=
  match endInstant alm d start f.finish with
  | .noTime => .noTime
  | .noValidEnd => .noValidEnd start
  | .ends e est' => if Config.lastInstant < e then .absent else .window ⟨d, start, e, ⟨est, est'⟩⟩

section
variable {alm : List AlmanacDay} {f : BookingFields} {bd : Option Instant} {d : Nat}

theorem windowOf_of_no_start (hstart : anchorInstant alm d f.start = none) : windowOf alm f bd d = .noTime := by
  unfold windowOf
  rw [hstart]

theorem windowOf_of_start {start : Instant} {est : Bool} (hstart : anchorInstant alm d f.start = some (start, est)) :
    windowOf alm f bd d =
      if start < 0 then .absent else if startsBefore bd start then .absent else windowEnding alm f d start est := by
  unfold windowOf
  rw [hstart]
  rfl

theorem windowEnding_eq_window {start : Instant} {est : Bool} {w : Window} :
    windowEnding alm f d start est = .window w ↔
      ∃ est', endInstant alm d start f.finish = .ends w.finish est' ∧ w.finish ≤ Config.lastInstant ∧ w = ⟨d, start, w.finish, ⟨est, est'⟩⟩ := by
  unfold windowEnding
  cases hend : endInstant alm d start f.finish with
  | noTime => simp
  | noValidEnd => simp
  | ends e est' =>
    by_cases hlast : Config.lastInstant < e
    · simp only [if_pos hlast, EndAnswer.ends.injEq]
      constructor
      · exact nofun
      · rintro ⟨-, ⟨rfl, -⟩, hle, -⟩
        exact absurd hlast (not_lt.2 hle)
    · simp only [if_neg hlast, WindowAnswer.window.injEq, EndAnswer.ends.injEq]
      constructor
      · rintro rfl
        exact ⟨est', ⟨rfl, rfl⟩, not_lt.1 hlast, rfl⟩
      · rintro ⟨est'', ⟨he, rfl⟩, -, hw⟩
        rw [hw, he]

/-- A window is one start and one end, both usable. -/
theorem windowOf_eq_window {w : Window} :
    windowOf alm f bd d = .window w ↔
      ∃ est est', anchorInstant alm d f.start = some (w.start, est) ∧ 0 ≤ w.start ∧ AtOrAfter bd w.start ∧
        endInstant alm d w.start f.finish = .ends w.finish est' ∧ w.finish ≤ Config.lastInstant ∧
        w = ⟨d, w.start, w.finish, ⟨est, est'⟩⟩ := by
  cases hstart : anchorInstant alm d f.start with
  | none =>
    rw [windowOf_of_no_start hstart]
    simp
  | some p =>
    obtain ⟨start, est⟩ := p
    rw [windowOf_of_start hstart]
    simp only [Option.some.injEq, Prod.mk.injEq]
    by_cases hneg : start < 0
    · rw [if_pos hneg]
      constructor
      · exact nofun
      · rintro ⟨-, -, ⟨rfl, -⟩, hpos, -⟩
        exact absurd hneg (not_lt.2 hpos)
    · rw [if_neg hneg]
      cases hbefore : startsBefore bd start with
      | true =>
        rw [if_pos rfl]
        constructor
        · exact nofun
        · rintro ⟨-, -, ⟨rfl, -⟩, -, hafter, -⟩
          rw [(startsBefore_eq_false bd _).2 hafter] at hbefore
          cases hbefore
      | false =>
        rw [if_neg Bool.false_ne_true, windowEnding_eq_window]
        constructor
        · rintro ⟨est', hend, hlast, hw⟩
          have hsame : w.start = start := by rw [hw]
          rw [hsame]
          exact ⟨est, est', ⟨rfl, rfl⟩, not_lt.1 hneg, (startsBefore_eq_false bd start).1 hbefore, hend, hlast, hw⟩
        · rintro ⟨est, est', ⟨rfl, rfl⟩, -, -, hend, hlast, hw⟩
          exact ⟨est', hend, hlast, hw⟩

theorem windowEnding_eq_noValidEnd {start st : Instant} {est : Bool} (h : windowEnding alm f d start est = .noValidEnd st) : st = start := by
  unfold windowEnding at h
  cases hend : endInstant alm d start f.finish with
  | noTime => simp only [hend] at h; cases h
  | noValidEnd => simp only [hend] at h; cases h; rfl
  | ends e est' => simp only [hend] at h; split at h <;> cases h

/-- A day disposed of as Skipped starts no earlier than the boundary. -/
theorem windowOf_eq_noValidEnd {st : Instant} (h : windowOf alm f bd d = .noValidEnd st) : AtOrAfter bd st := by
  cases hstart : anchorInstant alm d f.start with
  | none => rw [windowOf_of_no_start hstart] at h; cases h
  | some p =>
    obtain ⟨start, est⟩ := p
    rw [windowOf_of_start hstart] at h
    by_cases hneg : start < 0
    · rw [if_pos hneg] at h; cases h
    · rw [if_neg hneg] at h
      cases hbefore : startsBefore bd start with
      | true => rw [hbefore, if_pos rfl] at h; cases h
      | false =>
        rw [hbefore, if_neg Bool.false_ne_true] at h
        exact windowEnding_eq_noValidEnd h ▸ (startsBefore_eq_false bd start).1 hbefore

end

/-! ## Boundaries that only rise (R31) -/

/-- A boundary is no later than another. -/
def BoundaryLe (x y : Option Instant) : Prop := ∀ u, x = some u → ∃ v, y = some v ∧ u ≤ v

theorem BoundaryLe.refl (x : Option Instant) : BoundaryLe x x := fun u hu => ⟨u, hu, le_refl u⟩

theorem BoundaryLe.trans {x y z : Option Instant} (h : BoundaryLe x y) (k : BoundaryLe y z) : BoundaryLe x z := by
  intro u hu
  obtain ⟨v, hv, huv⟩ := h u hu
  obtain ⟨w, hw, hvw⟩ := k v hv
  exact ⟨w, hw, huv.trans hvw⟩

theorem AtOrAfter.of_le {x y : Option Instant} {start : Instant} (h : AtOrAfter y start) (k : BoundaryLe x y) : AtOrAfter x start := by
  intro u hu
  obtain ⟨v, hv, huv⟩ := k u hu
  exact huv.trans (h v hv)

/-- A window under a boundary is the window under every earlier one. -/
theorem windowOf_of_le {alm : List AlmanacDay} {f : BookingFields} {x y : Option Instant} {d : Nat} {w : Window}
    (h : windowOf alm f y d = .window w) (k : BoundaryLe x y) : windowOf alm f x d = .window w := by
  obtain ⟨est, est', hstart, hpos, hafter, hrest⟩ := windowOf_eq_window.1 h
  exact windowOf_eq_window.2 ⟨est, est', hstart, hpos, hafter.of_le k, hrest⟩

/-! ## How late a window may stand (R30 step 2) -/

/-- Almanac times of day, and a start field in its range (R2). -/
def FieldsInRange (alm : List AlmanacDay) (f : BookingFields) : Prop :=
  (∀ e ∈ alm, e.sunset < 86400000 ∧ e.sunrise < 86400000) ∧
    match f.start with | .clock t => t < 86400000 | .sunset m => -720 ≤ m ∧ m ≤ 720 | .sunrise m => -720 ≤ m ∧ m ≤ 720

theorem almanacTime_lt {alm : List AlmanacDay} {pick : AlmanacDay → Nat} (h : ∀ e ∈ alm, pick e < 86400000) {d : Nat} {p : Nat × Bool}
    (hp : almanacTime alm pick d = some p) : p.1 < 86400000 := by
  unfold almanacTime at hp
  cases hown : alm.find? (fun e => e.day == d) with
  | some e =>
    rw [hown] at hp
    cases hp
    exact h e (List.mem_of_find?_eq_some hown)
  | none =>
    rw [hown] at hp
    obtain ⟨e, he, rfl⟩ := Option.map_eq_some_iff.1 hp
    exact h e (List.mem_of_mem_filter (List.mem_of_getLast? he))

/-- R30 step 2: no start lies later than a day and a half after its day began. -/
theorem start_le {alm : List AlmanacDay} {f : BookingFields} (h : FieldsInRange alm f) {d : Nat} {start : Instant} {est : Bool}
    (hstart : anchorInstant alm d f.start = some (start, est)) : start ≤ (d : Int) * 86400000 + 129599999 := by
  obtain ⟨halm, hfield⟩ := h
  cases hf : f.start with
  | clock t =>
    rw [hf] at hstart hfield
    cases hstart
    change t < 86400000 at hfield
    show (d : Int) * 86400000 + t ≤ _
    omega
  | sunset m =>
    rw [hf] at hstart hfield
    obtain ⟨p, hp, hsame⟩ := Option.map_eq_some_iff.1 hstart
    cases hsame
    have hlt := almanacTime_lt (fun e he => (halm e he).1) hp
    change -720 ≤ m ∧ m ≤ 720 at hfield
    show (d : Int) * 86400000 + p.1 + m * 60000 ≤ _
    omega
  | sunrise m =>
    rw [hf] at hstart hfield
    obtain ⟨p, hp, hsame⟩ := Option.map_eq_some_iff.1 hstart
    cases hsame
    have hlt := almanacTime_lt (fun e he => (halm e he).2) hp
    change -720 ≤ m ∧ m ≤ 720 at hfield
    show (d : Int) * 86400000 + p.1 + m * 60000 ≤ _
    omega

theorem clampEnd_bounds {start finish : Int} (h : start < finish) :
    start < clampEnd start finish ∧ clampEnd start finish ≤ start + 64800000 := by
  show start < (if start + 64800000 < finish then start + 64800000 else finish) ∧
    (if start + 64800000 < finish then start + 64800000 else finish) ≤ start + 64800000
  split <;> omega

/-- R29: an end lies after its start, and no more than 18 hours after it. -/
theorem endInstant_bounds {alm : List AlmanacDay} {d : Nat} {start finish : Instant} {est : Bool} {field : EndField}
    (hduration : ∀ s, field = .duration s → 1 ≤ s) (h : endInstant alm d start field = .ends finish est) :
    start < finish ∧ finish ≤ start + 64800000 := by
  cases field with
  | duration s =>
    have hs := hduration s rfl
    cases h
    have hlater : (start : Int) < start + (s : Int) * 1000 := by
      have : 0 < (s : Int) * 1000 := by omega
      exact lt_add_of_pos_right _ this
    exact clampEnd_bounds hlater
  | anchored a =>
    unfold endInstant at h
    simp only at h
    cases hfirst : anchorInstant alm d a with
    | none => rw [hfirst] at h; cases h
    | some p =>
      rw [hfirst] at h
      simp only at h
      by_cases hafter : start < p.1
      · rw [if_pos hafter] at h
        cases h
        exact clampEnd_bounds hafter
      · rw [if_neg hafter] at h
        cases hnext : anchorInstant alm (d + 1) a with
        | none => rw [hnext] at h; cases h
        | some q =>
          rw [hnext] at h
          simp only at h
          by_cases hlater : start < q.1
          · rw [if_pos hlater] at h
            cases h
            exact clampEnd_bounds hlater
          · rw [if_neg hlater] at h
            cases h

/-- A day that is passed over holds no window still to end (R30 step 2). -/
theorem ended_of_dayPast {alm : List AlmanacDay} {f : BookingFields} (hrange : FieldsInRange alm f)
    (hduration : ∀ s, f.finish = .duration s → 1 ≤ s) {now : Instant} {bd : Option Instant} {d : Nat} {w : Window}
    (hpast : dayPast now bd d = true) (hw : windowOf alm f bd d = .window w) : w.finish ≤ now := by
  obtain ⟨est, est', hstart, hpos, hafter, hend, hlast, hsame⟩ := windowOf_eq_window.1 hw
  have hearly := start_le hrange hstart
  obtain ⟨-, hlate⟩ := endInstant_bounds hduration hend
  have hcases : (d : Int) * 86400000 + 194399999 ≤ now ∨ ∃ x, bd = some x ∧ (d : Int) * 86400000 + 129599999 < x := by
    unfold dayPast at hpast
    rw [Bool.or_eq_true, decide_eq_true_eq] at hpast
    cases bd with
    | none => exact .inl (hpast.resolve_right Bool.false_ne_true)
    | some x => exact hpast.imp id fun h => ⟨x, rfl, of_decide_eq_true h⟩
  obtain hpast | ⟨x, hx, hpast⟩ := hcases
  · have hbound : ∀ a b c n : Int, b ≤ a + 129599999 → c ≤ b + 64800000 → a + 194399999 ≤ n → c ≤ n := fun _ _ _ _ _ _ _ => by omega
    exact hbound _ _ _ _ hearly hlate hpast
  · exact absurd (hpast.trans_le (hafter x hx)) (not_lt.2 hearly)

/-! ## The search (R30) -/

section
variable {alm : List AlmanacDay} {base : Nat} {now : Instant} {f : BookingFields}

/-- Under a boundary and every later one, no window of a day is still to end. -/
def DayOver (alm : List AlmanacDay) (f : BookingFields) (now : Instant) (bd : Option Instant) (d : Nat) : Prop :=
  ∀ y, BoundaryLe bd y → ∀ w, windowOf alm f y d = .window w → w.finish ≤ now

/-- The search goes on behind a day that is over or does not run, its boundary risen or the same. -/
def GoesOn (alm : List AlmanacDay) (base : Nat) (now : Instant) (f : BookingFields) (count d : Nat) (bd : Option Instant)
    (skipped : Bool) (a : SearchAnswer) : Prop :=
  (runsOn base f d = true → DayOver alm f now bd d) ∧
    ∃ bd' skipped', BoundaryLe bd bd' ∧ (skipped' = false → skipped = false ∧ bd' = bd) ∧
      a = searchDays alm base now f count (d + 1) bd' skipped'

variable (hrange : FieldsInRange alm f) (hduration : ∀ s, f.finish = .duration s → 1 ≤ s)
include hrange hduration

/-- All that a search can do on one day. -/
theorem searchDays_cases (count d : Nat) (bd : Option Instant) (skipped : Bool) :
    GoesOn alm base now f count d bd skipped (searchDays alm base now f (count + 1) d bd skipped) ∨
    (runsOn base f d = true ∧ windowOf alm f bd d = .noTime ∧
      searchDays alm base now f (count + 1) d bd skipped = ⟨.stalled, bd, skipped⟩) ∨
    ∃ w, runsOn base f d = true ∧ windowOf alm f bd d = .window w ∧ now < w.finish ∧
      searchDays alm base now f (count + 1) d bd skipped = ⟨.window w, bd, skipped⟩ := by
  unfold searchDays
  by_cases hpassed : (!runsOn base f d || dayPast now bd d) = true
  · rw [if_pos hpassed]
    refine .inl ⟨fun hruns y hy w hw => ?_, bd, skipped, .refl bd, fun h => ⟨h, rfl⟩, rfl⟩
    rw [hruns] at hpassed
    exact ended_of_dayPast hrange hduration hpassed (windowOf_of_le hw hy)
  · rw [if_neg hpassed]
    rw [Bool.or_eq_true, not_or, Bool.not_eq_true', Bool.not_eq_false] at hpassed
    obtain ⟨hruns, -⟩ := hpassed
    cases hwindow : windowOf alm f bd d with
    | noTime => exact .inr (.inl ⟨hruns, rfl, rfl⟩)
    | absent =>
      refine .inl ⟨fun _ y hy w hw => ?_, bd, skipped, .refl bd, fun h => ⟨h, rfl⟩, rfl⟩
      cases hwindow.symm.trans (windowOf_of_le hw hy)
    | noValidEnd st =>
      refine .inl ⟨fun _ y hy w hw => ?_, some (st + 1), true, fun u hu => ⟨st + 1, rfl, ?_⟩, nofun, rfl⟩
      · cases hwindow.symm.trans (windowOf_of_le hw hy)
      · exact (windowOf_eq_noValidEnd hwindow u hu).trans (lt_add_one st).le
    | window w =>
      by_cases hended : w.finish ≤ now
      · refine .inl ⟨fun _ y hy v hv => ?_, bd, skipped, .refl bd, fun h => ⟨h, rfl⟩, if_pos hended⟩
        cases hwindow.symm.trans (windowOf_of_le hv hy)
        exact hended
      · exact .inr (.inr ⟨w, hruns, rfl, not_le.1 hended, if_neg hended⟩)

/-- What a search over some days has found of them: `a` is its answer from day d and boundary bd on. -/
structure Searched (alm : List AlmanacDay) (base : Nat) (now : Instant) (f : BookingFields) (count d : Nat) (bd : Option Instant)
    (skipped : Bool) (a : SearchAnswer) : Prop where
  rises : BoundaryLe bd a.boundary
  kept : a.skipped = false → skipped = false ∧ a.boundary = bd
  found : ∀ w, a.found = .window w → ∃ e, d ≤ e ∧ e < d + count ∧ runsOn base f e = true ∧
    windowOf alm f a.boundary e = .window w ∧ now < w.finish ∧
    ∀ x, d ≤ x → x < e → runsOn base f x = true → ∀ v, windowOf alm f a.boundary x = .window v → v.finish ≤ now
  noneLeft : a.found = .noneLeft → ∀ x, d ≤ x → x < d + count → runsOn base f x = true →
    ∀ v, windowOf alm f a.boundary x = .window v → v.finish ≤ now
  stalled : a.found = .stalled → ∃ e, d ≤ e ∧ e < d + count ∧ runsOn base f e = true ∧ windowOf alm f a.boundary e = .noTime

theorem searchDays_searched (count d : Nat) (bd : Option Instant) (skipped : Bool) :
    Searched alm base now f count d bd skipped (searchDays alm base now f count d bd skipped) := by
  induction count generalizing d bd skipped with
  | zero =>
    exact ⟨.refl bd, fun h => ⟨h, rfl⟩, nofun, fun _ x hx hlt => absurd hlt (by omega), nofun⟩
  | succ count ih =>
    obtain ⟨hover, bd', skipped', hrises, hkept, hrest⟩ | ⟨hruns, hwindow, hanswer⟩ | ⟨w, hruns, hwindow, hnow, hanswer⟩ :=
      searchDays_cases (base := base) (now := now) hrange hduration count d bd skipped
    · rw [hrest]
      obtain ⟨rises, kept, found, noneLeft, stalled⟩ := ih (d + 1) bd' skipped'
      have hfirst : ∀ v, runsOn base f d = true →
          windowOf alm f (searchDays alm base now f count (d + 1) bd' skipped').boundary d = .window v → v.finish ≤ now :=
        fun v hruns hv => hover hruns _ (hrises.trans rises) v hv
      refine ⟨hrises.trans rises, fun h => ?_, fun w hw => ?_, fun hnone x hx hlt hruns v hv => ?_, fun hstalled => ?_⟩
      · obtain ⟨hs, hb⟩ := kept h
        obtain ⟨hs', hb'⟩ := hkept hs
        exact ⟨hs', hb.trans hb'⟩
      · obtain ⟨e, hlow, hhigh, hruns, hwindow, hnow, hearlier⟩ := found w hw
        refine ⟨e, by omega, by omega, hruns, hwindow, hnow, fun x hx hlt hrunsx v hv => ?_⟩
        obtain rfl | hx := Nat.eq_or_lt_of_le hx
        · exact hfirst v hrunsx hv
        · exact hearlier x hx hlt hrunsx v hv
      · obtain rfl | hx := Nat.eq_or_lt_of_le hx
        · exact hfirst v hruns hv
        · exact noneLeft hnone x hx (by omega) hruns v hv
      · obtain ⟨e, hlow, hhigh, hruns, hwindow⟩ := stalled hstalled
        exact ⟨e, by omega, by omega, hruns, hwindow⟩
    · rw [hanswer]
      exact ⟨.refl bd, fun h => ⟨h, rfl⟩, nofun, nofun, fun _ => ⟨d, le_refl d, by omega, hruns, hwindow⟩⟩
    · rw [hanswer]
      refine ⟨.refl bd, fun h => ⟨h, rfl⟩, fun v hv => ?_, nofun, nofun⟩
      cases hv
      exact ⟨d, le_refl d, by omega, hruns, hwindow, hnow, fun x hx hlt => absurd hlt (by omega)⟩

end

/-- Settles O44: `searchDays_searched` is the induction over the pattern days. -/
theorem searchFindsTheFirstWindow : Obligations.SearchFindsTheFirstWindow := by
  unfold Obligations.SearchFindsTheFirstWindow
  intro alm base now f bd a halm hstart hduration ha
  have hrange : FieldsInRange alm f := by
    refine ⟨halm, ?_⟩
    cases hf : f.start with
    | clock t => rw [hf] at hstart; exact hstart
    | sunset m => rw [hf] at hstart; exact hstart
    | sunrise m => rw [hf] at hstart; exact hstart
  have hsearched := searchDays_searched (base := base) (now := now) hrange hduration (f.pattern.last + 1 - f.pattern.first)
    f.pattern.first bd false
  subst ha
  change Searched _ _ _ _ _ _ _ _ (search alm base now f bd) at hsearched
  obtain ⟨rises, kept, found, noneLeft, stalled⟩ := hsearched
  refine ⟨fun w hw => ?_, fun hnone d hlow hhigh hruns v hv => noneLeft hnone d hlow (by omega) hruns v hv, fun hstalled => ?_,
    fun hskipped => (kept hskipped).2⟩
  · obtain ⟨e, hlow, hhigh, hruns, hwindow, hnow, hearlier⟩ := found w hw
    obtain ⟨est, est', hanchor, hpos, hafter, hend, hlast, hsame⟩ := windowOf_eq_window.1 hwindow
    have hday : w.day = e := by rw [hsame]
    obtain ⟨hlater, hclamped⟩ := endInstant_bounds hduration hend
    rw [hday]
    exact ⟨hlow, by omega, hruns, hwindow, hnow, hpos, hlater, hclamped, hlast, hafter.of_le rises, hearlier⟩
  · obtain ⟨e, hlow, hhigh, hruns, hwindow⟩ := stalled hstalled
    exact ⟨e, hlow, by omega, hruns, hwindow⟩

end Sys2Proof.Machine

/-! PROOFS. The directed window of a riser and its replies (R149, R150, R159): obligations O53 and O54. -/

namespace Sys2Proof.Machine

/-- The row of an event, by what the event makes of the blocks. -/
theorem exec_event_eq {c : Instr} (hrequest : requestKind c = none) (hport : actsOnPort c = false) {s : State} {b : Blocks}
    (h : eventEffect c s.blocks = b) : exec c s = .next { s with blocks := b } := by
  subst h
  exact exec_event hrequest hport s

/-! ## Messages read back -/

theorem checkedBody_withCheck (l : List Byte) : checkedBody (l.length + 2) (withCheck l) = some l := by
  have htake : (withCheck l).take l.length = l := List.take_left
  have hdrop : (withCheck l).drop l.length = beBytes16 (crc16 l) := List.drop_left
  have hlength : (withCheck l).length = l.length + 2 := List.length_append
  unfold checkedBody
  rw [Nat.add_sub_cancel, htake, hdrop, if_pos ⟨hlength, rfl⟩]

theorem toNat_ofNat_slot {slot : Nat} (h : slot < 256) : (BitVec.ofNat 8 slot).toNat = slot := by
  rw [BitVec.toNat_ofNat]
  exact Nat.mod_eq_of_lt h

theorem readNotice_withCheck {slot : Nat} (h : slot < 256) (code : Byte) :
    readNotice slot (withCheck [BitVec.ofNat 8 slot, code]) = some code.toNat := by
  unfold readNotice
  rw [show checkedBody 4 (withCheck [BitVec.ofNat 8 slot, code]) = some [BitVec.ofNat 8 slot, code] from checkedBody_withCheck _]
  exact if_pos (toNat_ofNat_slot h)

theorem readFallback_withCheck {slot : Nat} (h : slot < 256) : readFallback slot (withCheck [BitVec.ofNat 8 slot]) = true := by
  unfold readFallback
  rw [show checkedBody 3 (withCheck [BitVec.ofNat 8 slot]) = some [BitVec.ofNat 8 slot] from checkedBody_withCheck _]
  exact decide_eq_true (toNat_ofNat_slot h)

theorem beWord48_fields (x : BitVec 48) :
    beWord48 (x.extractLsb' 40 8) (x.extractLsb' 32 8) (x.extractLsb' 24 8) (x.extractLsb' 16 8) (x.extractLsb' 8 8)
      (x.extractLsb' 0 8) = x := by
  unfold beWord48
  rw [field_append_field x 32 8 8, field_append_field x 24 8 16, field_append_field x 16 8 24, field_append_field x 8 8 32,
    field_append_field x 0 8 40]
  exact BitVec.extractLsb'_eq_self

theorem readOffer_withCheck {w : SerialWord} {layout effects rates class_ : Byte} {l : Layout} {k : NodeClass}
    (hlayout : layoutOf layout = some l) (hclass : classOf class_ = some k) (heffects : effects.toNat < 4)
    (hrates : rates.toNat < 16) :
    readOffer w.toNat (withCheck ([layout, effects, rates, class_] ++ beBytes48 w)) =
      some ⟨l, effectsOf effects, ratesOf rates, k, w.toNat⟩ := by
  unfold readOffer
  rw [show checkedBody 12 (withCheck ([layout, effects, rates, class_] ++ beBytes48 w)) =
    some ([layout, effects, rates, class_] ++ beBytes48 w) from checkedBody_withCheck _]
  dsimp only [beBytes48, List.cons_append, List.nil_append]
  rw [hlayout, hclass, beWord48_fields]
  exact if_pos ⟨heffects, hrates, rfl⟩

/-! ## The record of one riser -/

section
variable {n : Nat} {b : Blocks} (hn : n < b.risers.length)
include hn

/-- Two writes of one riser's record, as one. -/
theorem updateRiser_twice {f g : Riser → Riser} {x : Riser} (h : g (f (b.riser n)) = x) :
    (b.updateRiser n f).updateRiser n g = { b with risers := b.risers.set n x } := by
  subst h
  exact updateRiser_updateRiser b n f g hn

theorem dropHead_endWindow {e : Exchange} {q : List Exchange} (hqueue : (b.riser n).queue = e :: q) :
    dropHead n (endWindow n b) = { b with risers := b.risers.set n { b.riser n with phase := .done, queue := q } } :=
  updateRiser_twice hn (by rw [hqueue]; rfl)

end

/-! ## A zone's fault code (R150) -/

theorem report_eq (b : Blocks) (r : RecordId) (k : ChangeKind) : b.report r k = { b with notices := (b.report r k).notices } := by
  unfold Blocks.report Blocks.submit
  split <;> rfl

theorem zones_set_self {b : Blocks} {z : Nat} {c : Zone} (h : b.zone? z = some c) : b.zones.set z (some c) = b.zones :=
  congrArg Blocks.zones (setZone_self b h)

section
variable {z : Nat} {b : Blocks} {c : Zone} (hz : b.zone? z = some c)
include hz

theorem setFault_eq (code : Option Nat) : setFault z code b =
    { b with zones := b.zones.set z (some { c with fault := code }), notices := (setFault z code b).notices } := by
  unfold setFault
  rw [hz]
  dsimp only
  split
  · next hsame =>
    subst hsame
    rw [zones_set_self hz]
  · rw [updateZone_some b z _ hz]
    exact report_eq _ _ _

theorem setFault_told {code : Option Nat} (hchanged : c.fault ≠ code) : Told (setFault z code b) (.zone z) .nodeFault := by
  unfold setFault
  rw [hz]
  dsimp only
  rw [if_neg hchanged]
  exact report_told _ _ _

theorem setFault_of_same {code : Option Nat} (hsame : c.fault = code) : setFault z code b = b := by
  unfold setFault
  rw [hz]
  exact if_pos hsame

theorem unconfirmedFallback_eq : unconfirmedFallback z b = { b with
    zones := b.zones.set z (some { c with fault := some 255 }), notices := (unconfirmedFallback z b).notices } := by
  unfold unconfirmedFallback
  rw [updateZone_some b z _ hz]
  exact report_eq _ _ _

end

/-! ## The directed window (R149) -/

theorem beforeDirected_of {p : Phase} (h : p = .tally ∨ p = .tallied ∨ p = .noticed) : p.beforeDirected = true := by
  obtain rfl | rfl | rfl := h <;> rfl

theorem waitingFor_of {x : Riser} {e : Exchange} {q : List Exchange} (hphase : x.phase = .exchanging) (hqueue : x.queue = e :: q) :
    x.waitingFor = some e := by
  unfold Riser.waitingFor
  rw [if_pos hphase, hqueue]
  rfl

section
variable {n : Nat} {w : Option SerialWord} {b : Blocks} {x : Riser} (hx : x = b.riser n)
  (hphase : x.phase = .tally ∨ x.phase = .tallied ∨ x.phase = .noticed)
include hx hphase

theorem directedWindow_of_empty (hqueue : x.queue = []) :
    directedWindow n w b = endWindow n b := by
  subst hx
  simp only [directedWindow, beforeDirected_of hphase, hqueue]
  rfl

theorem directedWindow_of_noticeRead {slot a : Nat} {q : List Exchange} (hqueue : x.queue = ⟨.noticeRead, slot, a⟩ :: q) :
    directedWindow n w b = sendDirected n (.noticeRead slot) .exchanging b := by
  subst hx
  simp only [directedWindow, beforeDirected_of hphase, hqueue]
  rfl

theorem directedWindow_of_setFallback {colour : Levels} {slot a : Nat} {q : List Exchange}
    (hqueue : x.queue = ⟨.setFallback colour, slot, a⟩ :: q) :
    directedWindow n w b = sendDirected n (.setFallback slot colour) .exchanging b := by
  subst hx
  simp only [directedWindow, beforeDirected_of hphase, hqueue]
  rfl

theorem directedWindow_of_resetNode {slot a : Nat} {q : List Exchange} (hqueue : x.queue = ⟨.resetNode, slot, a⟩ :: q) :
    directedWindow n w b = dropHead n (sendDirected n (.resetNode slot) .done b) := by
  subst hx
  simp only [directedWindow, beforeDirected_of hphase, hqueue]
  rfl

theorem directedWindow_of_round {slot a : Nat} {q : List Exchange} (hqueue : x.queue = ⟨.round, slot, a⟩ :: q) :
    directedWindow n w b = serveRound n w b := by
  subst hx
  simp only [directedWindow, beforeDirected_of hphase, hqueue]
  rfl

end

/-! ## Failures and replies (R149, R150) -/

section
variable {n : Nat} {b : Blocks} {x : Riser} {e : Exchange} {q : List Exchange} (hx : x = b.riser n)
  (hphase : x.phase = .exchanging) (hqueue : x.queue = e :: q)
include hx hphase hqueue

theorem attemptFailed_of_first (hn : n < b.risers.length) (hround : e.kind ≠ .round) (hreset : e.kind ≠ .resetNode)
    (hattempts : e.attempts < 2) : attemptFailed n b = { b with risers := b.risers.set n { x with
      phase := .done, queue := { e with attempts := e.attempts + 1 } :: q } } := by
  subst hx
  unfold attemptFailed
  rw [waitingFor_of hphase hqueue]
  dsimp only
  rw [if_neg (by simp [hround, hreset]), if_pos (Nat.succ_lt_succ hattempts)]
  refine updateRiser_twice hn ?_
  unfold raiseAttempt
  rw [hqueue]

theorem attemptFailed_of_third (hn : n < b.risers.length) (hround : e.kind ≠ .round) (hreset : e.kind ≠ .resetNode)
    (hattempts : 2 ≤ e.attempts) : attemptFailed n b =
      failExchange n e { b with risers := b.risers.set n { x with phase := .done, queue := q } } := by
  subst hx
  unfold attemptFailed
  rw [waitingFor_of hphase hqueue]
  dsimp only
  rw [if_neg (by simp [hround, hreset]), if_neg (not_lt.2 (Nat.succ_le_succ hattempts)), dropHead_endWindow hn hqueue]

end

section
variable {n : Nat} {b : Blocks} {x : Riser} {slot a : Nat} {q : List Exchange} {reply : List Byte} (hx : x = b.riser n)
  (hphase : x.phase = .exchanging)
include hx hphase

theorem noticeReply_of_bad (hqueue : x.queue = ⟨.noticeRead, slot, a⟩ :: q) (hbad : readNotice slot reply = none) :
    noticeReply n reply b = b := by
  subst hx
  unfold noticeReply
  rw [waitingFor_of hphase hqueue]
  dsimp only
  rw [hbad]

theorem fallbackReply_of_bad {colour : Levels} (hqueue : x.queue = ⟨.setFallback colour, slot, a⟩ :: q)
    (hbad : readFallback slot reply = false) : fallbackReply n reply b = b := by
  subst hx
  unfold fallbackReply
  rw [waitingFor_of hphase hqueue]
  dsimp only
  rw [hbad]
  rfl

theorem noticeReply_of_good {code : Nat} (hn : n < b.risers.length) (hqueue : x.queue = ⟨.noticeRead, slot, a⟩ :: q)
    (hgood : readNotice slot reply = some code) : noticeReply n reply b =
      ((b.zoneAt n slot).elim id (fun z => setFault z (reportedCode code)))
        { b with risers := b.risers.set n { x with phase := .done, queue := q } } := by
  subst hx
  unfold noticeReply
  rw [waitingFor_of hphase hqueue]
  dsimp only
  rw [hgood]
  dsimp only
  rw [dropHead_endWindow hn hqueue]
  show (match b.zoneAt n slot with | some z => _ | none => _) = _
  cases b.zoneAt n slot <;> rfl

theorem fallbackReply_of_good {colour : Levels} (hn : n < b.risers.length) (hqueue : x.queue = ⟨.setFallback colour, slot, a⟩ :: q)
    (hgood : readFallback slot reply = true) : fallbackReply n reply b =
      ((b.zoneAt n slot).elim id (fun z y => if (y.zone? z).any (fun c => decide (c.fault = some 255)) then setFault z none y else y))
        { b with risers := b.risers.set n { x with phase := .done, queue := q } } := by
  subst hx
  unfold fallbackReply
  rw [waitingFor_of hphase hqueue]
  dsimp only
  rw [if_pos hgood, dropHead_endWindow hn hqueue]
  show (match b.zoneAt n slot with | some z => _ | none => _) = _
  cases b.zoneAt n slot <;> rfl

end

theorem exchange_eta {e : Exchange} {k : ExchangeKind} (h : e.kind = k) : e = ⟨k, e.slot, e.attempts⟩ := by
  subst h
  rfl

theorem reportedCode_toNat (code : Byte) : reportedCode code.toNat = if code = 0 then none else some code.toNat := by
  unfold reportedCode
  simp only [BitVec.toNat_eq, show (0 : Byte).toNat = 0 from rfl]

/-- Settles O53: each exchange by its kind; the zone's fault code where a zone stands at the slot. -/
theorem directedExchangesAreServed : Obligations.DirectedExchangesAreServed := by
  unfold Obligations.DirectedExchangesAreServed
  have hriser : ∀ {b : Blocks} (n : Fin 4), TablesSized b → n.val < b.risers.length := by
    rintro b n ⟨-, -, hrisers, -⟩
    rw [hrisers]
    exact n.isLt
  refine ⟨fun s n w x hsized hx hphase => ⟨fun hqueue => ?_, fun slot a q hqueue => ?_, fun colour slot a q hqueue => ?_,
      fun slot a q hqueue => ?_⟩,
    fun s n x e q hsized hx hphase hqueue hround hreset => ⟨fun hfirst => ?_, fun hthird hkind => ?_,
      fun colour z c hthird hkind hat hz => ?_, fun colour hthird hkind hat => ?_⟩,
    fun s n x e q reply hsized hx hphase hqueue => ⟨fun hkind hbad => ?_, fun colour hkind hbad => ?_,
      fun code hkind hslot hat => ?_, fun colour hkind hslot hat => ?_⟩,
    fun s n x slot a q z c code hsized hx hphase hqueue hslot hat hz => ?_,
    fun s n x colour slot a q z c hsized hx hphase hqueue hslot hat hz => ?_⟩
  · exact exec_event_eq rfl rfl ((directedWindow_of_empty hx hphase hqueue).trans (by subst hx; rfl))
  · exact exec_event_eq rfl rfl ((directedWindow_of_noticeRead hx hphase hqueue).trans (by subst hx; rfl))
  · exact exec_event_eq rfl rfl ((directedWindow_of_setFallback hx hphase hqueue).trans (by subst hx; rfl))
  · refine exec_event_eq rfl rfl ((directedWindow_of_resetNode hx hphase hqueue).trans ?_)
    subst hx
    exact updateRiser_twice (hriser n hsized) (by rw [hqueue]; rfl)
  · exact exec_event_eq rfl rfl (attemptFailed_of_first hx hphase hqueue (hriser n hsized) hround hreset hfirst)
  · refine exec_event_eq rfl rfl ((attemptFailed_of_third hx hphase hqueue (hriser n hsized) hround hreset hthird).trans ?_)
    unfold failExchange
    rw [hkind]
  · refine ⟨_, exec_event_eq rfl rfl (attemptFailed_of_third hx hphase hqueue (hriser n hsized) hround hreset hthird), ?_⟩
    have hfails : ∀ y : Blocks, y.zoneAt n e.slot = some z → failExchange n e y = unconfirmedFallback z y := by
      intro y hy
      unfold failExchange
      rw [hkind, hy]
    rw [hfails { s.blocks with risers := s.blocks.risers.set n { x with phase := .done, queue := q } } hat]
    refine ⟨?_, report_told _ _ _⟩
    exact congrArg (fun y => { s with blocks := y })
      (unconfirmedFallback_eq (b := { s.blocks with risers := s.blocks.risers.set n { x with phase := .done, queue := q } }) hz)
  · refine exec_event_eq rfl rfl ((attemptFailed_of_third hx hphase hqueue (hriser n hsized) hround hreset hthird).trans ?_)
    have hfails : ∀ y : Blocks, y.zoneAt n e.slot = none → failExchange n e y = y := by
      intro y hy
      unfold failExchange
      rw [hkind, hy]
    exact hfails _ hat
  · exact exec_event_eq rfl rfl (noticeReply_of_bad hx hphase (hqueue.trans (by rw [exchange_eta hkind])) hbad)
  · exact exec_event_eq rfl rfl (fallbackReply_of_bad hx hphase (hqueue.trans (by rw [exchange_eta hkind])) hbad)
  · refine exec_event_eq rfl rfl ((noticeReply_of_good hx hphase (hriser n hsized) (hqueue.trans (by rw [exchange_eta hkind]))
      (readNotice_withCheck hslot code)).trans ?_)
    rw [hat]
    rfl
  · refine exec_event_eq rfl rfl ((fallbackReply_of_good hx hphase (hriser n hsized) (hqueue.trans (by rw [exchange_eta hkind]))
      (readFallback_withCheck hslot)).trans ?_)
    rw [hat]
    rfl
  · refine ⟨_, exec_event_eq rfl rfl (noticeReply_of_good hx hphase (hriser n hsized) hqueue (readNotice_withCheck hslot code)), ?_⟩
    rw [hat, reportedCode_toNat]
    refine ⟨congrArg (fun y => { s with blocks := y }) (setFault_eq
      (b := { s.blocks with risers := s.blocks.risers.set n { x with phase := .done, queue := q } }) hz _), fun hchanged => ?_⟩
    exact setFault_told
      (b := { s.blocks with risers := s.blocks.risers.set n { x with phase := .done, queue := q } }) hz hchanged
  · have hgood := fallbackReply_of_good hx hphase (hriser n hsized) hqueue (readFallback_withCheck hslot)
    rw [hat] at hgood
    by_cases hfault : c.fault = some 255
    · have hclears : fallbackReply n (withCheck [BitVec.ofNat 8 slot]) s.blocks =
          setFault z none { s.blocks with risers := s.blocks.risers.set n { x with phase := .done, queue := q } } := by
        refine hgood.trans (if_pos ?_)
        show (s.blocks.zone? z).any _ = true
        rw [hz]
        exact decide_eq_true hfault
      refine ⟨_, exec_event_eq rfl rfl hclears, ?_, fun _ => ?_⟩
      · rw [if_pos hfault]
        exact congrArg (fun y => { s with blocks := y }) (setFault_eq
          (b := { s.blocks with risers := s.blocks.risers.set n { x with phase := .done, queue := q } }) hz none)
      · exact setFault_told
          (b := { s.blocks with risers := s.blocks.risers.set n { x with phase := .done, queue := q } }) hz (by rw [hfault]; nofun)
    · have hkeeps : fallbackReply n (withCheck [BitVec.ofNat 8 slot]) s.blocks =
          { s.blocks with risers := s.blocks.risers.set n { x with phase := .done, queue := q } } := by
        refine hgood.trans (if_neg ?_)
        show ¬ (s.blocks.zone? z).any _ = true
        rw [hz]
        exact fun h => hfault (of_decide_eq_true h)
      refine ⟨_, exec_event_eq rfl rfl hkeeps, ?_, fun h => absurd h hfault⟩
      rw [if_neg hfault]
      rw [zones_set_self hz]

/-! ## Rounds (R159) -/

section
variable {n : Nat} {b : Blocks} {x : Riser} (hx : x = b.riser n)
include hx

theorem awaitedWinner_of {slot a v : Nat} {q : List Exchange} (hphase : x.phase = .exchanging)
    (hqueue : x.queue = ⟨.round, slot, a⟩ :: q) (hround : x.round = .offering v) : (b.riser n).awaitedWinner = some v := by
  subst hx
  unfold Riser.awaitedWinner
  rw [waitingFor_of hphase hqueue, hround]

theorem serveRound_of_contention {w : Option SerialWord} (hround : x.round = .contention) : serveRound n w b = contend n w b := by
  subst hx
  unfold serveRound
  rw [hround]

theorem serveRound_of_offering {w : Option SerialWord} {v : Nat} (hround : x.round = .offering v) :
    serveRound n w b = sendDirected n .offerRequest .exchanging b := by
  subst hx
  unfold serveRound
  rw [hround]

end

/-- The riser's record when a contention without a winner ends its roll call, but for its state. -/
def idled (x : Riser) (q : List Exchange) : Riser :=
  { x with sent := some .rollCall, phase := .done, rollCall := .idle, round := .contention,
           queue := q.filter (fun e => decide (e.kind ≠ .round)) }

/-- The blocks when a contention without a winner has ended its roll call, but for an entry into Running. -/
def rollCallDone (n : Nat) (q : List Exchange) (b : Blocks) : Blocks :=
  { b with risers := b.risers.set n (idled (b.riser n) q) }.report (.riser n) .rollCallDone

section
variable {n : Nat} {b : Blocks} {slot a : Nat} {q : List Exchange} (hn : n < b.risers.length)
include hn

theorem contend_none (hqueue : (b.riser n).queue = ⟨.round, slot, a⟩ :: q) : contend n none b =
    if ((rollCallDone n q b).riser n).state = .starting then enterRiserState n .running (rollCallDone n q b)
    else rollCallDone n q b := by
  have hended : (sendDirected n .rollCall .done b).updateRiser n endRollCall =
      { b with risers := b.risers.set n (idled (b.riser n) q) } := by
    refine updateRiser_twice hn ?_
    unfold endRollCall idled
    rw [hqueue]
    rfl
  unfold contend finishRollCall
  dsimp only
  rw [hended]
  rfl

theorem rollCallDone_riser : (rollCallDone n q b).riser n = idled (b.riser n) q := by
  refine (riser_congr (b := b.updateRiser n (fun x => idled x q)) ?_ n).trans (updateRiser_riser_self b n _ hn)
  unfold rollCallDone
  rw [report_eq]
  rfl

end

theorem rollCallDone_eq (n : Nat) (q : List Exchange) (b : Blocks) : rollCallDone n q b =
    { b with risers := b.risers.set n (idled (b.riser n) q), notices := (rollCallDone n q b).notices } := report_eq _ _ _

theorem enterRiserState_eq (n : Nat) (st : RiserState) (b : Blocks) : enterRiserState n st b =
    { b with risers := b.risers.set n { b.riser n with state := st }, notices := (enterRiserState n st b).notices } :=
  report_eq _ _ _

theorem enterRiserState_told (n : Nat) (st : RiserState) (b : Blocks) : Told (enterRiserState n st b) (.riser n) .riserState :=
  report_told _ _ _

theorem enterRiserState_keeps_told {b : Blocks} {r : RecordId} {k : ChangeKind} (h : Told b r k) (n : Nat) (st : RiserState) :
    Told (enterRiserState n st b) r k := submit_keeps_told (b := b.updateRiser n _) h _ _ _

/-- Settles O54: the round by its stage, and its failures by the attempt count. -/
theorem roundsFindAWinner : Obligations.RoundsFindAWinner := by
  unfold Obligations.RoundsFindAWinner
  intro s n x slot a q hsized hx hqueue
  have hn : n.val < s.blocks.risers.length := by
    obtain ⟨-, -, hrisers, -⟩ := hsized
    rw [hrisers]
    exact n.isLt
  have hserved : ∀ {w : Option SerialWord} {b : Blocks}, (x.phase = .tally ∨ x.phase = .tallied ∨ x.phase = .noticed) →
      serveRound n w s.blocks = b → exec (.directedWindow n w) s = .next { s with blocks := b } :=
    fun hphase hb => exec_event_eq rfl rfl ((directedWindow_of_round hx hphase hqueue).trans hb)
  refine ⟨fun w hphase hround => hserved hphase ?_, fun hphase hround => ?_, fun w v hphase hround => hserved hphase ?_,
    fun w layout effects rates class_ l k hphase hround hlayout hclass heffects hrates => ?_, fun v reply hphase hround hbad => ?_,
    fun v hphase hround hattempts => ?_, fun v hphase hround hattempts => ?_⟩
  · refine (serveRound_of_contention hx hround).trans ?_
    subst hx
    unfold contend sendDirected
    exact updateRiser_twice hn rfl
  · refine ⟨_, hserved hphase (serveRound_of_contention hx hround), ?_⟩
    subst hx
    rw [contend_none hn hqueue]
    have hriser := rollCallDone_riser (q := q) hn
    have hstate : ((rollCallDone n q s.blocks).riser n).state = (s.blocks.riser n).state := by rw [hriser]; rfl
    have hround : idled (s.blocks.riser n) q = { idled (s.blocks.riser n) q with round := (s.blocks.riser n).round } := by
      rw [hround]; rfl
    by_cases hstarting : (s.blocks.riser n).state = .starting
    · rw [if_pos (hstate.trans hstarting)]
      refine ⟨congrArg (fun y => { s with blocks := y }) ?_, enterRiserState_keeps_told (report_told _ _ _) _ _,
        fun _ => enterRiserState_told _ _ _⟩
      rw [if_pos hstarting]
      refine (enterRiserState_eq _ _ _).trans ?_
      rw [hriser, rollCallDone_eq, hround]
      dsimp only
      rw [List.set_set]
      rfl
    · rw [if_neg (fun h => hstarting (hstate.symm.trans h))]
      refine ⟨congrArg (fun y => { s with blocks := y }) ?_, report_told _ _ _, fun h => absurd h hstarting⟩
      rw [if_neg hstarting]
      refine (rollCallDone_eq _ _ _).trans ?_
      rw [hround]
      rfl
  · refine (serveRound_of_offering hx hround).trans ?_
    subst hx
    rfl
  · have hoffers : ∀ {reply : List Byte} {o : Offer}, readOffer w.toNat reply = some o → offerReply n reply s.blocks =
        (endWindow n s.blocks).updateRiser n (fun y => { y with round := .deciding w.toNat (some o) }) := by
      intro reply o ho
      unfold offerReply
      rw [awaitedWinner_of hx hphase hqueue hround]
      dsimp only
      rw [ho]
    refine exec_event_eq rfl rfl ((hoffers (readOffer_withCheck hlayout hclass heffects hrates)).trans ?_)
    subst hx
    exact updateRiser_twice hn rfl
  · refine exec_event_eq rfl rfl (b := s.blocks) ?_
    show offerReply n reply s.blocks = _
    unfold offerReply
    rw [awaitedWinner_of hx hphase hqueue hround]
    dsimp only
    rw [hbad]
  · refine exec_event_eq rfl rfl ?_
    show offerFailed n s.blocks = _
    unfold offerFailed
    rw [awaitedWinner_of hx hphase hqueue hround, ← hx, hqueue]
    dsimp only
    rw [if_pos (Nat.succ_lt_succ hattempts)]
    subst hx
    refine updateRiser_twice hn ?_
    unfold raiseAttempt
    rw [hqueue]
  · refine exec_event_eq rfl rfl ?_
    show offerFailed n s.blocks = _
    unfold offerFailed
    rw [awaitedWinner_of hx hphase hqueue hround, ← hx, hqueue]
    dsimp only
    rw [if_neg (not_lt.2 (Nat.succ_le_succ hattempts)), ← hqueue]
    subst hx
    exact updateRiser_twice hn rfl

end Sys2Proof.Machine

/-! PROOFS. The zones of a riser, their node states and the start of a roll call (R139 to R147, R157, R158): obligations O50
and O52. -/

namespace Sys2Proof.Machine

/-! ## The zones of a riser (R142, R154) -/

section
variable {b : Blocks} (hsized : b.zones.length = 96)
include hsized

theorem zone?_mem_allZones {z : Nat} {c : Zone} (h : b.zone? z = some c) : z ∈ allZones := by
  rw [mem_allZones, ← hsized]
  exact zone?_lt b h

theorem mem_zonesOn {n z : Nat} : z ∈ b.zonesOn n ↔ ∃ c, b.zone? z = some c ∧ c.riser = n := by
  unfold Blocks.zonesOn
  rw [List.mem_filter]
  constructor
  · rintro ⟨-, hon⟩
    cases hz : b.zone? z with
    | none => rw [hz] at hon; cases hon
    | some c => rw [hz] at hon; exact ⟨c, rfl, of_decide_eq_true hon⟩
  · rintro ⟨c, hz, hon⟩
    refine ⟨zone?_mem_allZones hsized hz, ?_⟩
    rw [hz]
    exact decide_eq_true hon

theorem mem_liveOn {n z : Nat} : z ∈ b.liveOn n ↔ ∃ c, b.zone? z = some c ∧ c.riser = n ∧ c.node.live = true := by
  unfold Blocks.liveOn
  rw [List.mem_filter, mem_zonesOn hsized]
  constructor
  · rintro ⟨⟨c, hz, hon⟩, hlive⟩
    unfold Blocks.nodeState at hlive
    rw [hz] at hlive
    exact ⟨c, hz, hon, hlive⟩
  · rintro ⟨c, hz, hon, hlive⟩
    refine ⟨⟨c, hz, hon⟩, ?_⟩
    unfold Blocks.nodeState
    rw [hz]
    exact hlive

/-- No zone is found at a slot exactly when none is configured there. -/
theorem zoneAt_eq_none {n slot : Nat} :
    b.zoneAt n slot = none ↔ ∀ z c, b.zone? z = some c → c.riser = n → c.slot ≠ slot := by
  unfold Blocks.zoneAt
  rw [List.find?_eq_none]
  constructor
  · intro h z c hz hon hslot
    refine h z ((mem_zonesOn hsized).2 ⟨c, hz, hon⟩) ?_
    rw [hz]
    exact decide_eq_true hslot
  · intro h z hz hslot
    obtain ⟨c, hz, hon⟩ := (mem_zonesOn hsized).1 hz
    rw [hz] at hslot
    exact h z c hz hon (of_decide_eq_true hslot)

theorem zoneAt_eq_some {n slot z : Nat} (h : b.zoneAt n slot = some z) :
    ∃ c, b.zone? z = some c ∧ c.riser = n ∧ c.slot = slot := by
  obtain ⟨c, hz, hon⟩ := (mem_zonesOn hsized).1 (List.mem_of_find?_eq_some h)
  have hslot := List.find?_some h
  rw [hz] at hslot
  exact ⟨c, hz, hon, of_decide_eq_true hslot⟩

end

theorem zonesOn_nodup (b : Blocks) (n : Nat) : (b.zonesOn n).Nodup := allZones_nodup.filter _

theorem liveOn_nodup (b : Blocks) (n : Nat) : (b.liveOn n).Nodup := (zonesOn_nodup b n).filter _

theorem zonesOn_congr {a b : Blocks} (h : b.zones = a.zones) (n : Nat) : b.zonesOn n = a.zonesOn n := by
  unfold Blocks.zonesOn Blocks.zone?
  rw [h]

theorem zoneAt_congr {a b : Blocks} (h : b.zones = a.zones) (n slot : Nat) : b.zoneAt n slot = a.zoneAt n slot := by
  unfold Blocks.zoneAt Blocks.zonesOn Blocks.zone?
  rw [h]

theorem nodeState_congr {a b : Blocks} (h : b.zones = a.zones) (z : Nat) : b.nodeState z = a.nodeState z := by
  unfold Blocks.nodeState Blocks.zone?
  rw [h]

theorem pollable_congr {a b : Blocks} (h : b.zones = a.zones) (n slot : Nat) : b.pollable n slot = a.pollable n slot := by
  unfold Blocks.pollable Blocks.nodeState Blocks.zoneAt Blocks.zonesOn Blocks.zone?
  rw [h]

theorem liveOn_congr {a b : Blocks} (h : b.zones = a.zones) (n : Nat) : b.liveOn n = a.liveOn n := by
  unfold Blocks.liveOn Blocks.nodeState Blocks.zonesOn Blocks.zone?
  rw [h]

theorem commonRates_congr {a b : Blocks} (h : b.zones = a.zones) (zs : List Nat) : b.commonRates zs = a.commonRates zs := by
  unfold Blocks.commonRates Blocks.zone?
  rw [h]

/-! ## Feeder Control between two steps writes its feeders and reports (R171) -/

theorem evaluateFeeder_records (f : Nat) (b : Blocks) : TouchesRecords b (evaluateFeeder f b) := by
  have hset : ∀ g, TouchesRecords b (b.updateFeeder f g) := fun _ => rfl
  unfold evaluateFeeder
  split
  · exact .refl b
  split
  · exact (hset _).trans (setContactor_records _ _ _)
  split
  · exact hset _
  · exact .refl b

theorem reevaluateFeeder_records {b : Blocks} (h : b.deferral = none) (f : Nat) : TouchesRecords b (reevaluateFeeder f b) := by
  rw [reevaluateFeeder_of_none h]
  exact evaluateFeeder_records f b

theorem evaluateFeeder_keeps_told {b : Blocks} {r : RecordId} {k : ChangeKind} (h : Told b r k) (f : Nat) :
    Told (evaluateFeeder f b) r k := by
  unfold evaluateFeeder
  split
  · exact h
  split
  · exact setContactor_keeps_told (b := b.updateFeeder f _) h _ _
  split
  · exact h
  · exact h

theorem reevaluateFeeder_keeps_told {b : Blocks} {r : RecordId} {k : ChangeKind} (h : Told b r k) (f : Nat) :
    Told (reevaluateFeeder f b) r k := by
  unfold reevaluateFeeder
  split
  · exact h
  · exact evaluateFeeder_keeps_told h f

theorem tellZoneFeeder_keeps_told {b : Blocks} {r : RecordId} {k : ChangeKind} (h : Told b r k) (z : Nat) :
    Told (tellZoneFeeder z b) r k := by
  unfold tellZoneFeeder
  split
  · exact reevaluateFeeder_keeps_told h _
  · exact h

/-! ## A zone's node state (R157) -/

theorem TouchesRecords.deferral {a b : Blocks} (h : TouchesRecords a b) : b.deferral = a.deferral := by rw [h]

theorem TouchesRecords.zones {a b : Blocks} (h : TouchesRecords a b) : b.zones = a.zones := by rw [h]

theorem TouchesRecords.risers {a b : Blocks} (h : TouchesRecords a b) : b.risers = a.risers := by rw [h]

theorem updateZone_records {a b : Blocks} (h : TouchesRecords a b) (z : Nat) (g : Zone → Zone) :
    TouchesRecords (a.updateZone z g) (b.updateZone z g) := by
  unfold TouchesRecords at h
  rw [h]
  rfl

theorem updateZone_same {b : Blocks} {z : Nat} {g : Zone → Zone} (h : ∀ c, b.zone? z = some c → g c = c) :
    b.updateZone z g = b := by
  cases hz : b.zone? z with
  | some c => rw [updateZone_some b z g hz, h c hz, setZone_self b hz]
  | none =>
    have hset : b.zones.set z none = b.zones := by
      refine List.ext_getElem? fun i => ?_
      rw [List.getElem?_set]
      split
      · next hi =>
        subst hi
        split
        · next hlt =>
          have hget : b.zone? z = b.zones[z] := by unfold Blocks.zone?; rw [List.getElem?_eq_getElem hlt]; rfl
          rw [List.getElem?_eq_getElem hlt, ← hget, hz]
        · next hge => rw [List.getElem?_eq_none (not_lt.1 hge)]
      · rfl
    unfold Blocks.updateZone Blocks.setZone
    rw [hz, Option.map_none, hset]

theorem updateZone_twice (b : Blocks) (z : Nat) (f g : Zone → Zone) :
    (b.updateZone z f).updateZone z g = b.updateZone z (fun c => g (f c)) := by
  have hz : (b.updateZone z f).zone? z = (b.zone? z).map f := by rw [updateZone_zone?, if_pos rfl]
  unfold Blocks.updateZone at hz ⊢
  rw [hz, setZone_setZone, Option.map_map]
  rfl

/-- A zone's record with its node state written. -/
def nodeSet (st : NodeState) (c : Zone) : Zone := { c with node := st }

section
variable {b : Blocks} (hdeferral : b.deferral = none) (z : Nat) (st : NodeState)

include hdeferral in
theorem setNode_records : TouchesRecords (b.updateZone z (nodeSet st)) (setNode z st b) := by
  unfold setNode
  split
  · next hsame =>
    rw [updateZone_same fun c hz => ?_]
    · exact .refl b
    · unfold Blocks.nodeState at hsame
      rw [hz] at hsame
      subst hsame
      rfl
  · refine (report_records (b.updateZone z (nodeSet st)) (.zone z) .nodeState).trans ?_
    unfold tellZoneFeeder
    split
    · exact reevaluateFeeder_records ((report_records (b.updateZone z (nodeSet st)) _ _).deferral.trans hdeferral) _
    · exact .refl _

variable {z st}

theorem setNode_told (hchanged : b.nodeState z ≠ st) : Told (setNode z st b) (.zone z) .nodeState := by
  unfold setNode
  rw [if_neg hchanged]
  exact tellZoneFeeder_keeps_told (report_told _ _ _) z

theorem setNode_keeps_told {r : RecordId} {k : ChangeKind} (h : Told b r k) : Told (setNode z st b) r k := by
  unfold setNode
  split
  · exact h
  · exact tellZoneFeeder_keeps_told (submit_keeps_told (b := b.updateZone z _) h _ _ _) z

end

/-! ## A pass over zones -/

/-- A pass that writes each of its zones, and besides only feeders and reports, writes them as the plain pass does. -/
theorem forEach_records {g : Zone → Zone} {op : Nat → Blocks → Blocks}
    (hstep : ∀ (z : Nat) {b : Blocks}, b.deferral = none → TouchesRecords (b.updateZone z g) (op z b)) (l : List Nat) {a b : Blocks}
    (hdeferral : a.deferral = none) (h : TouchesRecords a b) :
    TouchesRecords (forEach l (fun z x => x.updateZone z g) a) (forEach l op b) := by
  induction l generalizing a b with
  | nil => exact h
  | cons z l ih => exact ih hdeferral ((updateZone_records h z g).trans (hstep z (h.deferral.trans hdeferral)))

/-- What a pass of zone records leaves. -/
theorem forEach_updateZone_eq (g : Zone → Zone) (l : List Nat) (b : Blocks) :
    forEach l (fun z x => x.updateZone z g) b =
      { b with zones := (forEach l (fun z x => x.updateZone z g) b).zones } :=
  forEach_rel (R := fun a b => b = { a with zones := b.zones }) (fun _ => rfl) (fun h k => by rw [k, h]) (fun _ _ => rfl) l b

theorem forEach_updateZone_length (g : Zone → Zone) (l : List Nat) (b : Blocks) :
    (forEach l (fun z x => x.updateZone z g) b).zones.length = b.zones.length :=
  forEach_rel (R := fun a b => b.zones.length = a.zones.length) (fun _ => rfl) (fun h k => k.trans h)
    (fun z x => by simp) l b

theorem forEach_updateZone_zone? (g : Zone → Zone) {l : List Nat} (hl : l.Nodup) (b : Blocks) (y : Nat) :
    (forEach l (fun z x => x.updateZone z g) b).zone? y = if y ∈ l then (b.zone? y).map g else b.zone? y := by
  rw [forEach_read (read := fun z x => x.zone? z) (R := fun _ _ => True) (fun _ _ => trivial) ?_ ?_ hl]
  · split
    · rw [updateZone_zone?, if_pos rfl]
    · rfl
  · intro z y x hy
    rw [updateZone_zone?, if_neg hy]
  · intro z x x' _ h
    rw [updateZone_zone?, updateZone_zone?, if_pos rfl, if_pos rfl, h]

/-! ## Zones that lose their address (R139, R140) -/

theorem absentZone_records (allCall : Bool) (z : Nat) {b : Blocks} (hdeferral : b.deferral = none) :
    TouchesRecords (b.updateZone z (addressDropped allCall)) (absentZone allCall z b) := by
  unfold absentZone
  split
  · next hvacant =>
    rw [updateZone_same fun c hz => ?_]
    · exact .refl b
    · unfold Blocks.nodeState at hvacant
      rw [hz] at hvacant
      exact if_pos hvacant
  · next hstands =>
    have hwrites := setNode_records (b := b.updateZone z (fun c => { c with
      age := 0, profile := none, tally := if allCall then clearTally else c.tally })) hdeferral z .absent
    rw [updateZone_twice] at hwrites
    have hsame : b.updateZone z (addressDropped allCall) = b.updateZone z (fun c => nodeSet .absent { c with
        age := 0, profile := none, tally := if allCall then clearTally else c.tally }) := by
      cases hz : b.zone? z with
      | none => unfold Blocks.updateZone; rw [hz]; rfl
      | some c =>
        rw [updateZone_some b z _ hz, updateZone_some b z _ hz]
        refine congrArg (fun y => b.setZone z (some y)) (if_neg fun h => hstands ?_)
        unfold Blocks.nodeState
        rw [hz]
        exact h
    rw [hsame]
    exact hwrites

theorem absentZone_keeps_told {b : Blocks} {r : RecordId} {k : ChangeKind} (h : Told b r k) (allCall : Bool) (z : Nat) :
    Told (absentZone allCall z b) r k := by
  unfold absentZone
  split
  · exact h
  · exact setNode_keeps_told (b := b.updateZone z _) h

/-- Every zone of a riser drops its address. -/
def dropAddresses (allCall : Bool) (n : Nat) (b : Blocks) : Blocks := forEach (b.zonesOn n) (absentZone allCall) b

section
variable {b : Blocks} (hdeferral : b.deferral = none) (allCall : Bool) (n : Nat)
include hdeferral

/-- The pass writes nothing but zone records, feeders and reports. -/
theorem dropAddresses_eq : dropAddresses allCall n b = { b with
    zones := (dropAddresses allCall n b).zones
    feeders := (dropAddresses allCall n b).feeders
    notices := (dropAddresses allCall n b).notices } := by
  have hpass := forEach_records (g := addressDropped allCall) (fun z _ h => absentZone_records allCall z h) (b.zonesOn n) hdeferral
    (.refl b)
  unfold TouchesRecords at hpass
  rw [forEach_updateZone_eq] at hpass
  unfold dropAddresses
  rw [hpass]

theorem dropAddresses_zone? (hsized : b.zones.length = 96) (z : Nat) :
    (dropAddresses allCall n b).zone? z = (b.zone? z).map (fun c => if c.riser = n then addressDropped allCall c else c) := by
  have hpass := forEach_records (g := addressDropped allCall) (fun z _ h => absentZone_records allCall z h) (b.zonesOn n) hdeferral
    (.refl b)
  refine (zone?_congr hpass.zones z).trans ?_
  rw [forEach_updateZone_zone? _ (zonesOn_nodup b n)]
  cases hz : b.zone? z with
  | none =>
    split
    · rfl
    · rfl
  | some c =>
    by_cases hon : c.riser = n
    · rw [if_pos ((mem_zonesOn hsized).2 ⟨c, hz, hon⟩), Option.map_some, Option.map_some, if_pos hon]
    · rw [if_neg fun hmem => ?_, Option.map_some, if_neg hon]
      obtain ⟨d, hd, hdon⟩ := (mem_zonesOn hsized).1 hmem
      rw [hz] at hd
      cases hd
      exact hon hdon

theorem dropAddresses_length : (dropAddresses allCall n b).zones.length = b.zones.length := by
  have hpass := forEach_records (g := addressDropped allCall) (fun z _ h => absentZone_records allCall z h) (b.zonesOn n) hdeferral
    (.refl b)
  exact (congrArg List.length hpass.zones).trans (forEach_updateZone_length _ _ b)

end

/-! ## Rates (R158) -/

theorem mem_allRates (q : Rate) : q ∈ allRates := by cases q <;> decide

/-- The highest rate within a limit of a rising list: none when every rate lies above it. -/
theorem highestRate_eq_none {limit : Nat} {l : List Rate} : highestRate limit l = none ↔ ∀ q ∈ l, limit < q.perSecond := by
  unfold highestRate
  rw [List.getLast?_eq_none_iff, List.filter_eq_nil_iff]
  exact forall₂_congr fun q _ => by rw [decide_eq_true_iff, not_le]

/-- The last member of a rising list is its highest. -/
theorem getLast?_highest {l : List Rate} (hrising : l.Pairwise (fun p q => p.perSecond ≤ q.perSecond)) {q : Rate}
    (h : l.getLast? = some q) : q ∈ l ∧ ∀ p ∈ l, p.perSecond ≤ q.perSecond := by
  obtain ⟨l', rfl⟩ := List.getLast?_eq_some_iff.1 h
  refine ⟨by simp, fun p hp => ?_⟩
  rw [List.pairwise_append] at hrising
  obtain ⟨-, -, hlast⟩ := hrising
  obtain hp | hp := List.mem_append.1 hp
  · exact hlast p hp q (by simp)
  · rw [List.mem_singleton.1 hp]

theorem highestRate_eq_some {limit : Nat} {p : Rate → Bool} {q : Rate} (h : highestRate limit (allRates.filter p) = some q) :
    p q = true ∧ q.perSecond ≤ limit ∧ ∀ q', p q' = true → q'.perSecond ≤ limit → q'.perSecond ≤ q.perSecond := by
  have hrising : allRates.Pairwise (fun p q => p.perSecond ≤ q.perSecond) := by decide
  obtain ⟨hq, hhighest⟩ := getLast?_highest ((hrising.filter p).filter _) h
  obtain ⟨hp, hlimit⟩ := List.mem_filter.1 hq
  refine ⟨(List.mem_filter.1 hp).2, of_decide_eq_true hlimit, fun q' hp' hlimit' => hhighest q' ?_⟩
  exact List.mem_filter.2 ⟨List.mem_filter.2 ⟨mem_allRates q', hp'⟩, decide_eq_true hlimit'⟩

theorem mem_commonRates {b : Blocks} {zs : List Nat} {q : Rate} :
    q ∈ b.commonRates zs ↔ ∀ z ∈ zs, ∃ p, (b.zone? z).bind (fun c => c.profile) = some p ∧ q ∈ p.rates := by
  unfold Blocks.commonRates
  rw [List.mem_filter, List.all_eq_true]
  constructor
  · rintro ⟨-, h⟩ z hz
    have hoffers := h z hz
    split at hoffers
    · next p hp => exact ⟨p, hp, of_decide_eq_true hoffers⟩
    · cases hoffers
  · refine fun h => ⟨mem_allRates q, fun z hz => ?_⟩
    obtain ⟨p, hp, hq⟩ := h z hz
    rw [hp]
    exact decide_eq_true hq

theorem rateOfAll_iff {b : Blocks} (hsized : b.zones.length = 96) {n : Nat} {q : Rate} :
    RateOfAll b n none q ↔ q ∈ b.commonRates (b.liveOn n) := by
  rw [mem_commonRates]
  constructor
  · intro h z hz
    obtain ⟨c, hz, hon, hlive⟩ := (mem_liveOn hsized).1 hz
    obtain ⟨p, hp, hq⟩ := h z c hz hon hlive nofun
    exact ⟨p, by rw [hz]; exact hp, hq⟩
  · intro h z c hz hon hlive _
    obtain ⟨p, hp, hq⟩ := h z ((mem_liveOn hsized).2 ⟨c, hz, hon, hlive⟩)
    rw [hz] at hp
    exact ⟨p, hp, hq⟩

/-! ## The start of a roll call (R158) -/

/-- The pending rate that a riser's record has once its rate is recomputed. -/
def calledRate (b : Blocks) (n : Nat) (x : Riser) : Option Rate :=
  (highestRate x.maxRate.perSecond (b.commonRates (b.liveOn n))).elim x.pending (fun q => if q = x.rate then none else some q)

/-- A riser's record with a roll call started and a pending rate. -/
def called (pending : Option Rate) (x : Riser) : Riser :=
  { x with rollCall := .running, rounds := 0, round := .contention, queue := x.queue ++ [⟨.round, 0, 0⟩], pending := pending }

theorem calledRate_rollCallRate {b : Blocks} (hsized : b.zones.length = 96) (n : Nat) (x : Riser) :
    RollCallRate b n x (calledRate b n x) := by
  unfold calledRate RollCallRate
  simp only [rateOfAll_iff hsized]
  cases hhighest : highestRate x.maxRate.perSecond (b.commonRates (b.liveOn n)) with
  | none => exact .inr ⟨highestRate_eq_none.1 hhighest, rfl⟩
  | some q =>
    obtain ⟨hcommon, hlimit, hmax⟩ := highestRate_eq_some hhighest
    refine .inl ⟨q, List.mem_filter.2 ⟨mem_allRates q, hcommon⟩, hlimit, fun q' hq' => ?_, rfl⟩
    exact hmax q' (List.mem_filter.1 hq').2

theorem startRollCall_eq {n : Nat} {b : Blocks} (hn : n < b.risers.length) : startRollCall n b =
    { b with risers := b.risers.set n (called (calledRate b n (b.riser n)) (b.riser n)) } := by
  have hstarted : joinQueue n roundEntry
      (b.updateRiser n (fun x => { x with rollCall := .running, rounds := 0, round := .contention })) =
      b.updateRiser n (fun x => called x.pending x) := updateRiser_twice hn rfl
  have hrecord : (b.updateRiser n (fun x => called x.pending x)).riser n = called (b.riser n).pending (b.riser n) :=
    updateRiser_riser_self b n _ hn
  unfold startRollCall
  rw [hstarted]
  unfold recomputeRate calledRate
  rw [hrecord]
  show (match highestRate (b.riser n).maxRate.perSecond (b.commonRates (b.liveOn n)) with | none => _ | some q => _) = _
  cases highestRate (b.riser n).maxRate.perSecond (b.commonRates (b.liveOn n)) with
  | none => rfl
  | some q => exact updateRiser_twice hn rfl

/-! ## Roll Call and the notice window (R147, R158) -/

theorem framing_iff {st : RiserState} : st.framing = true ↔ st = .starting ∨ st = .running := by
  cases st <;> simp [RiserState.framing]

theorem rollCall_of_out {n : Nat} (hn : 4 ≤ n) (b : Blocks) : rollCall n b = (b, refuse .outOfRange) := if_pos hn

section
variable {n : Nat} {b : Blocks} (hn : n < 4)
include hn

theorem rollCall_of_still (h : (b.riser n).state.framing = false) : rollCall n b = (b, refuse .wrongState) :=
  (if_neg (by omega)).trans (if_pos (by rw [h]; rfl))

section
variable (hframing : (b.riser n).state.framing = true)
include hframing

theorem rollCall_of_running (h : (b.riser n).rollCall = .running) : rollCall n b = (b, refuse .busy) :=
  (if_neg (by omega)).trans ((if_neg (by rw [hframing]; nofun)).trans (if_pos h))

theorem rollCall_of_idle (h : (b.riser n).rollCall = .idle) : rollCall n b = (startRollCall n b, okWith .empty) :=
  (if_neg (by omega)).trans ((if_neg (by rw [hframing]; nofun)).trans (if_neg (by rw [h]; nofun)))

end

end

theorem beforeNotice_of {p : Phase} (h : p = .tally ∨ p = .tallied) : p.beforeNotice = true := by
  obtain rfl | rfl := h <;> rfl

/-- The blocks when a notice window has opened. -/
def noticed (n : Nat) (b : Blocks) : Blocks := b.updateRiser n (fun y => { y with phase := .noticed })

/-- A notice window that may open, with a contender in its range, has its result. -/
theorem noticeWindow_of_open {n : Nat} {b : Blocks} {x : Riser} {contender : Option Nat} (hx : x = b.riser n)
    (hphase : x.phase = .tally ∨ x.phase = .tallied) (hroom : x.queue.length < 6) (hnone : ∀ e ∈ x.queue, e.kind ≠ .noticeRead)
    (hcontender : contender.getD 0 ≤ 24) : noticeWindow n contender b = noticeResult n contender (noticed n b) := by
  subst hx
  have hopens : (b.riser n).noticeOpens = true := by
    unfold Riser.noticeOpens Riser.queueOpen
    rw [Bool.and_eq_true, Bool.not_eq_true', List.any_eq_false]
    exact ⟨decide_eq_true hroom, fun e he => by rw [decide_eq_true_iff]; exact hnone e he⟩
  unfold noticeWindow
  refine if_pos ?_
  rw [beforeNotice_of hphase, hopens, Bool.true_and, Bool.true_and]
  exact decide_eq_true hcontender

section
variable {n : Nat} {b : Blocks} (hn : n < b.risers.length)
include hn

theorem noticed_riser : (noticed n b).riser n = { b.riser n with phase := .noticed } := updateRiser_riser_self b n _ hn

theorem noticeResult_none_of_running {contender : Option Nat}
    (h : contender = none ∨ contender = some 0 ∧ (b.riser n).rollCall = .running) :
    noticeResult n contender (noticed n b) = noticed n b := by
  obtain rfl | ⟨rfl, hrunning⟩ := h
  · rfl
  · refine if_neg ?_
    rw [noticed_riser hn, show ({ b.riser n with phase := .noticed } : Riser).rollCall = .running from hrunning]
    nofun

theorem noticeResult_of_slot {slot : Nat} (h : 1 ≤ slot) : noticeResult n (some slot) (noticed n b) =
    { b with risers := b.risers.set n { b.riser n with
      phase := .noticed, queue := (b.riser n).queue ++ [⟨.noticeRead, slot, 0⟩] } } := by
  obtain ⟨k, rfl⟩ := Nat.exists_eq_add_of_le' h
  unfold noticeResult noticed joinQueue
  exact updateRiser_twice hn rfl

theorem noticeResult_of_zero (hidle : (b.riser n).rollCall = .idle) : noticeResult n (some 0) (noticed n b) =
    { b with risers := b.risers.set n (called (calledRate b n (b.riser n)) { b.riser n with phase := .noticed }) } := by
  have hstarts : noticeResult n (some 0) (noticed n b) = startRollCall n (noticed n b) := by
    refine if_pos ?_
    rw [noticed_riser hn]
    exact hidle
  rw [hstarts, startRollCall_eq (by unfold noticed; simpa using hn), noticed_riser hn]
  unfold noticed
  dsimp only [updateRiser_risers]
  rw [List.set_set]
  rfl

end

/-! ## Tallies (R146) -/

theorem readTally_withCheck {sequence : Nat} (h : sequence < 256) (x : Byte) :
    readTally sequence (withCheck [BitVec.ofNat 8 sequence, x]) = some (tallyFlags x) := by
  unfold readTally
  rw [show checkedBody 4 (withCheck [BitVec.ofNat 8 sequence, x]) = some [BitVec.ofNat 8 sequence, x] from checkedBody_withCheck _]
  exact if_pos (toNat_ofNat_slot h)

/-- A zone's record with a good tally taken. -/
def tallied (flags : TallyStatus) (c : Zone) : Zone := { c with node := .ready, age := 0, tally := flags }

/-- A change is reported where a condition holds. -/
def reportIf (p : Bool) (r : RecordId) (k : ChangeKind) (b : Blocks) : Blocks := if p then b.report r k else b

theorem reportIf_records (p : Bool) (r : RecordId) (k : ChangeKind) (b : Blocks) : TouchesRecords b (reportIf p r k b) := by
  cases p
  · exact .refl b
  · exact report_records b r k

theorem reportIf_told (r : RecordId) (k : ChangeKind) (b : Blocks) : Told (reportIf true r k b) r k := report_told b r k

theorem reportIf_keeps_told {b : Blocks} {r : RecordId} {k : ChangeKind} (h : Told b r k) (p : Bool) (r' : RecordId)
    (k' : ChangeKind) : Told (reportIf p r' k' b) r k := by
  cases p
  · exact h
  · exact submit_keeps_told h _ _ _

/-- Whether the flags of a tally bring a fault that the flags before did not show. -/
def newFault (old flags : TallyStatus) : Bool := (flags.driverFault && !old.driverFault) || (flags.overheat && !old.overheat)

section
variable {z : Nat} {b : Blocks} {c : Zone} {flags : TallyStatus} (hz : b.zone? z = some c) (hlive : c.node.live = true)
include hz hlive

theorem takeTally_eq : takeTally z flags b =
    reportIf (flags.localOverride && !c.tally.localOverride) (.zone z) .localOverride
      (reportIf (newFault c.tally flags) (.zone z) .nodeFault
        (setNode z .ready (b.setZone z (some { c with age := 0, tally := flags })))) := by
  unfold takeTally
  rw [hz]
  exact if_pos hlive

theorem takeTally_records (hdeferral : b.deferral = none) :
    TouchesRecords (b.setZone z (some (tallied flags c))) (takeTally z flags b) := by
  have hready := setNode_records (b := b.setZone z (some { c with age := 0, tally := flags })) hdeferral z .ready
  rw [updateZone_some _ z _ (by rw [setZone_zone? b z z _ (zone?_lt b hz), if_pos rfl] :
    (b.setZone z (some { c with age := 0, tally := flags })).zone? z = _), setZone_setZone] at hready
  rw [takeTally_eq hz hlive]
  exact hready.trans ((reportIf_records _ _ _ _).trans (reportIf_records _ _ _ _))

theorem takeTally_told_nodeState (hlagging : c.node = .lagging) : Told (takeTally z flags b) (.zone z) .nodeState := by
  rw [takeTally_eq hz hlive]
  refine reportIf_keeps_told (reportIf_keeps_told (setNode_told ?_) _ _ _) _ _ _
  unfold Blocks.nodeState
  rw [setZone_zone? b z z _ (zone?_lt b hz), if_pos rfl]
  show c.node ≠ .ready
  rw [hlagging]
  nofun

theorem takeTally_told_nodeFault (hfault : newFault c.tally flags = true) : Told (takeTally z flags b) (.zone z) .nodeFault := by
  rw [takeTally_eq hz hlive, hfault]
  exact reportIf_keeps_told (reportIf_told _ _ _) _ _ _

theorem takeTally_told_localOverride (hoverride : (flags.localOverride && !c.tally.localOverride) = true) :
    Told (takeTally z flags b) (.zone z) .localOverride := by
  rw [takeTally_eq hz hlive, hoverride]
  exact reportIf_told _ _ _

end

/-- The blocks when a good tally has arrived in its window. -/
def tallyTaken (n : Nat) (b : Blocks) : Blocks := b.updateRiser n (fun x => { x with phase := .tallied })

theorem tallyReply_of_good {n z : Nat} {f : Frame} {reply : List Byte} {flags : TallyStatus} {b : Blocks}
    (hphase : (b.riser n).phase = .tally) (hframe : (b.riser n).lastFrame = some f) (htarget : f.target ≠ 0)
    (hgood : readTally f.sequence reply = some flags) (hat : b.zoneAt n f.target = some z) :
    tallyReply n reply b = takeTally z flags (tallyTaken n b) := by
  unfold tallyReply
  rw [hphase, hframe]
  dsimp only
  rw [if_neg htarget, hgood]
  dsimp only
  rw [show (b.updateRiser n (fun x => { x with phase := .tallied })).zoneAt n f.target = some z from hat]
  rfl

theorem tallyReply_of_bad {n : Nat} {f : Frame} {reply : List Byte} {b : Blocks} (hframe : (b.riser n).lastFrame = some f)
    (hbad : readTally f.sequence reply = none ∨ f.target = 0) : tallyReply n reply b = b := by
  unfold tallyReply
  rw [hframe]
  split
  · next f' _ hf =>
    cases hf
    obtain hbad | hbad := hbad
    · rw [hbad]
      exact ite_self _
    · exact if_pos hbad
  · rfl

/-- Settles O52: a tally by its target, a notice window by its contender, a roll call by the riser's state. -/
theorem talliesNoticesAndRollCalls : Obligations.TalliesNoticesAndRollCalls := by
  unfold Obligations.TalliesNoticesAndRollCalls
  have hriser : ∀ {b : Blocks} {n : Nat}, TablesSized b → n < 4 → n < b.risers.length := by
    rintro b n ⟨-, -, hrisers, -⟩ hn
    rw [hrisers]
    exact hn
  have hzones : ∀ {b : Blocks}, TablesSized b → b.zones.length = 96 := fun ⟨h, _⟩ => h
  have hnone : ∀ {b : Blocks}, TablesSized b → b.deferral = none := fun ⟨_, _, _, _, _, _, _, _, h⟩ => h
  refine ⟨fun s n f x z c hsized hphase hframe htarget hsequence hat hz hlive => ?_, fun s n f reply hframe hbad => ?_,
    fun s n x winner hsized hx hphase hroom hread hwinner => ?_, fun s n x slot hsized hx hphase hroom hread hlow hhigh => ?_,
    fun s n x hsized hx hphase hroom hread hidle => ?_, fun s r n x hasks hn hsized hx hframing hidle => ?_,
    fun s r n hasks => ⟨fun hn => ?_, fun hn hstarting hrunning => ?_, fun hn hframing hbusy => ?_⟩⟩
  · have hreply := tallyReply_of_good hphase hframe htarget (readTally_withCheck hsequence x) hat
    have hz' : (tallyTaken n s.blocks).zone? z = some c := hz
    have hwrites := takeTally_records (flags := tallyFlags x) hz' hlive (show (tallyTaken n s.blocks).deferral = none from hnone (b := s.blocks) hsized)
    have hzones' : ∀ y, (takeTally z (tallyFlags x) (tallyTaken n s.blocks)).zone? y =
        if y = z then some (tallied (tallyFlags x) c) else s.blocks.zone? y := fun y =>
      (zone?_congr hwrites.zones y).trans (setZone_zone? _ z y _ (zone?_lt _ hz'))
    refine ⟨_, exec_event_eq rfl rfl hreply, rfl, ?_, ?_, hwrites.risers, (hzones' z).trans (if_pos rfl),
      fun y hy => (hzones' y).trans (if_neg hy), takeTally_told_nodeState hz' hlive, fun hfault => ?_, fun hnow hbefore => ?_⟩
    · unfold TouchesRecords at hwrites
      show OnlyRisers _ (takeTally z (tallyFlags x) (tallyTaken n s.blocks))
      rw [hwrites]
      rfl
    · show (takeTally z (tallyFlags x) (tallyTaken n s.blocks)).ownUs = _
      unfold TouchesRecords at hwrites
      rw [hwrites]
      rfl
    · refine takeTally_told_nodeFault hz' hlive ?_
      show ((x.getLsbD 0 && !c.tally.driverFault) || (x.getLsbD 1 && !c.tally.overheat)) = true
      obtain ⟨hnow, hbefore⟩ | ⟨hnow, hbefore⟩ := hfault
      · rw [hnow, hbefore]; rfl
      · rw [hnow, hbefore]; exact Bool.or_true _
    · refine takeTally_told_localOverride hz' hlive ?_
      show (x.getLsbD 2 && !c.tally.localOverride) = true
      rw [hnow, hbefore]
      rfl
  · exact exec_event_eq rfl rfl (tallyReply_of_bad hframe hbad)
  · refine exec_event_eq rfl rfl ((noticeWindow_of_open hx hphase hroom hread ?_).trans
      ((noticeResult_none_of_running (hriser hsized n.isLt) (by rw [← hx]; exact hwinner)).trans (by subst hx; rfl)))
    obtain rfl | ⟨rfl, -⟩ := hwinner
    · exact Nat.zero_le _
    · exact Nat.zero_le _
  · refine exec_event_eq rfl rfl ((noticeWindow_of_open (contender := some slot) hx hphase hroom hread hhigh).trans
      ((noticeResult_of_slot (hriser hsized n.isLt) hlow).trans (by rw [← hx])))
  · refine ⟨calledRate s.blocks n x, calledRate_rollCallRate (hzones hsized) n x, exec_event_eq rfl rfl
      ((noticeWindow_of_open hx hphase hroom hread (Nat.zero_le _)).trans
        ((noticeResult_of_zero (hriser hsized n.isLt) (by rw [← hx]; exact hidle)).trans (by rw [← hx]; rfl)))⟩
  · refine ⟨calledRate s.blocks n x, calledRate_rollCallRate (hzones hsized) n x, (exec_rollCall hasks).trans ?_⟩
    rw [rollCall_of_idle hn (by rw [← hx]; exact framing_iff.2 hframing) (by rw [← hx]; exact hidle),
      startRollCall_eq (hriser hsized hn), ← hx]
    rfl
  · rw [exec_rollCall hasks, rollCall_of_out hn]
  · rw [exec_rollCall hasks, rollCall_of_still hn]
    rw [← Bool.not_eq_true, framing_iff]
    exact fun h => h.elim hstarting hrunning
  · rw [exec_rollCall hasks, rollCall_of_running hn (framing_iff.2 hframing) hbusy]

end Sys2Proof.Machine

/-! PROOFS. The settings of a riser, its disabling and its line faults (R139, R151): obligation O50. -/

namespace Sys2Proof.Machine

/-! ## The settings that Configure Riser carries (R139) -/

theorem rateOf_eq_none {v : Nat} : rateOf v = none ↔ v ≠ 20 ∧ v ≠ 25 ∧ v ≠ 40 ∧ v ≠ 50 := by
  unfold rateOf
  rw [List.find?_eq_none]
  simp only [allRates, List.forall_mem_cons, beq_iff_eq, Rate.perSecond]
  refine ⟨fun ⟨h20, h25, h40, h50, _⟩ => ⟨Ne.symm h20, Ne.symm h25, Ne.symm h40, Ne.symm h50⟩,
    fun ⟨h20, h25, h40, h50⟩ => ⟨Ne.symm h20, Ne.symm h25, Ne.symm h40, Ne.symm h50, nofun⟩⟩

/-- Whether the marks of a riser's record with a Configure Riser laid over it lie in their ranges. -/
def marksWithin (y : RiserBody) (x : Riser) : Prop :=
  30 ≤ y.lag.getD x.lag ∧ y.lag.getD x.lag ≤ 200 ∧ y.lag.getD x.lag + 20 ≤ y.lost.getD x.lost ∧ y.lost.getD x.lost ≤ 255

theorem not_marksWithin {y : RiserBody} {x : Riser} : ¬ marksWithin y x ↔
    y.lag.getD x.lag < 30 ∨ 200 < y.lag.getD x.lag ∨ y.lost.getD x.lost < y.lag.getD x.lag + 20 ∨ 255 < y.lost.getD x.lost := by
  unfold marksWithin
  omega

section
variable {y : RiserBody} {x : Riser}

theorem formRiser_of_bad_rate {v : Nat} (hrate : y.maxRate = some v) (hbad : rateOf v = none) : formRiser y x = none := by
  unfold formRiser
  rw [hrate, Option.map_some, hbad]

theorem formRiser_of_unknown_policy (hpolicy : y.policy = some .unknown) : formRiser y x = none := by
  unfold formRiser
  rw [hpolicy]
  dsimp only
  split
  · rfl
  · rfl
  · next h => exact absurd rfl h

/-- With a rate and a policy that are known, the marks decide. -/
theorem formRiser_of_known (hrate : y.maxRate.map rateOf ≠ some none) (hpolicy : y.policy ≠ some .unknown) :
    formRiser y x = none ↔ ¬ marksWithin y x := by
  unfold formRiser marksWithin
  dsimp only
  split
  · contradiction
  · contradiction
  · rw [ite_eq_right_iff]
    simp only [reduceCtorEq, imp_false]

theorem formRiser_eq_none : formRiser y x = none ↔
    (∃ v, y.maxRate = some v ∧ v ≠ 20 ∧ v ≠ 25 ∧ v ≠ 40 ∧ v ≠ 50) ∨ y.policy = some .unknown ∨
      y.lag.getD x.lag < 30 ∨ 200 < y.lag.getD x.lag ∨ y.lost.getD x.lost < y.lag.getD x.lag + 20 ∨
      255 < y.lost.getD x.lost := by
  rw [← not_marksWithin]
  simp only [← rateOf_eq_none]
  by_cases hrate : ∃ v, y.maxRate = some v ∧ rateOf v = none
  · obtain ⟨v, hv, hbad⟩ := id hrate
    exact ⟨fun _ => .inl hrate, fun _ => formRiser_of_bad_rate hv hbad⟩
  by_cases hpolicy : y.policy = some .unknown
  · exact ⟨fun _ => .inr (.inl hpolicy), fun _ => formRiser_of_unknown_policy hpolicy⟩
  have hknown : y.maxRate.map rateOf ≠ some none := fun h => hrate (by
    obtain ⟨v, hv, hbad⟩ := Option.map_eq_some_iff.1 h
    exact ⟨v, hv, hbad⟩)
  rw [formRiser_of_known hknown hpolicy]
  exact ⟨fun h => .inr (.inr h), fun h => (h.resolve_left hrate).resolve_left hpolicy⟩

end

/-! ## Configure Riser (R139) -/

/-- The record of a riser after a maximum rate that was changed is taken. -/
def limited (was : Rate) (x : Riser) : Riser := if x.maxRate = was then x else limitRate x

theorem limited_eq (was : Rate) (x : Riser) : limited was x = { x with pending :=
    if x.maxRate ≠ was ∧ x.maxRate.perSecond < (x.pending.getD x.rate).perSecond then some x.maxRate else x.pending } := by
  unfold limited limitRate
  by_cases hwas : x.maxRate = was
  · rw [if_pos hwas, if_neg fun h => h.1 hwas]
  · by_cases hbelow : x.maxRate.perSecond < (x.pending.getD x.rate).perSecond
    · rw [if_neg hwas, if_pos hbelow, if_pos ⟨hwas, hbelow⟩]
    · rw [if_neg hwas, if_neg hbelow, if_neg fun h => hbelow h.2]

/-- A maximum rate that was changed is taken last. -/
def limitedBlocks (n : Nat) (was : Rate) (x : Riser) (b : Blocks) : Blocks :=
  if x.maxRate = was then b else b.updateRiser n limitRate

theorem risers_set_self {b : Blocks} {n : Nat} (hn : n < b.risers.length) : b.risers.set n (b.riser n) = b.risers := by
  unfold Blocks.riser
  rw [List.getD_eq_getElem _ _ hn, List.set_getElem_self]

theorem limitedBlocks_eq {n : Nat} {b : Blocks} (hn : n < b.risers.length) (was : Rate) {x : Riser}
    (hmax : (b.riser n).maxRate = x.maxRate) :
    limitedBlocks n was x b = { b with risers := b.risers.set n (limited was (b.riser n)) } := by
  unfold limitedBlocks limited
  rw [hmax]
  split
  · rw [risers_set_self hn]
  · rfl

section
variable {n : Nat} {y : RiserBody} {b : Blocks} {x : Riser}

theorem configureRiser_of_out (h : 3 < n ∨ formRiser y (b.riser n) = none) : configureRiser n y b = (b, refuse .outOfRange) := by
  unfold configureRiser
  by_cases hn : 3 < n
  · exact if_pos hn
  · rw [if_neg hn, h.resolve_left hn]

/-- The blocks with a riser's record replaced. -/
def riserStored (n : Nat) (x : Riser) (b : Blocks) : Blocks := { b with risers := b.risers.set n x }

/-- What the flag Enabled makes of the blocks with the settings stored. -/
def enabledActed (n : Nat) (was : Bool) (x : Riser) (b : Blocks) : Blocks :=
  if x.enabled && !was then enterStarting n b else if !x.enabled && was then disableRiser n b else b

theorem configureRiser_of_form (hn : n < 4) (hform : formRiser y (b.riser n) = some x) : configureRiser n y b =
    (limitedBlocks n (b.riser n).maxRate x (enabledActed n (b.riser n).enabled x (riserStored n x b)),
      okWith (riserSettings ((limitedBlocks n (b.riser n).maxRate x
        (enabledActed n (b.riser n).enabled x (riserStored n x b))).riser n))) := by
  unfold configureRiser
  rw [if_neg (by omega), hform]
  rfl

end

theorem riserStored_riser {n : Nat} {b : Blocks} (hn : n < b.risers.length) (x : Riser) : (riserStored n x b).riser n = x :=
  updateRiser_riser_self b n (fun _ => x) hn

theorem riserStored_twice (n : Nat) (x x' : Riser) (b : Blocks) : riserStored n x' (riserStored n x b) = riserStored n x' b := by
  unfold riserStored
  dsimp only
  rw [List.set_set]

/-! ## A disabled riser (R139) -/

/-- A riser's record when it is disabled, but for its state. -/
def switchedOff (x : Riser) : Riser := { abandonAll x with lastFrame := none, newRender := false }

/-- A riser's record when it is disabled. -/
def disabled (x : Riser) : Riser := { switchedOff x with state := .off }

theorem disableRiser_eq_enter (n : Nat) (b : Blocks) :
    disableRiser n b = enterRiserState n .off (dropAddresses false n (b.updateRiser n switchedOff)) := rfl

section
variable {n : Nat} {b : Blocks} (hdeferral : b.deferral = none)
include hdeferral

theorem disableRiser_eq (hn : n < b.risers.length) : disableRiser n b = { b with
    zones := (disableRiser n b).zones
    feeders := (disableRiser n b).feeders
    notices := (disableRiser n b).notices
    risers := b.risers.set n (disabled (b.riser n)) } := by
  have hdrops := dropAddresses_eq (b := b.updateRiser n switchedOff) hdeferral false n
  have hrecord : (dropAddresses false n (b.updateRiser n switchedOff)).riser n = switchedOff (b.riser n) :=
    (riser_congr (congrArg Blocks.risers hdrops) n).trans (updateRiser_riser_self b n _ hn)
  have henters := disableRiser_eq_enter n b
  rw [enterRiserState_eq, hrecord] at henters
  rw [henters]
  generalize (enterRiserState n .off _).notices = l
  rw [hdrops]
  dsimp only [updateRiser_risers]
  rw [List.set_set]
  rfl

theorem disableRiser_zone? (hsized : b.zones.length = 96) (z : Nat) :
    (disableRiser n b).zone? z = (b.zone? z).map (fun c => if c.riser = n then addressDropped false c else c) := by
  refine Eq.trans (zone?_congr ?_ z) (dropAddresses_zone? (b := b.updateRiser n switchedOff) hdeferral false n hsized z)
  rw [disableRiser_eq_enter, enterRiserState_eq]

end

theorem disableRiser_told (n : Nat) (b : Blocks) : Told (disableRiser n b) (.riser n) .riserState := enterRiserState_told _ _ _

/-! ## Line faults (R151) -/

/-- A riser's record when its line faults at an own count. -/
def faulted (own : Nat) (x : Riser) : Riser :=
  { x with
    state := .faulted
    phase := .idle
    retryFrom := some own
    rollCall := .idle
    round := if x.rollCall = .running then .contention else x.round
    queue := if x.rollCall = .running then x.queue.filter (fun e => decide (e.kind ≠ .round)) else x.queue }

theorem lineFault_eq {n : Nat} {b : Blocks} (hn : n < b.risers.length) (hframing : (b.riser n).state.framing = true) :
    lineFault n b = { b with risers := b.risers.set n (faulted b.ownUs (b.riser n)), notices := (lineFault n b).notices } := by
  have hfaults : lineFault n b = enterRiserState n .faulted (b.updateRiser n (fun x =>
      { (if x.rollCall = .running then endRollCall x else x) with phase := .idle, retryFrom := some b.ownUs })) := if_pos hframing
  rw [enterRiserState_eq, updateRiser_riser_self b n _ hn] at hfaults
  rw [hfaults]
  dsimp only [updateRiser_risers]
  rw [List.set_set]
  cases hcall : (b.riser n).rollCall with
  | idle => simp only [faulted, hcall, reduceCtorEq, if_false]; rfl
  | running => simp only [faulted, endRollCall, hcall, if_true]; rfl

theorem lineFault_told {n : Nat} {b : Blocks} (hframing : (b.riser n).state.framing = true) :
    Told (lineFault n b) (.riser n) .riserState := by
  unfold lineFault
  rw [if_pos hframing]
  exact enterRiserState_told _ _ _

/-- Settles O50. -/
theorem riserSettingsAndFaults : Obligations.RiserSettingsAndFaults := by
  unfold Obligations.RiserSettingsAndFaults
  have hriser : ∀ {b : Blocks} {n : Nat}, TablesSized b → n < 4 → n < b.risers.length := by
    rintro b n ⟨-, -, hrisers, -⟩ hn
    rw [hrisers]
    exact hn
  refine ⟨fun y x => formRiser_eq_none, fun s r n y hasks hout => ?_,
    fun s r n y x x' hasks hn hsized hform hsame hx' => ?_, fun s r n y x x' hasks hn hsized hon hform hoff hx' => ?_,
    fun s n x hsized hx hframing => ?_⟩
  · rw [exec_configureRiser hasks, configureRiser_of_out hout]
  · have hacted : enabledActed n (s.blocks.riser n).enabled x (riserStored n x s.blocks) = riserStored n x s.blocks := by
      unfold enabledActed
      rw [hsame, Bool.and_not_self, Bool.not_and_self]
      rfl
    have hlength : n < (riserStored n x s.blocks).risers.length := by
      simpa [riserStored] using hriser hsized hn
    have hrecord := riserStored_riser (hriser hsized hn) x
    have hlimited : limitedBlocks n (s.blocks.riser n).maxRate x (riserStored n x s.blocks) = riserStored n x' s.blocks := by
      rw [limitedBlocks_eq hlength _ (by rw [hrecord]), hrecord, limited_eq, ← hx']
      exact riserStored_twice n x x' s.blocks
    rw [exec_configureRiser hasks, configureRiser_of_form hn hform, hacted, hlimited, riserStored_riser (hriser hsized hn), hx']
    rfl
  · obtain ⟨hzones, -, -, -, -, -, -, -, hdeferral⟩ := id hsized
    have hacted : enabledActed n (s.blocks.riser n).enabled x (riserStored n x s.blocks) =
        disableRiser n (riserStored n x s.blocks) := by
      unfold enabledActed
      rw [hon, hoff]
      rfl
    have hlength : n < (riserStored n x s.blocks).risers.length := by
      simpa [riserStored] using hriser hsized hn
    have hdisabled := disableRiser_eq (b := riserStored n x s.blocks) hdeferral hlength
    rw [riserStored_riser (hriser hsized hn)] at hdisabled
    have hrecord : (disableRiser n (riserStored n x s.blocks)).riser n = disabled x :=
      (riser_congr (congrArg Blocks.risers hdisabled) n).trans (updateRiser_riser_self _ n (fun _ => disabled x) hlength)
    have hx'limited : limited (s.blocks.riser n).maxRate (disabled x) = x' := by
      rw [limited_eq, hx']
      rfl
    have hlimited : limitedBlocks n (s.blocks.riser n).maxRate x (disableRiser n (riserStored n x s.blocks)) =
        riserStored n x' (disableRiser n (riserStored n x s.blocks)) := by
      rw [limitedBlocks_eq (by rw [hdisabled]; simpa using hlength) _ (by rw [hrecord]; rfl), hrecord, hx'limited]
      rfl
    have hfinal : (riserStored n x' (disableRiser n (riserStored n x s.blocks))).riser n = x' :=
      riserStored_riser (by rw [hdisabled]; simpa using hlength) x'
    refine ⟨riserStored n x' (disableRiser n (riserStored n x s.blocks)), ?_, ?_, ?_, ?_, fun z => ?_, disableRiser_told _ _⟩
    · rw [exec_configureRiser hasks, configureRiser_of_form hn hform, hacted, hlimited, hfinal]
      subst hx'
      rfl
    · unfold OnlyRisers
      rw [hdisabled]
      rfl
    · rw [hdisabled]
      rfl
    · rw [hdisabled]
      simp only [riserStored, List.set_set]
    · exact disableRiser_zone? (b := riserStored n x s.blocks) hdeferral hzones z
  · have hfaults := lineFault_eq (b := s.blocks) (hriser hsized n.isLt) (by rw [← hx]; exact framing_iff.2 hframing)
    refine ⟨_, exec_event_eq rfl rfl rfl, congrArg (fun b => { s with blocks := b }) ?_,
      lineFault_told (by rw [← hx]; exact framing_iff.2 hframing)⟩
    subst hx
    exact hfaults

end Sys2Proof.Machine

/-! PROOFS. The frame send of a riser and its entries into Starting (R138 to R145, R151): obligations O51 and O49. -/

namespace Sys2Proof.Machine

/-! ## The pending rate (R141) -/

/-- A riser's record with its pending rate applied. -/
def rateApplied (x : Riser) : Riser := { x with rate := x.pending.getD x.rate, pending := none }

theorem applyRate_eq {n : Nat} {b : Blocks} (hn : n < b.risers.length) : applyRate n b =
    { b with risers := b.risers.set n (rateApplied (b.riser n)), notices := (applyRate n b).notices } := by
  unfold applyRate
  cases hpending : (b.riser n).pending with
  | none =>
    have hsame : rateApplied (b.riser n) = b.riser n := by
      unfold rateApplied
      rw [hpending]
      exact congrArg (fun p => { b.riser n with pending := p }) hpending.symm
    dsimp only
    rw [hsame, risers_set_self hn]
  | some q =>
    refine (report_eq _ _ _).trans ?_
    unfold rateApplied
    rw [hpending]
    rfl

theorem applyRate_told {n : Nat} {b : Blocks} (h : (b.riser n).pending ≠ none) : Told (applyRate n b) (.riser n) .rateChanged := by
  unfold applyRate
  split
  · next hnone => exact absurd hnone h
  · exact report_told _ _ _

theorem applyRate_keeps_told {b : Blocks} {r : RecordId} {k : ChangeKind} (h : Told b r k) (n : Nat) :
    Told (applyRate n b) r k := by
  unfold applyRate
  split
  · exact h
  · exact submit_keeps_told (b := b.updateRiser n _) h _ _ _

/-! ## The ages of the live zones (R144) -/

/-- A zone's record one frame send later, under the marks. -/
def aged (lag lost : Nat) (c : Zone) : Zone :=
  { c with age := min 255 (c.age + 1), node := markedState lag lost (min 255 (c.age + 1)) c.node }

theorem ageZone_records (lag lost z : Nat) {b : Blocks} (hdeferral : b.deferral = none) :
    TouchesRecords (b.updateZone z (aged lag lost)) (ageZone lag lost z b) := by
  unfold ageZone
  cases hz : b.zone? z with
  | none =>
    rw [updateZone_same fun c hc => absurd (hz.symm.trans hc) nofun]
    exact .refl b
  | some c =>
    have hwrites := setNode_records (b := b.setZone z (some { c with age := min 255 (c.age + 1) })) hdeferral z
      (markedState lag lost (min 255 (c.age + 1)) c.node)
    rw [updateZone_some _ z _ (by rw [setZone_zone? b z z _ (zone?_lt b hz), if_pos rfl] :
      (b.setZone z (some { c with age := min 255 (c.age + 1) })).zone? z = _), setZone_setZone] at hwrites
    rw [updateZone_some b z _ hz]
    exact hwrites

theorem ageZone_keeps_told {b : Blocks} {r : RecordId} {k : ChangeKind} (h : Told b r k) (lag lost z : Nat) :
    Told (ageZone lag lost z b) r k := by
  unfold ageZone
  split
  · exact h
  · exact setNode_keeps_told (b := b.setZone z _) h

/-- The live zones of a riser age by one frame send. -/
def ageZones (n : Nat) (b : Blocks) : Blocks := forEach (b.liveOn n) (ageZone (b.riser n).lag (b.riser n).lost) b

section
variable {n : Nat} {b : Blocks} (hdeferral : b.deferral = none)
include hdeferral

theorem ageZones_records :
    TouchesRecords (forEach (b.liveOn n) (fun z x => x.updateZone z (aged (b.riser n).lag (b.riser n).lost)) b) (ageZones n b) :=
  forEach_records (fun z _ h => ageZone_records _ _ z h) (b.liveOn n) hdeferral (.refl b)

theorem ageZones_eq : ageZones n b =
    { b with zones := (ageZones n b).zones, feeders := (ageZones n b).feeders, notices := (ageZones n b).notices } := by
  have hpass := ageZones_records (n := n) hdeferral
  unfold TouchesRecords at hpass
  rw [forEach_updateZone_eq] at hpass
  rw [hpass]

theorem ageZones_length : (ageZones n b).zones.length = b.zones.length :=
  (congrArg List.length (ageZones_records (n := n) hdeferral).zones).trans (forEach_updateZone_length _ _ b)

section
variable (hsized : b.zones.length = 96)
include hsized

theorem ageZones_zone?_of_live {z : Nat} {c : Zone} (hz : b.zone? z = some c) (hon : c.riser = n) (hlive : c.node.live = true) :
    (ageZones n b).zone? z = some (aged (b.riser n).lag (b.riser n).lost c) := by
  refine (zone?_congr (ageZones_records hdeferral).zones z).trans ?_
  rw [forEach_updateZone_zone? _ (liveOn_nodup b n), if_pos ((mem_liveOn hsized).2 ⟨c, hz, hon, hlive⟩), hz]
  rfl

theorem ageZones_zone?_of_other {z : Nat} (h : ∀ c, b.zone? z = some c → c.riser ≠ n ∨ c.node.live = false) :
    (ageZones n b).zone? z = b.zone? z := by
  refine (zone?_congr (ageZones_records hdeferral).zones z).trans ?_
  rw [forEach_updateZone_zone? _ (liveOn_nodup b n), if_neg fun hmem => ?_]
  obtain ⟨c, hz, hon, hlive⟩ := (mem_liveOn hsized).1 hmem
  obtain hother | hdead := h c hz
  · exact hother hon
  · rw [hdead] at hlive
    cases hlive

end

end

/-! ## The tally target (R145) -/

theorem slotsAfter_length (cursor : Nat) : (slotsAfter cursor).length = 24 := by simp [slotsAfter, Config.riserSlots]

theorem slotsAfter_getElem {cursor i : Nat} (h : i < (slotsAfter cursor).length) :
    (slotsAfter cursor)[i] = (cursor + i) % 24 + 1 := by
  simp [slotsAfter, Config.riserSlots]

theorem mem_slotsAfter {cursor slot : Nat} (hlow : 1 ≤ slot) (hhigh : slot ≤ 24) : slot ∈ slotsAfter cursor := by
  unfold slotsAfter Config.riserSlots
  rw [List.mem_map]
  refine ⟨(slot + 23 + (24 - cursor % 24)) % 24, List.mem_range.2 (Nat.mod_lt _ (by decide)), ?_⟩
  omega

section
variable {b : Blocks} {n : Nat}

theorem tallyTarget_none (h : b.tallyTarget n = 0) {slot : Nat} (hlow : 1 ≤ slot) (hhigh : slot ≤ 24) :
    b.pollable n slot = false := by
  unfold Blocks.tallyTarget at h
  cases hfind : (slotsAfter (b.riser n).cursor).find? (b.pollable n) with
  | none => exact Bool.eq_false_iff.2 (List.find?_eq_none.1 hfind slot (mem_slotsAfter hlow hhigh))
  | some target =>
    rw [hfind] at h
    obtain ⟨i, hi, rfl⟩ := List.getElem_of_mem (List.mem_of_find?_eq_some hfind)
    rw [slotsAfter_getElem hi] at h
    cases h

theorem tallyTarget_first (h : b.tallyTarget n ≠ 0) : ∃ k < 24, b.tallyTarget n = ((b.riser n).cursor + k) % 24 + 1 ∧
    b.pollable n (b.tallyTarget n) = true ∧ ∀ j < k, b.pollable n (((b.riser n).cursor + j) % 24 + 1) = false := by
  unfold Blocks.tallyTarget at h ⊢
  cases hfind : (slotsAfter (b.riser n).cursor).find? (b.pollable n) with
  | none => rw [hfind] at h; exact absurd rfl h
  | some target =>
    obtain ⟨hpollable, i, hi, hat, hbefore⟩ := List.find?_eq_some_iff_getElem.1 hfind
    refine ⟨i, by rwa [slotsAfter_length] at hi, hat.symm.trans (slotsAfter_getElem hi), hpollable, fun j hj => ?_⟩
    have hfree := hbefore j hj
    rw [slotsAfter_getElem] at hfree
    exact Bool.not_eq_true' _ ▸ hfree

end

/-! ## The frame (R142) -/

section
variable {b : Blocks} (hsized : b.zones.length = 96) {n slot : Nat}
include hsized

theorem slotEntry_of_hidden (h : ∀ z c, b.zone? z = some c → c.riser = n → c.slot = slot →
    c.isProtected = true ∨ c.node.live = false ∨ b.latestOf z = .noLevels ∨ b.latestOf z = .absent) :
    b.slotEntry n slot = .noLevels := by
  unfold Blocks.slotEntry
  cases hat : b.zoneAt n slot with
  | none => rfl
  | some z =>
    obtain ⟨c, hz, hon, hslot⟩ := zoneAt_eq_some hsized hat
    unfold Blocks.nodeState
    dsimp only
    rw [hz]
    obtain hprotected | hdead | hnone | habsent := h z c hz hon hslot
    · exact if_pos (by simp [hprotected])
    · exact if_pos (by simp [hdead])
    · rw [hnone]; exact ite_self _
    · rw [habsent]; exact ite_self _

theorem slotEntry_of_levels {z : Nat} {c : Zone} {l : Levels} {k : Token} (hz : b.zone? z = some c) (hon : c.riser = n)
    (hslot : c.slot = slot) (honly : ∀ y d, b.zone? y = some d → d.riser = n → d.slot = slot → y = z)
    (hopen : c.isProtected = false) (hlive : c.node.live = true) (hlevels : b.latestOf z = .levels l k) :
    b.slotEntry n slot = .levels (keepLayout c.layout l) k := by
  have hat : b.zoneAt n slot = some z := by
    cases hfound : b.zoneAt n slot with
    | none => exact absurd hslot ((zoneAt_eq_none hsized).1 hfound z c hz hon)
    | some y =>
      obtain ⟨d, hy, hdon, hdslot⟩ := zoneAt_eq_some hsized hfound
      rw [honly y d hy hdon hdslot]
  unfold Blocks.slotEntry Blocks.nodeState
  rw [hat]
  dsimp only
  rw [hz, hlevels]
  exact if_neg (by simp [hopen, hlive])

theorem pollable_iff : b.pollable n slot = true → ∃ z c, b.zone? z = some c ∧ c.riser = n ∧ c.node.live = true := by
  intro h
  unfold Blocks.pollable at h
  split at h
  · next z hat =>
    obtain ⟨c, hz, hon, -⟩ := zoneAt_eq_some hsized hat
    unfold Blocks.nodeState at h
    rw [hz] at h
    exact ⟨z, c, hz, hon, h⟩
  · cases h

end

theorem levelFrame_slots (b : Blocks) (n target i : Nat) (h : i < 24) :
    (b.levelFrame n target).slots[i]? = some (b.slotEntry n (i + 1)) := by
  unfold Blocks.levelFrame Config.riserSlots
  rw [List.getElem?_map, List.getElem?_range h]
  rfl

/-! ## The frame send (R141 to R145) -/

/-- The blocks at the moment a riser's frame is built: the pending rate applied and the live zones aged. -/
def readied (n : Nat) (b : Blocks) : Blocks := ageZones n (applyRate n b)

/-- The frame that a riser sends. -/
def frameOf (n : Nat) (b : Blocks) : Frame := (readied n b).levelFrame n ((readied n b).tallyTarget n)

section
variable {n : Nat} {b : Blocks} (hn : n < b.risers.length) (hdeferral : b.deferral = none)

include hn in
theorem applyRate_riser : (applyRate n b).riser n = rateApplied (b.riser n) :=
  (riser_congr (congrArg Blocks.risers (applyRate_eq hn)) n).trans (updateRiser_riser_self b n rateApplied hn)

include hn in
theorem applyRate_zones : (applyRate n b).zones = b.zones := by rw [applyRate_eq hn]

include hn hdeferral

theorem applyRate_deferral : (applyRate n b).deferral = none := (congrArg Blocks.deferral (applyRate_eq hn)).trans hdeferral

theorem readied_eq : readied n b = { b with
    zones := (readied n b).zones
    feeders := (readied n b).feeders
    notices := (readied n b).notices
    risers := b.risers.set n (rateApplied (b.riser n)) } := by
  have hages := ageZones_eq (n := n) (applyRate_deferral hn hdeferral)
  unfold readied
  rw [hages, applyRate_eq hn]

theorem readied_riser : (readied n b).riser n = rateApplied (b.riser n) :=
  (riser_congr (congrArg Blocks.risers (readied_eq hn hdeferral)) n).trans (updateRiser_riser_self b n rateApplied hn)

theorem readied_length : (readied n b).zones.length = b.zones.length :=
  (ageZones_length (applyRate_deferral hn hdeferral)).trans (congrArg List.length (applyRate_zones hn))

theorem readied_latestOf (z : Nat) : (readied n b).latestOf z = b.latestOf z := by
  unfold Blocks.latestOf
  rw [readied_eq hn hdeferral]

theorem sendFrame_eq_reportIf : sendFrame n b = reportIf (!(b.riser n).newRender) (.riser n) .underrun
    ((readied n b).updateRiser n (sentFrame (readied n b).ownUs ((readied n b).tallyTarget n) (frameOf n b))) := by
  have hsends : sendFrame n b = if ((readied n b).riser n).newRender
      then (readied n b).updateRiser n (sentFrame (readied n b).ownUs ((readied n b).tallyTarget n) (frameOf n b))
      else ((readied n b).updateRiser n
        (sentFrame (readied n b).ownUs ((readied n b).tallyTarget n) (frameOf n b))).report (.riser n) .underrun := rfl
  rw [hsends, readied_riser hn hdeferral]
  cases hnew : (b.riser n).newRender with
  | true => exact if_pos hnew
  | false => exact if_neg (ne_true_of_eq_false hnew)

theorem sendFrame_eq : sendFrame n b = { b with
    zones := (readied n b).zones
    feeders := (readied n b).feeders
    notices := (sendFrame n b).notices
    risers := b.risers.set n (sentFrame b.ownUs ((readied n b).tallyTarget n) (frameOf n b) (rateApplied (b.riser n))) } := by
  have hreports := reportIf_records (!(b.riser n).newRender) (.riser n) .underrun
    ((readied n b).updateRiser n (sentFrame (readied n b).ownUs ((readied n b).tallyTarget n) (frameOf n b)))
  have hfeeders : (sendFrame n b).feeders = (readied n b).feeders := by
    rw [sendFrame_eq_reportIf hn hdeferral]
    unfold reportIf
    split
    · exact report_feeders _ _ _
    · rfl
  rw [← sendFrame_eq_reportIf hn hdeferral] at hreports
  unfold TouchesRecords at hreports
  rw [hfeeders] at hreports
  rw [hreports]
  dsimp only [updateRiser_risers, updateRiser_zones]
  rw [readied_riser hn hdeferral]
  have hready := readied_eq hn hdeferral
  rw [hready]
  dsimp only [Blocks.updateRiser]
  rw [List.set_set]

end

theorem markedState_eq (lag lost age : Nat) (st : NodeState) : markedState lag lost age st =
    if lost ≤ age then .lost else if st = .ready ∧ lag ≤ age then .lagging else st := rfl

theorem readied_keeps_told {n : Nat} {b : Blocks} {r : RecordId} {k : ChangeKind} (h : Told (applyRate n b) r k) :
    Told (readied n b) r k :=
  forEach_keeps (P := fun x => Told x r k) (fun z _ h => ageZone_keeps_told h _ _ z) _ _ h

theorem sendFrame_keeps_told {n : Nat} {b : Blocks} (hn : n < b.risers.length) (hdeferral : b.deferral = none) {r : RecordId}
    {k : ChangeKind} (h : Told (readied n b) r k) : Told (sendFrame n b) r k := by
  rw [sendFrame_eq_reportIf hn hdeferral]
  exact reportIf_keeps_told (b := (readied n b).updateRiser n _) h _ _ _

/-- What a frame send does. -/
theorem sendFrame_sent {n : Nat} {b : Blocks} (hn : n < b.risers.length) (hsized : b.zones.length = 96)
    (hdeferral : b.deferral = none) : FrameSent b (sendFrame n b) n (frameOf n b) := by
  have hsends := sendFrame_eq hn hdeferral
  have hrecord := readied_riser hn hdeferral
  have hready : (readied n b).zones.length = 96 := (readied_length hn hdeferral).trans hsized
  have happlied : (applyRate n b).zones.length = 96 := (congrArg List.length (applyRate_zones hn)).trans hsized
  have happlied? : ∀ z, (applyRate n b).zone? z = b.zone? z := zone?_congr (applyRate_zones hn)
  have hnone := applyRate_deferral hn hdeferral
  have hzone? : ∀ z, (sendFrame n b).zone? z = (readied n b).zone? z := zone?_congr (by rw [hsends])
  have hlatest : ∀ z, (sendFrame n b).latestOf z = (readied n b).latestOf z := fun z => by
    rw [readied_latestOf hn hdeferral]
    unfold Blocks.latestOf
    rw [hsends]
  have hpollable : ∀ slot, (sendFrame n b).pollable n slot = (readied n b).pollable n slot := pollable_congr (by rw [hsends]) n
  refine ⟨?_, by rw [hsends], ?_, fun hnew => ?_, fun hpending => ?_, fun z c hz hon hlive => ?_, fun z hother => ?_, ?_, ?_, ?_,
    fun i hi hhidden => ?_, fun i z c l k hi hz hon hslot honly hopen hlive hlevels => ?_, fun htarget slot hlow hhigh => ?_,
    fun htarget => ?_⟩
  · unfold OnlyRisers
    rw [hsends]
  · rw [hsends]
    rfl
  · rw [sendFrame_eq_reportIf hn hdeferral, hnew]
    exact reportIf_told _ _ _
  · exact sendFrame_keeps_told hn hdeferral (readied_keeps_told (applyRate_told hpending))
  · rw [hzone?]
    refine (ageZones_zone?_of_live hnone happlied ((happlied? z).trans hz) hon hlive).trans ?_
    rw [applyRate_riser hn]
    rfl
  · rw [hzone?]
    refine (ageZones_zone?_of_other hnone happlied fun c hc => hother c ((happlied? z).symm.trans hc)).trans (happlied? z)
  · show ((readied n b).riser n).sequence = _
    rw [hrecord]
    rfl
  · show ((readied n b).riser n).rate = _
    rw [hrecord]
    rfl
  · simp [frameOf, Blocks.levelFrame, Config.riserSlots]
  · refine (levelFrame_slots _ _ _ _ hi).trans (congrArg some (slotEntry_of_hidden hready fun z c hz hon hslot => ?_))
    rw [← hlatest]
    exact hhidden z c ((hzone? z).trans hz) hon hslot
  · refine (levelFrame_slots _ _ _ _ hi).trans (congrArg some ((slotEntry_of_levels hready ((hzone? z).symm.trans hz) hon hslot
      (fun y d hy => honly y d ((hzone? y).trans hy)) hopen hlive ((hlatest z).symm.trans hlevels)).trans ?_))
    cases c.layout <;> rfl
  · rw [hpollable]
    exact tallyTarget_none htarget hlow hhigh
  · obtain ⟨k, hk, hat, hlive, hbefore⟩ := tallyTarget_first htarget
    rw [hrecord] at hat hbefore
    refine ⟨k, hk, hat, (hpollable _).trans hlive, fun j hj => (hpollable _).trans (hbefore j hj)⟩

/-- Settles O51. -/
theorem frameSendBuildsTheFrame : Obligations.FrameSendBuildsTheFrame := by
  unfold Obligations.FrameSendBuildsTheFrame
  intro s n x hsized hx hframing hphase
  obtain ⟨hzones, -, hrisers, -, -, -, -, -, hdeferral⟩ := hsized
  have hsends : nextFrame n s.blocks = sendFrame n (s.blocks.advanceTo (x.lastSend + x.rate.periodUs)) := by
    subst hx
    refine if_pos ?_
    rw [framing_iff.2 hframing, Bool.true_and]
    exact decide_eq_true hphase
  exact ⟨_, _, exec_event_eq rfl rfl hsends, rfl,
    sendFrame_sent (b := s.blocks.advanceTo (x.lastSend + x.rate.periodUs)) (hrisers.symm ▸ n.isLt) hzones hdeferral⟩

/-! ## The entries into Starting (R140) -/

/-- The blocks of a riser in Starting with its start-up roll call running, before its first frame send. -/
def begun (n : Nat) (b : Blocks) : Blocks := startRollCall n (enterRiserState n .starting b)

/-- A riser's record in Starting with its start-up roll call running. -/
def starting (pending : Option Rate) (x : Riser) : Riser := called pending { x with state := .starting }

section
variable {n : Nat} {b : Blocks} (hn : n < b.risers.length)
include hn

theorem begun_eq : begun n b = { b with
    risers := b.risers.set n (starting (calledRate b n (b.riser n)) (b.riser n)), notices := (begun n b).notices } := by
  have henters := enterRiserState_eq n .starting b
  have hlength : n < (enterRiserState n .starting b).risers.length := by rw [henters]; simpa using hn
  have hrecord : (enterRiserState n .starting b).riser n = { b.riser n with state := .starting } :=
    (riser_congr (congrArg Blocks.risers henters) n).trans (updateRiser_riser_self b n (fun x => { x with state := .starting }) hn)
  have hrate : calledRate (enterRiserState n .starting b) n { b.riser n with state := .starting } =
      calledRate b n (b.riser n) := by
    unfold calledRate
    rw [liveOn_congr (show (enterRiserState n .starting b).zones = b.zones by rw [henters]),
      commonRates_congr (show (enterRiserState n .starting b).zones = b.zones by rw [henters])]
  unfold begun
  rw [startRollCall_eq hlength, hrecord, hrate]
  rw [henters]
  dsimp only
  rw [List.set_set]
  rfl

theorem begun_riser : (begun n b).riser n = starting (calledRate b n (b.riser n)) (b.riser n) :=
  (riser_congr (congrArg Blocks.risers (begun_eq hn)) n).trans (updateRiser_riser_self b n (fun _ => _) hn)

theorem begun_told : Told (begun n b) (.riser n) .riserState := by
  have hlength : n < (enterRiserState n .starting b).risers.length := by rw [enterRiserState_eq]; simpa using hn
  unfold begun
  rw [startRollCall_eq hlength]
  exact enterRiserState_told n .starting b

theorem begun_length : n < (begun n b).risers.length := by
  rw [begun_eq hn]
  simpa using hn

theorem lineFault_begun : lineFault n (begun n b) = { b with
    risers := b.risers.set n (faulted b.ownUs (starting (calledRate b n (b.riser n)) (b.riser n)))
    notices := (lineFault n (begun n b)).notices } := by
  have hfaults := lineFault_eq (begun_length hn) (by rw [begun_riser hn]; rfl)
  rw [begun_riser hn] at hfaults
  rw [hfaults, begun_eq hn]
  dsimp only
  rw [List.set_set]

theorem lineFault_begun_told : Told (lineFault n (begun n b)) (.riser n) .riserState :=
  lineFault_told (by rw [begun_riser hn]; rfl)

end

end Sys2Proof.Machine

/-! PROOFS. The entries of a riser into Starting (R138, R140, R151): obligation O49. -/

namespace Sys2Proof.Machine

/-! ## The frame of what the Riser Controllers write -/

theorem OnlyRisers.of_eq {a b : Blocks} {u : Nat} {zones : List (Option Zone)} {risers : List Riser} {feeders : List Feeder}
    {notices : List NoticeEntry} (h : b = { a with
      ownUs := u, zones := zones, risers := risers, feeders := feeders, notices := notices }) : OnlyRisers a b := by
  subst h
  rfl

theorem OnlyRisers.trans {a b c : Blocks} (h : OnlyRisers a b) (k : OnlyRisers b c) : OnlyRisers a c := by
  unfold OnlyRisers at *
  rw [k, h]

/-! ## A riser whose zones have dropped their addresses -/

/-- A riser's record when the all-call Reset has been sent. -/
def resetting (x : Riser) : Riser := { abandonAll x with sent := some (.resetNode 0) }

/-- The blocks when the all-call Reset has made the zones of a riser Absent. -/
def allReset (n : Nat) (b : Blocks) : Blocks := dropAddresses true n (b.updateRiser n resetting)

theorem enterStarting_eq (n : Nat) (b : Blocks) :
    enterStarting n b = beginFrames n (Config.lineHeld n b.ownUs) (allReset n b) := rfl

section
variable {n : Nat} {b : Blocks} (hdeferral : b.deferral = none)
include hdeferral

theorem allReset_eq : allReset n b = { b with
    zones := (allReset n b).zones
    feeders := (allReset n b).feeders
    notices := (allReset n b).notices
    risers := b.risers.set n (resetting (b.riser n)) } :=
  dropAddresses_eq (b := b.updateRiser n resetting) hdeferral true n

theorem allReset_riser (hn : n < b.risers.length) : (allReset n b).riser n = resetting (b.riser n) :=
  (riser_congr (congrArg Blocks.risers (allReset_eq hdeferral)) n).trans (updateRiser_riser_self b n resetting hn)

theorem allReset_deferral : (allReset n b).deferral = none := (congrArg Blocks.deferral (allReset_eq hdeferral)).trans hdeferral

theorem allReset_length : (allReset n b).zones.length = b.zones.length :=
  dropAddresses_length (b := b.updateRiser n resetting) hdeferral true n

variable (hsized : b.zones.length = 96)
include hsized

theorem allReset_zone? (z : Nat) :
    (allReset n b).zone? z = (b.zone? z).map (fun c => if c.riser = n then addressDropped true c else c) :=
  dropAddresses_zone? (b := b.updateRiser n resetting) hdeferral true n hsized z

/-- No zone of the riser is live any more. -/
theorem allReset_dead {z : Nat} {c : Zone} (hz : (allReset n b).zone? z = some c) (hon : c.riser = n) : c.node.live = false := by
  rw [allReset_zone? hdeferral hsized] at hz
  obtain ⟨d, -, rfl⟩ := Option.map_eq_some_iff.1 hz
  split at hon
  · next hdon =>
    rw [if_pos hdon]
    unfold addressDropped
    split
    · next hvacant => rw [hvacant]; rfl
    · rfl
  · next hdon => exact absurd hon hdon

end

/-! ## A riser without a live zone -/

theorem highestRate_all (q : Rate) : highestRate q.perSecond allRates = some q := by cases q <;> decide

section
variable {n : Nat} {b : Blocks} (hsized : b.zones.length = 96)
  (hdead : ∀ z c, b.zone? z = some c → c.riser = n → c.node.live = false)
include hsized hdead

theorem liveOn_of_dead : b.liveOn n = [] := by
  refine List.eq_nil_iff_forall_not_mem.2 fun z hz => ?_
  obtain ⟨c, hz, hon, hlive⟩ := (mem_liveOn hsized).1 hz
  rw [hdead z c hz hon] at hlive
  cases hlive

/-- The common rate set is then all four rates. -/
theorem calledRate_of_dead (x : Riser) : calledRate b n x = if x.maxRate = x.rate then none else some x.maxRate := by
  have hall : b.commonRates (b.liveOn n) = allRates := by
    rw [liveOn_of_dead hsized hdead]
    exact List.filter_eq_self.2 fun _ _ => rfl
  unfold calledRate
  rw [hall, highestRate_all]
  rfl

end

/-- The frame that carries no levels and asks for no tally. -/
def emptyFrame (x : Riser) : Frame := ⟨x.sequence, x.pending.getD x.rate, 0, List.replicate 24 .noLevels⟩

section
variable {a b : Blocks} {n : Nat} {f : Frame} (h : FrameSent a b n f)
  (hdead : ∀ z c, a.zone? z = some c → c.riser = n → c.node.live = false)
include h hdead

/-- A riser without a live zone leaves every zone record at its frame send. -/
theorem FrameSent.zone?_of_dead (z : Nat) : b.zone? z = a.zone? z := by
  obtain ⟨-, -, -, -, -, -, hother, -⟩ := h
  refine hother z fun c hz => ?_
  by_cases hon : c.riser = n
  · exact .inr (hdead z c hz hon)
  · exact .inl hon

theorem FrameSent.frame_of_dead (hlength : b.zones.length = 96) : f = emptyFrame (a.riser n) := by
  have hdeadb : ∀ z c, b.zone? z = some c → c.riser = n → c.node.live = false := fun z c hz =>
    hdead z c ((h.zone?_of_dead hdead z).symm.trans hz)
  obtain ⟨-, -, -, -, -, -, -, hsequence, hrate, hslots, hhidden, -, -, htarget⟩ := h
  have htarget0 : f.target = 0 := by
    by_contra hne
    obtain ⟨k, -, -, hpollable, -⟩ := htarget hne
    obtain ⟨z, c, hz, hon, hlive⟩ := pollable_iff hlength hpollable
    rw [hdeadb z c hz hon] at hlive
    cases hlive
  have hempty : f.slots = List.replicate 24 .noLevels := by
    refine List.ext_getElem? fun i => ?_
    rw [List.getElem?_replicate]
    split
    · next hi => exact hhidden i hi fun z c hz hon _ => .inr (.inl (hdeadb z c hz hon))
    · next hi => exact List.getElem?_eq_none (by omega)
  unfold emptyFrame
  rw [← hsequence, ← hrate, ← htarget0, ← hempty]

end

/-! ## Entry from Off, or by Riser Reset (R140) -/

section
variable {n : Nat} {b : Blocks} (hn : n < b.risers.length) (hsized : b.zones.length = 96) (hdeferral : b.deferral = none)
include hn hdeferral

theorem allReset_risers_length : n < (allReset n b).risers.length := by
  rw [allReset_eq hdeferral]
  simpa using hn

include hsized

/-- The blocks before the first frame send. -/
theorem begun_allReset : begun n (allReset n b) = { b with
    zones := (allReset n b).zones
    feeders := (allReset n b).feeders
    notices := (begun n (allReset n b)).notices
    risers := b.risers.set n (starting (if (b.riser n).maxRate = (b.riser n).rate then none else some (b.riser n).maxRate)
      (resetting (b.riser n))) } := by
  have hbegun := begun_eq (allReset_risers_length hn hdeferral)
  rw [calledRate_of_dead ((allReset_length hdeferral).trans hsized) (fun _ _ => allReset_dead hdeferral hsized),
    allReset_riser hdeferral hn] at hbegun
  rw [hbegun, allReset_eq hdeferral]
  dsimp only
  rw [List.set_set]
  rfl

theorem begun_allReset_riser : (begun n (allReset n b)).riser n =
    starting (if (b.riser n).maxRate = (b.riser n).rate then none else some (b.riser n).maxRate) (resetting (b.riser n)) :=
  (riser_congr (congrArg Blocks.risers (begun_allReset hn hsized hdeferral)) n).trans
    (updateRiser_riser_self b n (fun _ => _) hn)

theorem enterStarting_held : EntersStarting b (lineFault n (begun n (allReset n b))) n (b.riser n) true := by
  have hzones : (lineFault n (begun n (allReset n b))).zones = (allReset n b).zones := by
    rw [lineFault_begun (allReset_risers_length hn hdeferral)]
  have hlined : lineFault n (begun n (allReset n b)) = { b with
      zones := (allReset n b).zones
      feeders := (allReset n b).feeders
      notices := (lineFault n (begun n (allReset n b))).notices
      risers := b.risers.set n (heldRiser (b.riser n) b.ownUs) } := by
    have hfaults := lineFault_eq (begun_length (allReset_risers_length hn hdeferral))
      (by rw [begun_allReset_riser hn hsized hdeferral]; rfl)
    rw [begun_allReset_riser hn hsized hdeferral] at hfaults
    rw [hfaults, begun_allReset hn hsized hdeferral]
    dsimp only
    rw [List.set_set]
    rfl
  refine ⟨?_, by rw [hlined], by rw [hlined]; rfl, fun z => (zone?_congr hzones z).trans (allReset_zone? hdeferral hsized z),
    lineFault_begun_told (allReset_risers_length hn hdeferral)⟩
  unfold OnlyRisers
  rw [hlined]

theorem enterStarting_free : EntersStarting b (sendFrame n (begun n (allReset n b))) n (b.riser n) false := by
  have hbegun := begun_allReset hn hsized hdeferral
  have hlength : n < (begun n (allReset n b)).risers.length := begun_length (allReset_risers_length hn hdeferral)
  have hzones : (begun n (allReset n b)).zones = (allReset n b).zones := by rw [hbegun]
  have hzonesLength : (begun n (allReset n b)).zones.length = 96 := by rw [hzones, allReset_length hdeferral, hsized]
  have hnone : (begun n (allReset n b)).deferral = none := by rw [hbegun]; exact hdeferral
  have hdead : ∀ z c, (begun n (allReset n b)).zone? z = some c → c.riser = n → c.node.live = false := fun z c hz =>
    allReset_dead hdeferral hsized ((zone?_congr hzones z).symm.trans hz)
  have hsent := sendFrame_sent hlength hzonesLength hnone
  have hframe := hsent.frame_of_dead hdead (by
    rw [sendFrame_eq hlength hnone]
    exact (readied_length hlength hnone).trans hzonesLength)
  have hzone? := hsent.zone?_of_dead hdead
  obtain ⟨honly, hown, hrisers, -⟩ := hsent
  rw [hframe, begun_allReset_riser hn hsized hdeferral] at hrisers
  refine ⟨?_, ?_, ?_, fun z => ?_, ?_⟩
  · exact OnlyRisers.trans (.of_eq hbegun) honly
  · rw [hown, hbegun]
  · rw [hrisers, hbegun]
    dsimp only
    rw [List.set_set]
    have hrate : (if (b.riser n).maxRate = (b.riser n).rate then none else some (b.riser n).maxRate).getD (b.riser n).rate =
        (b.riser n).maxRate := by
      split
      · next hsame => exact hsame.symm
      · rfl
    exact congrArg (b.risers.set n) (by simp only [starting, called, resetting, abandonAll, emptyFrame, hrate, startedRiser]; rfl)
  · exact (hzone? z).trans ((zone?_congr hzones z).trans (allReset_zone? hdeferral hsized z))
  · exact sendFrame_keeps_told hlength hnone
      (readied_keeps_told (applyRate_keeps_told (begun_told (allReset_risers_length hn hdeferral)) n))

theorem enterStarting_enters : EntersStarting b (enterStarting n b) n (b.riser n) (Config.lineHeld n b.ownUs) := by
  rw [enterStarting_eq]
  cases Config.lineHeld n b.ownUs with
  | true =>
    rw [beginFrames_held, ← begun]
    exact enterStarting_held hn hsized hdeferral
  | false =>
    rw [beginFrames_free, ← begun]
    exact enterStarting_free hn hsized hdeferral

end

theorem EntersStarting.riser {a b : Blocks} {n : Nat} {x : Riser} {held : Bool} (h : EntersStarting a b n x held)
    (hn : n < a.risers.length) : b.riser n = if held then heldRiser x a.ownUs else startedRiser x a.ownUs := by
  obtain ⟨-, -, hrisers, -⟩ := h
  exact (riser_congr hrisers n).trans (updateRiser_riser_self a n (fun _ => _) hn)

theorem EntersStarting.of_stored {a b : Blocks} {n : Nat} {x y : Riser} {held : Bool}
    (h : EntersStarting (riserStored n y a) b n x held) : EntersStarting a b n x held := by
  obtain ⟨honly, hown, hrisers, hzone?, htold⟩ := h
  refine ⟨OnlyRisers.trans (.of_eq (b := riserStored n y a) rfl) honly, hown, ?_, hzone?, htold⟩
  rw [hrisers]
  unfold riserStored
  dsimp only
  rw [List.set_set]

/-- The pending rate of an entry lies at the maximum rate already. -/
theorem limited_entered (was : Rate) (x : Riser) (own : Nat) (held : Bool) :
    limited was (if held then heldRiser x own else startedRiser x own) = if held then heldRiser x own else startedRiser x own := by
  rw [limited_eq]
  cases held with
  | false => simp [startedRiser]
  | true =>
    by_cases hsame : x.maxRate = x.rate
    · simp [heldRiser, hsame]
    · simp [heldRiser, hsame]

theorem riserReset_of_standing {n : Nat} {b : Blocks} (hn : n < 4) (h : (b.riser n).state ≠ .off) :
    riserReset n b = (enterStarting n b, okWith .empty) := (if_neg (by omega)).trans (if_neg h)

/-! ## Entry from Faulted (R140, R151) -/

/-- The blocks at the expiry of a riser's retry timer, the timer stopped. -/
def retryStopped (n us : Nat) (b : Blocks) : Blocks := (b.advanceTo us).updateRiser n (fun x => { x with retryFrom := none })

section
variable {n t0 own : Nat} {b : Blocks} (hn : n < b.risers.length) (hstate : (b.riser n).state = .faulted)
  (hretry : (b.riser n).retryFrom = some t0) (hown : own = max b.ownUs (t0 + 1000000))

include hstate hretry hown in
theorem retryExpiry_eq : retryExpiry n b = beginFrames n (Config.lineHeld n own) (retryStopped n (t0 + 1000000) b) := by
  subst hown
  unfold retryExpiry
  rw [hstate, hretry]
  rfl

include hn hown

/-- The blocks in Starting again, before the first frame send. -/
theorem begun_retryStopped : begun n (retryStopped n (t0 + 1000000) b) = { b with
    ownUs := own
    risers := b.risers.set n (starting (calledRate b n (b.riser n)) { b.riser n with retryFrom := none })
    notices := (begun n (retryStopped n (t0 + 1000000) b)).notices } := by
  subst hown
  have hlength : n < (retryStopped n (t0 + 1000000) b).risers.length := by simpa [retryStopped] using hn
  have hrecord : (retryStopped n (t0 + 1000000) b).riser n = { b.riser n with retryFrom := none } :=
    updateRiser_riser_self (b.advanceTo (t0 + 1000000)) n _ hn
  have hbegun := begun_eq hlength
  rw [hrecord] at hbegun
  refine hbegun.trans ?_
  generalize (begun n (retryStopped n (t0 + 1000000) b)).notices = l
  unfold retryStopped
  dsimp only [updateRiser_risers]
  rw [List.set_set]
  rfl

theorem begun_retryStopped_riser : (begun n (retryStopped n (t0 + 1000000) b)).riser n =
    starting (calledRate b n (b.riser n)) { b.riser n with retryFrom := none } :=
  (riser_congr (congrArg Blocks.risers (begun_retryStopped hn hown)) n).trans (updateRiser_riser_self b n (fun _ => _) hn)

theorem lineFault_retryStopped : lineFault n (begun n (retryStopped n (t0 + 1000000) b)) = { b with
    ownUs := own
    risers := b.risers.set n { b.riser n with
      state := .faulted
      retryFrom := some own
      phase := .idle
      rollCall := .idle
      rounds := 0
      round := .contention
      queue := (b.riser n).queue.filter (fun e => decide (e.kind ≠ .round))
      pending := calledRate b n (b.riser n) }
    notices := (lineFault n (begun n (retryStopped n (t0 + 1000000) b))).notices } := by
  have hlength : n < (retryStopped n (t0 + 1000000) b).risers.length := by simpa [retryStopped] using hn
  have hfaults := lineFault_eq (begun_length hlength) (by rw [begun_retryStopped_riser hn hown]; rfl)
  rw [begun_retryStopped_riser hn hown] at hfaults
  refine hfaults.trans ?_
  generalize (lineFault n (begun n (retryStopped n (t0 + 1000000) b))).notices = l
  rw [begun_retryStopped hn hown]
  dsimp only
  rw [List.set_set]
  refine congrArg (fun x => { b with ownUs := own, risers := b.risers.set n x, notices := l }) ?_
  simp [faulted, starting, called]

end

/-- Settles O49. -/
theorem risersEnterStarting : Obligations.RisersEnterStarting := by
  unfold Obligations.RisersEnterStarting
  have hriser : ∀ {b : Blocks} {n : Nat}, TablesSized b → n < 4 → n < b.risers.length := by
    rintro b n ⟨-, -, hrisers, -⟩ hn
    rw [hrisers]
    exact hn
  refine ⟨fun s r n y x held hasks hn hheld hsized hoff hform hon => ?_, fun s r n held hasks hn hsized hheld hstate => ?_,
    fun s r n hasks => ⟨fun hn => ?_, fun hn hoff => ?_⟩, fun s n t0 own hsized hstate hretry hown => ?_⟩
  · obtain ⟨hzones, -, -, -, -, -, -, -, hdeferral⟩ := id hsized
    have hlength : n < (riserStored n x s.blocks).risers.length := by
      simpa [riserStored] using hriser hsized hn
    have henters := enterStarting_enters (b := riserStored n x s.blocks) hlength hzones hdeferral
    rw [riserStored_riser (hriser hsized hn), show Config.lineHeld n (riserStored n x s.blocks).ownUs = held from hheld.symm]
      at henters
    have hrecord := henters.riser hlength
    have hacted : enabledActed n (s.blocks.riser n).enabled x (riserStored n x s.blocks) =
        enterStarting n (riserStored n x s.blocks) := by
      unfold enabledActed
      rw [hon, hoff]
      rfl
    have hlengthb : n < (enterStarting n (riserStored n x s.blocks)).risers.length := by
      obtain ⟨-, -, hrisers, -⟩ := henters
      rw [hrisers]
      simpa using hlength
    have hlimited : limitedBlocks n (s.blocks.riser n).maxRate x (enterStarting n (riserStored n x s.blocks)) =
        enterStarting n (riserStored n x s.blocks) := by
      rw [limitedBlocks_eq hlengthb _ (by rw [hrecord]; split <;> rfl), hrecord, limited_entered, ← hrecord,
        risers_set_self hlengthb]
    refine ⟨_, ?_, henters.of_stored⟩
    rw [exec_configureRiser hasks, configureRiser_of_form hn hform, hacted, hlimited, hrecord]
    cases held <;> rfl
  · obtain ⟨hzones, -, -, -, -, -, -, -, hdeferral⟩ := id hsized
    refine ⟨enterStarting n s.blocks, ?_, ?_⟩
    · rw [exec_riserReset hasks, riserReset_of_standing hn hstate]
    · rw [hheld]
      exact enterStarting_enters (hriser hsized hn) hzones hdeferral
  · rw [exec_riserReset hasks, show riserReset n s.blocks = _ from if_pos hn]
  · rw [exec_riserReset hasks, show riserReset n s.blocks = _ from (if_neg (by omega)).trans (if_pos hoff)]
  · obtain ⟨hzones, -, -, -, -, -, -, -, hdeferral⟩ := id hsized
    have hlength : n.val < (retryStopped n (t0 + 1000000) s.blocks).risers.length := by
      simpa [retryStopped] using hriser hsized n.isLt
    have hbegun := begun_retryStopped (hriser hsized n.isLt) hown
    have hexpires := retryExpiry_eq hstate hretry hown
    refine ⟨calledRate s.blocks n (s.blocks.riser n), _, calledRate_rollCallRate hzones n _, exec_event_eq rfl rfl hexpires, rfl,
      rfl, ?_⟩
    cases Config.lineHeld n own with
    | true =>
      rw [if_pos rfl, beginFrames_held, ← begun]
      exact ⟨lineFault_retryStopped (hriser hsized n.isLt) hown, lineFault_begun_told hlength⟩
    | false =>
      rw [if_neg Bool.false_ne_true, beginFrames_free, ← begun]
      refine ⟨begun n (retryStopped n (t0 + 1000000) s.blocks), frameOf n (begun n (retryStopped n (t0 + 1000000) s.blocks)), hbegun, begun_told hlength, ?_⟩
      exact sendFrame_sent (begun_length hlength) (by rw [hbegun]; exact hzones) (by rw [hbegun]; exact hdeferral)

end Sys2Proof.Machine

/-! PROOFS. The decision of a round and the joint profile (R160, R162): obligation O55. -/

namespace Sys2Proof.Machine

/-! ## The joint profile's rate (R162) -/

theorem rateOfAll_except_iff {b : Blocks} (hsized : b.zones.length = 96) {n z : Nat} {q : Rate} :
    RateOfAll b n (some z) q ↔ q ∈ b.commonRates ((b.liveOn n).filter (fun y => y != z)) := by
  rw [mem_commonRates]
  constructor
  · intro h y hy
    obtain ⟨hlive, hne⟩ := List.mem_filter.1 hy
    obtain ⟨c, hc, hon, hlive⟩ := (mem_liveOn hsized).1 hlive
    obtain ⟨p, hp, hq⟩ := h y c hc hon hlive (fun heq => ne_of_beq_false (Bool.not_eq_true' _ ▸ hne) (Option.some.inj heq))
    exact ⟨p, by rw [hc]; exact hp, hq⟩
  · intro h y c hc hon hlive hne
    obtain ⟨p, hp, hq⟩ := h y (List.mem_filter.2 ⟨(mem_liveOn hsized).2 ⟨c, hc, hon, hlive⟩, bne_iff_ne.2 fun heq => hne (heq ▸ rfl)⟩)
    rw [hc] at hp
    exact ⟨p, hp, hq⟩

theorem perSecond_injective {p q : Rate} (h : p.perSecond = q.perSecond) : p = q := by
  cases p <;> cases q <;> first | rfl | cases h

/-- The rate that a riser is to run at next. -/
def nextRate (x : Riser) : Rate := x.pending.getD x.rate

section
variable {x : Riser} {offered others : List Rate}

theorem rateAnswer_keep (hpolicy : x.policy = .keep) :
    rateAnswer x offered others = if nextRate x ∈ offered then .accepted x.pending else .refused := by
  unfold rateAnswer
  rw [hpolicy]
  rfl

/-- What a riser of policy Lower answers: the rate stands where every node offers it, else it falls to the highest below it. -/
theorem rateAnswer_lower (hpolicy : x.policy = .lower) :
    (nextRate x ∈ offered ∧ nextRate x ∈ others ∧ rateAnswer x offered others = .accepted x.pending) ∨
    (¬(nextRate x ∈ offered ∧ nextRate x ∈ others) ∧ ∃ q, rateAnswer x offered others = .accepted (some q) ∧ q ∈ offered ∧
      q ∈ others ∧ q.perSecond < (nextRate x).perSecond ∧
      ∀ m ∈ offered, m ∈ others → m.perSecond ≤ (nextRate x).perSecond → m.perSecond ≤ q.perSecond) ∨
    ((∀ m ∈ offered, m ∈ others → (nextRate x).perSecond < m.perSecond) ∧ rateAnswer x offered others = .refused) := by
  have hshared : ∀ q, q ∈ allRates.filter (fun q => decide (q ∈ offered) && decide (q ∈ others)) ↔ q ∈ offered ∧ q ∈ others := by
    intro q
    rw [List.mem_filter, Bool.and_eq_true, decide_eq_true_iff, decide_eq_true_iff]
    exact and_iff_right (mem_allRates q)
  have hanswer : rateAnswer x offered others =
      if nextRate x ∈ allRates.filter (fun q => decide (q ∈ offered) && decide (q ∈ others)) then .accepted x.pending
      else match highestRate (nextRate x).perSecond (allRates.filter (fun q => decide (q ∈ offered) && decide (q ∈ others))) with
        | some q => .accepted (some q)
        | none => .refused := by
    unfold rateAnswer
    rw [hpolicy]
    rfl
  by_cases hstands : nextRate x ∈ offered ∧ nextRate x ∈ others
  · exact .inl ⟨hstands.1, hstands.2, hanswer.trans (if_pos ((hshared _).2 hstands))⟩
  rw [if_neg fun h => hstands ((hshared _).1 h)] at hanswer
  cases hhighest : highestRate (nextRate x).perSecond
      (allRates.filter (fun q => decide (q ∈ offered) && decide (q ∈ others))) with
  | none =>
    rw [hhighest] at hanswer
    exact .inr (.inr ⟨fun m hm hm' => highestRate_eq_none.1 hhighest m ((hshared m).2 ⟨hm, hm'⟩), hanswer⟩)
  | some q =>
    rw [hhighest] at hanswer
    obtain ⟨hq, hlimit, hmax⟩ := highestRate_eq_some hhighest
    rw [Bool.and_eq_true, decide_eq_true_iff, decide_eq_true_iff] at hq
    obtain ⟨hoffered, hothers⟩ := hq
    refine .inr (.inl ⟨hstands, q, hanswer, hoffered, hothers, lt_of_le_of_ne hlimit fun heq => hstands ?_,
      fun m hm hm' => hmax m (by rw [decide_eq_true hm, decide_eq_true hm']; rfl)⟩)
    rw [← perSecond_injective heq]
    exact ⟨hoffered, hothers⟩

end

/-! ## The joint profile (R162) -/

theorem classSuits_iff {isProtected : Bool} {k : NodeClass} :
    classSuits isProtected k = true ↔ k = if isProtected then .beacon else .facade := by
  cases k <;> cases isProtected <;> decide

/-- The profile before its outcome. -/
def openProfile (c : Zone) (o : Offer) : Profile :=
  { layout := o.layout, offered := o.effects, local_ := o.effects.filter (fun k => decide (k ∈ c.permitted)),
    rates := o.rates, class_ := o.class_, refused := none }

section
variable {x : Riser} {others : List Rate} {c : Zone} {o : Offer}

theorem jointProfile_of_class (h : classSuits c.isProtected o.class_ = false) :
    jointProfile x others c o = ({ openProfile c o with refused := some .class_ }, x.pending) := by
  unfold jointProfile
  rw [h]
  rfl

section
variable (hsuits : classSuits c.isProtected o.class_ = true)
include hsuits

theorem jointProfile_of_refused (h : rateAnswer x o.rates others = .refused) :
    jointProfile x others c o = ({ openProfile c o with refused := some .rate }, x.pending) := by
  unfold jointProfile
  rw [hsuits, h]
  rfl

theorem jointProfile_of_accepted {q : Option Rate} (h : rateAnswer x o.rates others = .accepted q) :
    jointProfile x others c o = (openProfile c o, q) := by
  unfold jointProfile
  rw [hsuits, h]
  rfl

end

/-- The profile carries the offer, whatever its outcome. -/
theorem jointProfile_open (x : Riser) (others : List Rate) (c : Zone) (o : Offer) :
    ∃ r, (jointProfile x others c o).1 = { openProfile c o with refused := r } := by
  cases hsuits : classSuits c.isProtected o.class_ with
  | false => exact ⟨_, by rw [jointProfile_of_class hsuits]⟩
  | true =>
    cases hanswer : rateAnswer x o.rates others with
    | refused => exact ⟨_, by rw [jointProfile_of_refused hsuits hanswer]⟩
    | accepted q => exact ⟨none, by rw [jointProfile_of_accepted hsuits hanswer]; rfl⟩

theorem jointProfile_refused_class :
    (jointProfile x others c o).1.refused = some .class_ ↔ o.class_ ≠ (if c.isProtected then .beacon else .facade) := by
  rw [ne_eq, ← classSuits_iff]
  cases hsuits : classSuits c.isProtected o.class_ with
  | false =>
    rw [jointProfile_of_class hsuits]
    exact ⟨fun _ => nofun, fun _ => rfl⟩
  | true =>
    cases hanswer : rateAnswer x o.rates others with
    | refused =>
      rw [jointProfile_of_refused hsuits hanswer]
      exact ⟨nofun, fun h => absurd rfl h⟩
    | accepted q =>
      rw [jointProfile_of_accepted hsuits hanswer]
      exact ⟨nofun, fun h => absurd rfl h⟩

theorem jointProfile_pending_of_class (h : (jointProfile x others c o).1.refused = some .class_) :
    (jointProfile x others c o).2 = x.pending := by
  have hsuits : classSuits c.isProtected o.class_ = false := by
    rw [← Bool.not_eq_true, classSuits_iff]
    exact jointProfile_refused_class.1 h
  rw [jointProfile_of_class hsuits]

/-- Policy Keep: the rate stands, and refuses a node that does not offer it. -/
theorem jointProfile_keep (hpolicy : x.policy = .keep) :
    ((jointProfile x others c o).1.refused = some .rate → nextRate x ∉ o.rates) ∧
    ((jointProfile x others c o).1.refused = none → nextRate x ∈ o.rates) ∧ (jointProfile x others c o).2 = x.pending := by
  have hanswer := rateAnswer_keep (offered := o.rates) (others := others) hpolicy
  cases hsuits : classSuits c.isProtected o.class_ with
  | false =>
    rw [jointProfile_of_class hsuits]
    exact ⟨nofun, nofun, rfl⟩
  | true =>
    split at hanswer
    · next hoffers =>
      rw [jointProfile_of_accepted hsuits hanswer]
      exact ⟨nofun, fun _ => hoffers, rfl⟩
    · next hlacks =>
      rw [jointProfile_of_refused hsuits hanswer]
      exact ⟨fun _ => hlacks, nofun, rfl⟩

/-- Policy Lower: the rate falls to the highest that every node offers, and a node that offers none is refused. -/
theorem jointProfile_lower (hpolicy : x.policy = .lower) (hsuits : (jointProfile x others c o).1.refused ≠ some .class_) :
    ((jointProfile x others c o).1.refused = none ↔ ∃ m ∈ o.rates, m ∈ others ∧ m.perSecond ≤ (nextRate x).perSecond) ∧
    (((jointProfile x others c o).1.refused ≠ none ∨ (nextRate x ∈ o.rates ∧ nextRate x ∈ others)) →
      (jointProfile x others c o).2 = x.pending) ∧
    ((jointProfile x others c o).1.refused = none → ¬(nextRate x ∈ o.rates ∧ nextRate x ∈ others) →
      ∃ m ∈ o.rates, m ∈ others ∧ (jointProfile x others c o).2 = some m ∧ m.perSecond < (nextRate x).perSecond ∧
        ∀ m' ∈ o.rates, m' ∈ others → m'.perSecond ≤ (nextRate x).perSecond → m'.perSecond ≤ m.perSecond) := by
  have hsuits' : classSuits c.isProtected o.class_ = true := by
    by_contra hne
    exact hsuits (jointProfile_refused_class.2 fun h => hne (classSuits_iff.2 h))
  obtain ⟨hoffers, hothers, hanswer⟩ | ⟨hlacks, q, hanswer, hoffers, hothers, hbelow, hmax⟩ | ⟨habove, hanswer⟩ :=
    rateAnswer_lower (offered := o.rates) (others := others) hpolicy
  · rw [jointProfile_of_accepted hsuits' hanswer]
    exact ⟨⟨fun _ => ⟨nextRate x, hoffers, hothers, le_rfl⟩, fun _ => rfl⟩, fun _ => rfl, fun _ h => absurd ⟨hoffers, hothers⟩ h⟩
  · rw [jointProfile_of_accepted hsuits' hanswer]
    exact ⟨⟨fun _ => ⟨q, hoffers, hothers, hbelow.le⟩, fun _ => rfl⟩, fun h => h.elim (absurd rfl) fun h => absurd h hlacks,
      fun _ _ => ⟨q, hoffers, hothers, rfl, hbelow, hmax⟩⟩
  · rw [jointProfile_of_refused hsuits' hanswer]
    exact ⟨⟨nofun, fun ⟨m, hm, hm', hle⟩ => absurd (habove m hm hm') (not_lt.2 hle)⟩, fun _ => rfl, nofun⟩

end

/-! ## The zone that a decision assigns (R160) -/

theorem expecting_eq_some {b : Blocks} (hsized : b.zones.length = 96) {n v z : Nat} {c : Zone} (h : b.expecting n v = some z)
    (hz : b.zone? z = some c) : c.serial = some v ∧ c.riser = n := by
  obtain ⟨d, hd, hon⟩ := (mem_zonesOn hsized).1 (List.mem_of_find?_eq_some h)
  rw [hz] at hd
  cases hd
  have hserial := List.find?_some h
  rw [hz] at hserial
  exact ⟨of_decide_eq_true hserial, hon⟩

/-- A zone's record with a joint profile assigned. -/
def assigned (j : Profile) (c : Zone) : Zone :=
  { c with
    node := if j.refused = none then .ready else .refused
    profile := some j
    age := 0
    tally := ⟨false, false, false⟩
    fault := none }

theorem setFault_records (z : Nat) (code : Option Nat) (b : Blocks) :
    TouchesRecords (b.updateZone z (fun c => { c with fault := code })) (setFault z code b) := by
  cases hz : b.zone? z with
  | none =>
    rw [updateZone_same fun c hc => absurd (hz.symm.trans hc) nofun]
    unfold setFault
    rw [hz]
    exact .refl b
  | some c =>
    rw [updateZone_some b z _ hz]
    have hwrites := setFault_eq hz code
    unfold TouchesRecords
    rw [hwrites]
    rfl

/-- What the assignment makes of the zone's record, before its reports. -/
def profiled (j : Profile) (c : Zone) : Zone := { c with profile := some j, age := 0, tally := clearTally }

/-- An assignment's last stages: the fault code is cleared and the node state written. -/
def settle (z : Nat) (j : Profile) (b : Blocks) : Blocks :=
  setNode z (if j.refused.isNone then .ready else .refused) (setFault z none (b.updateZone z (profiled j)))

section
variable {z : Nat} {j : Profile} {b : Blocks} {c : Zone} (hz : b.zone? z = some c)

theorem settle_records (hdeferral : b.deferral = none) : TouchesRecords (b.updateZone z (assigned j)) (settle z j b) := by
  have hfault := setFault_records z none (b.updateZone z (profiled j))
  have hnode := setNode_records (b := setFault z none (b.updateZone z (profiled j))) (hfault.deferral.trans hdeferral) z
    (if j.refused.isNone then .ready else .refused)
  rw [updateZone_twice] at hfault
  have hboth := (updateZone_records hfault z (nodeSet (if j.refused.isNone then .ready else .refused))).trans hnode
  rw [updateZone_twice] at hboth
  have hsame : assigned j = fun c => nodeSet (if j.refused.isNone then .ready else .refused)
      { profiled j c with fault := none } := by
    funext c
    unfold assigned
    cases hrefused : j.refused with
    | none => rfl
    | some r => rfl
  rw [hsame]
  exact hboth

include hz

theorem profiled_zone? : (b.updateZone z (profiled j)).zone? z = some (profiled j c) := by
  rw [updateZone_zone?, if_pos rfl, hz]
  rfl

theorem settle_told_nodeFault (h : c.fault ≠ none) : Told (settle z j b) (.zone z) .nodeFault :=
  setNode_keeps_told (setFault_told (profiled_zone? hz) h)

theorem settle_told_nodeState (h : c.node ≠ (if j.refused = none then NodeState.ready else .refused)) :
    Told (settle z j b) (.zone z) .nodeState := by
  refine setNode_told ?_
  have hstate : (setFault z none (b.updateZone z (profiled j))).nodeState z = c.node := by
    unfold Blocks.nodeState
    rw [zone?_congr (setFault_records z none _).zones, updateZone_zone?, if_pos rfl, profiled_zone? hz]
    rfl
  rw [hstate]
  cases hrefused : j.refused with
  | none => rw [hrefused] at h; exact h
  | some r => rw [hrefused] at h; exact h

end

/-! ## The decision (R160) -/

theorem updateRiser_report (b : Blocks) (n : Nat) (g : Riser → Riser) (r : RecordId) (k : ChangeKind) :
    (b.report r k).updateRiser n g = (b.updateRiser n g).report r k := by
  unfold Blocks.report Blocks.submit
  exact apply_ite (fun y : Blocks => y.updateRiser n g) _ _ _

section
variable {x : Riser} {e : Exchange} {q : List Exchange} (hqueue : x.queue = e :: q)
include hqueue

theorem nextRound_some (f : Exchange) : nextRound (some f) x =
    { x with rounds := x.rounds + 1, round := .contention, queue := q ++ [f, ⟨.round, 0, 0⟩] } := by
  unfold nextRound
  rw [hqueue, List.append_assoc]
  rfl

theorem nextRound_none : nextRound none x =
    { x with rounds := x.rounds + 1, round := .contention, queue := q ++ [⟨.round, 0, 0⟩] } := by
  unfold nextRound
  rw [hqueue, List.append_assoc]
  rfl

end

section
variable {n v : Nat} {b : Blocks} {x : Riser} (hn : n < b.risers.length) (hx : x = b.riser n) {slot a : Nat} {q : List Exchange}
  (hqueue : x.queue = ⟨.round, slot, a⟩ :: q)

theorem decideRound_of_stranger {offer : Option Offer} (h : offer = none ∨ b.expecting n v = none) :
    decideRound n v offer b = (standBy n v b).updateRiser n (nextRound none) := by
  unfold decideRound
  obtain rfl | hnone := h
  · rfl
  · rw [hnone]
    cases offer <;> rfl

include hn hx hqueue in
theorem stoodBy_eq : (standBy n v b).updateRiser n (nextRound none) = Blocks.report { b with risers := b.risers.set n { x with
    sent := some (.standBy v)
    phase := .done
    stranger := some v
    rounds := x.rounds + 1
    round := .contention
    queue := q ++ [⟨.round, 0, 0⟩] } } (.riser n) .stranger := by
  subst hx
  unfold standBy sendDirected
  rw [updateRiser_report, updateRiser_updateRiser b n _ _ hn]
  exact congrArg (fun y : Blocks => y.report (.riser n) .stranger) (updateRiser_twice hn (nextRound_none hqueue))

theorem decideRound_of_expected {o : Offer} {z : Nat} {c : Zone} (hexpects : b.expecting n v = some z) (hz : b.zone? z = some c) :
    decideRound n v (some o) b =
      (if c.node = .lost then sendDirected n (.assign v c.slot) .done b
        else assignZone n z o c (sendDirected n (.assign v c.slot) .done b)).updateRiser n
        (nextRound (some ⟨.setFallback c.fallback, c.slot, 0⟩)) := by
  unfold decideRound
  rw [hexpects]
  dsimp only [Option.bind_some]
  rw [hz]
  rfl

end

/-- The rates that every other live node on a riser offers. -/
def otherRates (b : Blocks) (n z : Nat) : List Rate := b.commonRates ((b.liveOn n).filter (fun y => y != z))

/-- The joint profile that a decision computes, with the pending rate that it leaves. -/
def decided (b : Blocks) (n z : Nat) (c : Zone) (o : Offer) : Profile × Option Rate :=
  jointProfile (b.riser n) (otherRates b n z) c o

/-- A riser's record when a decision has assigned a zone. -/
def assigning (v : Nat) (c : Zone) (q : List Exchange) (p : Option Rate) (x : Riser) : Riser :=
  { x with
    sent := some (.assign v c.slot)
    phase := .done
    rounds := x.rounds + 1
    round := .contention
    queue := q ++ [⟨.setFallback c.fallback, c.slot, 0⟩, ⟨.round, 0, 0⟩]
    pending := p }

section
variable {n v z : Nat} {b : Blocks} {c : Zone} {o : Offer} {slot a : Nat} {q : List Exchange} (hn : n < b.risers.length)
  (hqueue : (b.riser n).queue = ⟨.round, slot, a⟩ :: q)
include hn

theorem assignZone_eq : assignZone n z o c (sendDirected n (.assign v c.slot) .done b) = settle z (decided b n z c o).1
    { b with risers := b.risers.set n { b.riser n with
      sent := some (.assign v c.slot), phase := .done, pending := (decided b n z c o).2 } } := by
  have hrecord : (sendDirected n (.assign v c.slot) .done b).riser n =
      { b.riser n with sent := some (.assign v c.slot), phase := .done } := updateRiser_riser_self b n _ hn
  have hjoint : jointProfile ((sendDirected n (.assign v c.slot) .done b).riser n)
      (otherRates (sendDirected n (.assign v c.slot) .done b) n z) c o = decided b n z c o := by
    rw [hrecord]
    rfl
  have hpending : (sendDirected n (.assign v c.slot) .done b).updateRiser n
      (fun x => { x with pending := (decided b n z c o).2 }) = { b with risers := b.risers.set n { b.riser n with
        sent := some (.assign v c.slot), phase := .done, pending := (decided b n z c o).2 } } := by
    unfold sendDirected
    exact updateRiser_twice hn rfl
  rw [← hpending, ← hjoint]
  rfl

include hqueue

theorem decideRound_of_lost (hexpects : b.expecting n v = some z) (hz : b.zone? z = some c) (hlost : c.node = .lost) :
    decideRound n v (some o) b = { b with risers := b.risers.set n (assigning v c q (b.riser n).pending (b.riser n)) } := by
  rw [decideRound_of_expected hexpects hz, if_pos hlost]
  unfold sendDirected
  exact updateRiser_twice hn (nextRound_some (x := { b.riser n with sent := some (.assign v c.slot), phase := .done }) hqueue _)

theorem decideRound_of_present (hexpects : b.expecting n v = some z) (hz : b.zone? z = some c) (hpresent : c.node ≠ .lost)
    (hdeferral : b.deferral = none) : ∃ m : Blocks, decideRound n v (some o) b =
      m.updateRiser n (nextRound (some ⟨.setFallback c.fallback, c.slot, 0⟩)) ∧
      (decideRound n v (some o) b).risers = b.risers.set n (assigning v c q (decided b n z c o).2 (b.riser n)) ∧
      OnlyRisers b m ∧ m.ownUs = b.ownUs ∧
      (∀ y, m.zone? y = if y = z then some (assigned (decided b n z c o).1 c) else b.zone? y) ∧
      (c.node ≠ (if (decided b n z c o).1.refused = none then NodeState.ready else .refused) → Told m (.zone z) .nodeState) ∧
      (c.fault ≠ none → Told m (.zone z) .nodeFault) := by
  have hwrites := settle_records (z := z) (j := (decided b n z c o).1) (b := { b with risers := b.risers.set n { b.riser n with
    sent := some (.assign v c.slot), phase := .done, pending := (decided b n z c o).2 } }) hdeferral
  have heq := decideRound_of_expected (o := o) hexpects hz
  rw [if_neg hpresent, assignZone_eq hn] at heq
  refine ⟨_, heq, ?_, ?_, ?_, fun y => ?_, settle_told_nodeState (b := { b with risers := _ }) hz,
    settle_told_nodeFault (b := { b with risers := _ }) hz⟩
  · have hrecord := (riser_congr hwrites.risers n).trans (updateRiser_riser_self b n (fun _ => { b.riser n with
      sent := some (.assign v c.slot), phase := .done, pending := (decided b n z c o).2 }) hn)
    rw [heq, updateRiser_risers, hrecord, hwrites.risers]
    dsimp only [updateZone_risers]
    rw [List.set_set]
    exact congrArg (b.risers.set n) (nextRound_some (x := { b.riser n with
      sent := some (.assign v c.slot), phase := .done, pending := (decided b n z c o).2 }) hqueue _)
  · unfold TouchesRecords at hwrites
    rw [hwrites]
    exact .of_eq rfl
  · unfold TouchesRecords at hwrites
    rw [hwrites]
    rfl
  · rw [zone?_congr hwrites.zones, updateZone_zone?]
    split
    · show (b.zone? z).map _ = _
      rw [hz]
      rfl
    · rfl

end

/-- Settles O55. -/
theorem decisionsAssignOrStandBy : Obligations.DecisionsAssignOrStandBy := by
  unfold Obligations.DecisionsAssignOrStandBy
  intro s n w x v slot a q offer hsized hx hphase hqueue hround
  obtain ⟨hzones, -, hrisers, -, -, -, -, -, hdeferral⟩ := id hsized
  have hn : n.val < s.blocks.risers.length := by
    rw [hrisers]
    exact n.isLt
  have hserved : directedWindow n w s.blocks = decideRound n v offer s.blocks := by
    refine (directedWindow_of_round hx hphase hqueue).trans ?_
    unfold serveRound
    rw [← hx, hround]
  refine ⟨fun hstranger => ?_, fun o z c ho hexpects hz => ?_⟩
  · have hstands := (hserved.trans (decideRound_of_stranger hstranger)).trans (stoodBy_eq hn hx hqueue)
    exact ⟨_, exec_event_eq rfl rfl hstands, congrArg (fun b => { s with blocks := b }) (report_eq _ _ _), report_told _ _ _⟩
  subst ho hx
  obtain ⟨hserial, hon⟩ := expecting_eq_some hzones hexpects hz
  by_cases hlost : c.node = .lost
  · have hdecides := hserved.trans (decideRound_of_lost (o := o) hn hqueue hexpects hz hlost)
    exact ⟨_, (s.blocks.riser n).pending, exec_event_eq rfl rfl hdecides, rfl, .of_eq rfl, rfl, hserial, hon, rfl, fun _ _ => rfl,
      fun _ => ⟨rfl, hz⟩, fun h => absurd hlost h⟩
  obtain ⟨m, heq, hrecord, honly, hown, hzone?, hstate, hfault⟩ :=
    decideRound_of_present (o := o) hn hqueue hexpects hz hlost hdeferral
  obtain ⟨r, hopen⟩ := jointProfile_open (s.blocks.riser n) (otherRates s.blocks n z) c o
  have hfields : ∀ {α : Type} (f : Profile → α), f (decided s.blocks n z c o).1 = f { openProfile c o with refused := r } :=
    fun f => congrArg f hopen
  rw [heq] at hrecord
  refine ⟨_, (decided s.blocks n z c o).2, exec_event_eq rfl rfl (hserved.trans heq), rfl, honly.trans (.of_eq rfl), hown, hserial,
    hon, hrecord, fun y hy => (hzone? y).trans (if_neg hy), fun h => absurd h hlost, fun _ => ?_⟩
  refine ⟨(decided s.blocks n z c o).1, (hzone? z).trans (if_pos rfl), hstate, hfault, hfields _, hfields _, hfields _, hfields _,
    fun k => ?_, jointProfile_refused_class, jointProfile_keep, fun hpolicy hclass => ?_, jointProfile_pending_of_class⟩
  · rw [hfields Profile.local_]
    show k ∈ o.effects.filter _ ↔ _
    rw [List.mem_filter, decide_eq_true_iff]
  · simp only [rateOfAll_except_iff hzones]
    exact jointProfile_lower hpolicy hclass

end Sys2Proof.Machine

/-! PROOFS. Configure Zone and Clear Node (R154 to R156, R163): obligation O56. -/

namespace Sys2Proof.Machine

/-! ## The ranges of the carried fields (R154) -/

theorem fourWithin_iff {k : Nat} {l : Levels} : fourWithin k l = true ↔ Capped k l := by
  unfold fourWithin Capped
  simp only [Bool.and_eq_true, decide_eq_true_iff, and_assoc]

theorem zoneBodyInRange_iff {y : ZoneBody} : zoneBodyInRange y = true ↔
    (∀ v, y.riser = some v → v ≤ 3) ∧ (∀ v, y.slot = some v → 1 ≤ v ∧ v ≤ 24) ∧ (∀ v, y.face = some v → v ≤ 3) ∧
    (∀ v, y.feeder = some v → v ≤ 3) ∧ (∀ v, y.role = some v → v ≤ 255) ∧
    (∀ v, y.serial = some (some v) → v ≤ 281474976710655) ∧ (∀ l, y.permitted = some l → StepKind.static ∉ l) ∧
    (∀ v, y.trim = some v → v ≤ 1000) ∧ (∀ v, y.watts = some v → Capped 5000 v) ∧
    (∀ v, y.fallback = some v → Capped 1000 v) := by
  have hserial : (∀ o, y.serial = some o → ∀ v, o = some v → v ≤ 281474976710655) ↔
      ∀ v, y.serial = some (some v) → v ≤ 281474976710655 :=
    ⟨fun h v hv => h _ hv v rfl, fun h o ho v hv => h v (by rw [ho, hv])⟩
  unfold zoneBodyInRange
  simp only [Bool.and_eq_true, Option.all_eq_true, decide_eq_true_iff, Bool.not_eq_true', decide_eq_false_iff_not, fourWithin_iff,
    hserial, and_assoc]

/-! ## The record that Configure Zone forms (R155) -/

/-- A configured zone's record with the carried fields over its own. -/
def overlaid (y : ZoneBody) (c : Zone) : Zone :=
  { c with
    riser := y.riser.getD c.riser, slot := y.slot.getD c.slot, face := y.face.getD c.face, feeder := y.feeder.getD c.feeder,
    role := y.role.getD c.role, serial := y.serial.getD c.serial, isProtected := y.isProtected.getD c.isProtected,
    permitted := y.permitted.getD c.permitted, trim := y.trim.getD c.trim, watts := y.watts.getD c.watts,
    fallback := y.fallback.getD c.fallback }

theorem formZone_some (y : ZoneBody) (c : Zone) : formZone y (some c) = some (overlaid y c) := rfl

theorem formZone_none_of_missing {y : ZoneBody} (h : y.riser = none ∨ y.slot = none ∨ y.face = none ∨ y.feeder = none) :
    formZone y none = none := by
  unfold formZone
  dsimp only
  split
  · next hr hs hf he =>
    rw [hr, hs, hf, he] at h
    simp at h
  · rfl

/-- A new zone's record: the carried fields over the first values. -/
def newZone (rr sl fa fe : Nat) (y : ZoneBody) : Zone :=
  { riser := rr, slot := sl, face := fa, feeder := fe, role := y.role.getD 0, serial := y.serial.getD none,
    isProtected := y.isProtected.getD false, permitted := y.permitted.getD [], trim := y.trim.getD 1000,
    watts := y.watts.getD dark, fallback := y.fallback.getD dark, node := .vacant, profile := none, age := 0,
    tally := clearTally, fault := none, last := dark, handover := none }

theorem formZone_none_of_all {rr sl fa fe : Nat} {y : ZoneBody} (hrr : y.riser = some rr) (hsl : y.slot = some sl)
    (hfa : y.face = some fa) (hfe : y.feeder = some fe) : formZone y none = some (newZone rr sl fa fe y) := by
  unfold formZone
  dsimp only
  rw [hrr, hsl, hfa, hfe]
  rfl

theorem present_iff {st : NodeState} : st.present = true ↔ st ≠ .vacant ∧ st ≠ .absent := by
  cases st <;> simp [NodeState.present]

theorem not_present_iff {st : NodeState} : st.present = false ↔ st = .vacant ∨ st = .absent := by
  cases st <;> simp [NodeState.present]

theorem changesIdentity_iff {c m : Zone} : changesIdentity c m = true ↔
    c.riser ≠ m.riser ∨ c.slot ≠ m.slot ∨ c.serial ≠ m.serial ∨ c.isProtected ≠ m.isProtected := by
  unfold changesIdentity
  simp only [Bool.or_eq_true, decide_eq_true_iff, or_assoc]

theorem collides_iff {b : Blocks} {z : Nat} {m : Zone} : b.collides z m = true ↔
    ∃ w d, w < 96 ∧ w ≠ z ∧ b.zone? w = some d ∧
      ((d.riser = m.riser ∧ d.slot = m.slot) ∨ ∃ v, m.serial = some v ∧ d.serial = some v) := by
  unfold Blocks.collides
  rw [List.any_eq_true]
  constructor
  · rintro ⟨w, hw, h⟩
    obtain ⟨hne, hmatch⟩ := Bool.and_eq_true _ _ ▸ h
    cases hd : b.zone? w with
    | none => rw [hd] at hmatch; cases hmatch
    | some d =>
      rw [hd] at hmatch
      simp only [Bool.or_eq_true, Bool.and_eq_true, decide_eq_true_iff, Option.isSome_iff_exists] at hmatch
      refine ⟨w, d, mem_allZones.1 hw, of_decide_eq_true hne, hd, hmatch.imp_right ?_⟩
      rintro ⟨⟨v, hv⟩, hsame⟩
      exact ⟨v, hv, hsame.trans hv⟩
  · rintro ⟨w, d, hw, hne, hd, h⟩
    refine ⟨w, mem_allZones.2 hw, ?_⟩
    rw [hd, decide_eq_true hne, Bool.true_and]
    simp only [Bool.or_eq_true, Bool.and_eq_true, decide_eq_true_iff, Option.isSome_iff_exists]
    refine h.imp_right ?_
    rintro ⟨v, hv, hsame⟩
    exact ⟨⟨v, hv⟩, hsame.trans hv.symm⟩

/-! ## The checks of Configure Zone (R155) -/

section
variable {z : Nat} {y : ZoneBody} {b : Blocks}

theorem configureZone_of_both (hremove : y.remove = true) (hcarries : zoneBodyCarries y = true) :
    configureZone z y b = (b, refuse .malformed) := if_pos (by rw [hremove, hcarries]; rfl)

theorem configureZone_of_out (hplain : y.remove = true → zoneBodyCarries y = false) (hout : 96 ≤ z ∨ zoneBodyInRange y = false) :
    configureZone z y b = (b, refuse .outOfRange) := by
  refine (if_neg ?_).trans (if_pos ?_)
  · rw [Bool.and_eq_true]
    rintro ⟨hremove, hcarries⟩
    rw [hplain hremove] at hcarries
    cases hcarries
  · rw [Bool.or_eq_true, decide_eq_true_iff, Bool.not_eq_true']
    exact hout

/-- What the removal of a zone's record does. -/
def removal (z : Nat) (b : Blocks) : Option Zone → Blocks × Answer
  | none => (b, refuse .outOfRange)
  | some c => if c.node.present then (b, refuseWith .inUse (.nodeState c.node)) else removeZone z c b

/-- Whether the identity of a zone's record bars another record (R155 check 3). -/
def identityBars : Option Zone → Zone → Bool
  | some c, n => changesIdentity c n && c.node.present
  | none, _ => false

theorem identityBars_some (c n : Zone) : identityBars (some c) n = (changesIdentity c n && c.node.present) := rfl

/-- The checks of a formed record (R155). -/
def storing (z : Nat) (y : ZoneBody) (b : Blocks) (n : Zone) : Blocks × Answer :=
  if identityBars (b.zone? z) n then (b, refuseWith .inUse (.nodeState n.node))
  else if y.isProtected.getD false && b.bookings.any (fun k => decide (z ∈ k.fields.zones)) then (b, refuse .inUse)
  else if b.collides z n then (b, refuse .inUse)
  else storeZone z y n b

section
variable (hz : z < 96) (hrange : zoneBodyInRange y = true)
include hz hrange

theorem configureZone_remove (hremove : y.remove = true) (hcarries : zoneBodyCarries y = false) :
    configureZone z y b = removal z b (b.zone? z) := by
  refine (if_neg (by rw [hcarries, Bool.and_false]; nofun)).trans ((if_neg ?_).trans ((if_pos hremove).trans ?_))
  · rw [Bool.or_eq_true, decide_eq_true_iff, hrange]
    exact fun h => h.elim (not_le.2 hz) Bool.false_ne_true
  · cases b.zone? z <;> rfl

theorem configureZone_form (hkeep : y.remove = false) :
    configureZone z y b = ((formZone y (b.zone? z)).map (storing z y b)).getD (b, refuse .outOfRange) := by
  refine (if_neg (by rw [hkeep]; nofun)).trans ((if_neg ?_).trans ((if_neg (by rw [hkeep]; nofun)).trans ?_))
  · rw [Bool.or_eq_true, decide_eq_true_iff, hrange]
    exact fun h => h.elim (not_le.2 hz) Bool.false_ne_true
  · unfold storing identityBars
    cases formZone y (b.zone? z) with
    | none => rfl
    | some n => cases b.zone? z <;> rfl

end

end

section
variable {z : Nat} {y : ZoneBody} {b : Blocks} {n : Zone}

theorem storing_of_identity {c : Zone} (hc : b.zone? z = some c) (hchanges : changesIdentity c n = true)
    (hpresent : c.node.present = true) : storing z y b n = (b, refuseWith .inUse (.nodeState n.node)) :=
  if_pos (by rw [hc]; exact Bool.and_eq_true _ _ ▸ ⟨hchanges, hpresent⟩)

section
variable (hfree : identityBars (b.zone? z) n = false)
include hfree

theorem storing_of_inUse (h : (y.isProtected = some true ∧ ∃ k ∈ b.bookings, z ∈ k.fields.zones) ∨ b.collides z n = true) :
    storing z y b n = (b, refuse .inUse) := by
  unfold storing
  rw [hfree]
  obtain ⟨hprotects, k, hk, hnames⟩ | hcollides := h
  · refine (if_neg (by nofun)).trans (if_pos ?_)
    rw [hprotects, Bool.and_eq_true]
    exact ⟨rfl, List.any_eq_true.2 ⟨k, hk, decide_eq_true hnames⟩⟩
  · refine (if_neg (by nofun)).trans ?_
    rw [hcollides]
    exact (congrArg _ (if_pos rfl)).trans (ite_self _)

theorem storing_of_free (hprotects : y.isProtected = some true → ∀ k ∈ b.bookings, z ∉ k.fields.zones)
    (hcollides : b.collides z n = false) : storing z y b n = storeZone z y n b := by
  unfold storing
  rw [hfree, hcollides]
  refine (if_neg (by nofun)).trans ((if_neg ?_).trans (if_neg (by nofun)))
  rw [Bool.and_eq_true]
  rintro ⟨hflag, hnamed⟩
  obtain ⟨k, hk, hnames⟩ := List.any_eq_true.1 hnamed
  cases hcarried : y.isProtected with
  | none => rw [hcarried] at hflag; cases hflag
  | some p =>
    rw [hcarried] at hflag
    exact hprotects (by rw [hcarried]; exact congrArg some hflag) k hk (of_decide_eq_true hnames)

end

theorem identityBars_of_absent (h : ∀ c, b.zone? z = some c → c.node = .vacant ∨ c.node = .absent) :
    identityBars (b.zone? z) n = false := by
  cases hc : b.zone? z with
  | none => rfl
  | some c =>
    rw [identityBars_some, not_present_iff.2 (h c hc)]
    exact Bool.and_false _

theorem identityBars_of_same {c : Zone} (hc : b.zone? z = some c) (h : changesIdentity c n = false) :
    identityBars (b.zone? z) n = false := by
  rw [hc, identityBars_some, h]
  rfl

end

/-! ## A stored record (R156) -/

theorem tellFeeders_records {b : Blocks} (hdeferral : b.deferral = none) (old : Option Zone) (n : Zone) :
    TouchesRecords b (tellFeeders old n b) := by
  unfold tellFeeders
  split
  · exact reevaluateFeeder_records hdeferral _
  split
  · exact .refl b
  · have hold := reevaluateFeeder_records hdeferral
    exact (hold _).trans (reevaluateFeeder_records ((hold _).deferral.trans hdeferral) _)

/-- A record as it is stored: its effects in order where they are carried. -/
def effectsSet (y : ZoneBody) (n : Zone) : Zone := if y.permitted.isSome then normaliseEffects n else n

/-- The record of a zone at the end of an accepted Configure Zone. -/
def settled (y : ZoneBody) (n : Zone) : Zone := nodeSet (nodeBySerial (effectsSet y n)) (effectsSet y n)

/-- The blocks with a formed record stored, its feeders told and its node state written. -/
def recordStored (z : Nat) (y : ZoneBody) (n : Zone) (b : Blocks) : Blocks :=
  setNode z (nodeBySerial (effectsSet y n))
    (tellFeeders (b.zone? z) (effectsSet y n) (b.setZone z (some (effectsSet y n))))

theorem storeZone_of_plain {z : Nat} {y : ZoneBody} {n : Zone} {b : Blocks}
    (h : y.fallback = none ∨ ((effectsSet y n).node.live = false ∧ (effectsSet y n).node ≠ .refused)) :
    storeZone z y n b = (recordStored z y n b, okWith (.zoneConfigured ((recordStored z y n b).zone? z) false)) := by
  have hqueues : (if y.fallback.isSome then queueFallback z (effectsSet y n) (recordStored z y n b)
      else (recordStored z y n b, false)) = (recordStored z y n b, false) := by
    obtain hnone | ⟨hdead, haccepted⟩ := h
    · rw [hnone]
      rfl
    · have hkept : queueFallback z (effectsSet y n) (recordStored z y n b) = (recordStored z y n b, false) :=
        if_neg (by rw [hdead, decide_eq_false haccepted]; nofun)
      rw [hkept]
      exact ite_self _
  have hstores : storeZone z y n b = ((if y.fallback.isSome then queueFallback z (effectsSet y n) (recordStored z y n b)
      else (recordStored z y n b, false)).1, okWith (.zoneConfigured
        ((if y.fallback.isSome then queueFallback z (effectsSet y n) (recordStored z y n b)
          else (recordStored z y n b, false)).1.zone? z)
        (if y.fallback.isSome then queueFallback z (effectsSet y n) (recordStored z y n b)
          else (recordStored z y n b, false)).2)) := rfl
  rw [hstores, hqueues]

section
variable {z : Nat} {y : ZoneBody} {n : Zone} {b : Blocks} (hz : z < b.zones.length) (hdeferral : b.deferral = none)
include hz

theorem stored_zone? (c : Zone) : (b.setZone z (some c)).zone? z = some c := by
  rw [setZone_zone? b z z _ hz, if_pos rfl]

include hdeferral

theorem recordStored_records : TouchesRecords (b.setZone z (some (settled y n))) (recordStored z y n b) := by
  have htold := tellFeeders_records (b := b.setZone z (some (effectsSet y n))) hdeferral (b.zone? z) (effectsSet y n)
  have hnode := setNode_records (htold.deferral.trans hdeferral) z (nodeBySerial (effectsSet y n))
  have hboth := (updateZone_records htold z (nodeSet (nodeBySerial (effectsSet y n)))).trans hnode
  rw [updateZone_some _ z _ (stored_zone? hz _), setZone_setZone] at hboth
  exact hboth

theorem recordStored_zone? : (recordStored z y n b).zone? z = some (settled y n) :=
  (zone?_congr (recordStored_records hz hdeferral).zones z).trans (stored_zone? hz _)

theorem recordStored_told (h : (effectsSet y n).node ≠ nodeBySerial (effectsSet y n)) :
    Told (recordStored z y n b) (.zone z) .nodeState := by
  refine setNode_told ?_
  have htold := tellFeeders_records (b := b.setZone z (some (effectsSet y n))) hdeferral (b.zone? z) (effectsSet y n)
  unfold Blocks.nodeState
  rw [zone?_congr htold.zones, stored_zone? hz]
  exact h

end

theorem mem_normaliseEffects {n : Zone} (hstatic : StepKind.static ∉ n.permitted) (k : StepKind) :
    k ∈ (normaliseEffects n).permitted ↔ k ∈ n.permitted := by
  show k ∈ [StepKind.pulse, .chase, .sparkle, .sweep].filter (fun k => decide (k ∈ n.permitted)) ↔ _
  rw [List.mem_filter, decide_eq_true_iff, and_iff_right_iff_imp]
  intro hk
  cases k with
  | static => exact absurd hk hstatic
  | _ => simp

/-! ## A record stored beside its node -/

/-- A record that keeps its feeder, its effects and its node state is stored alone. -/
theorem recordStored_quiet {z : Nat} {y : ZoneBody} {b : Blocks} {c n : Zone} (hc : b.zone? z = some c)
    (hpermitted : y.permitted = none) (hfeeder : n.feeder = c.feeder) (hnode : nodeBySerial n = n.node) :
    recordStored z y n b = b.setZone z (some n) := by
  have heffects : effectsSet y n = n := by
    unfold effectsSet
    rw [hpermitted]
    rfl
  have htold : tellFeeders (b.zone? z) n (b.setZone z (some n)) = b.setZone z (some n) := by
    rw [hc]
    exact if_pos hfeeder.symm
  unfold recordStored
  rw [heffects, htold]
  refine if_pos ?_
  unfold Blocks.nodeState
  rw [stored_zone? (zone?_lt b hc)]
  exact hnode.symm

theorem storeZone_of_fallback {z : Nat} {y : ZoneBody} {n : Zone} {b : Blocks} (h : y.fallback.isSome = true) :
    storeZone z y n b = ((queueFallback z (effectsSet y n) (recordStored z y n b)).1, okWith (.zoneConfigured
      ((queueFallback z (effectsSet y n) (recordStored z y n b)).1.zone? z)
      (queueFallback z (effectsSet y n) (recordStored z y n b)).2)) := by
  have hqueues : (if y.fallback.isSome then queueFallback z (effectsSet y n) (recordStored z y n b)
      else (recordStored z y n b, false)) = queueFallback z (effectsSet y n) (recordStored z y n b) := if_pos h
  rw [← hqueues]
  rfl

theorem queueOpen_iff {x : Riser} : x.queueOpen = true ↔ x.queue.length < 6 := decide_eq_true_iff

theorem queueOpen_false_iff {x : Riser} : x.queueOpen = false ↔ 6 ≤ x.queue.length := by
  rw [← Bool.not_eq_true, queueOpen_iff, not_lt]

section
variable {z : Nat} {n : Zone} {b : Blocks}

theorem queueFallback_of_away (hdead : n.node.live = false) (haccepted : n.node ≠ .refused) :
    queueFallback z n b = (b, false) := if_neg (by rw [hdead, decide_eq_false haccepted]; nofun)

section
variable (hthere : n.node.live = true ∨ n.node = .refused)
include hthere

theorem queueFallback_of_open (hopen : (b.riser n.riser).queueOpen = true) :
    queueFallback z n b = (joinQueue n.riser ⟨.setFallback n.fallback, n.slot, 0⟩ b, true) := by
  refine (if_pos ?_).trans (if_pos hopen)
  rwa [Bool.or_eq_true, decide_eq_true_iff]

theorem queueFallback_of_full (hfull : (b.riser n.riser).queueOpen = false) :
    queueFallback z n b = (unconfirmedFallback z b, false) := by
  refine (if_pos ?_).trans (if_neg (by rw [hfull]; nofun))
  rwa [Bool.or_eq_true, decide_eq_true_iff]

end

end

/-! ## Remove (R156) -/

/-- The blocks with a zone's record removed, before Feeder Control is told. -/
def recordRemoved (z : Nat) (c : Zone) (b : Blocks) : Blocks :=
  (reportIf (decide (c.node ≠ .vacant)) (.zone z) .nodeState (b.setZone z none)).updateLatest z (fun _ => .absent)

theorem removeZone_eq (z : Nat) (c : Zone) (b : Blocks) :
    removeZone z c b = (reevaluateFeeder c.feeder (recordRemoved z c b), okWith (.zoneConfigured none false)) := by
  unfold removeZone recordRemoved reportIf
  by_cases hvacant : c.node = .vacant
  · simp only [hvacant, ne_eq, not_true_eq_false, decide_false, if_true, Bool.false_eq_true, if_false]
  · simp only [hvacant, ne_eq, not_false_eq_true, decide_true, if_true, if_false]

theorem recordRemoved_eq (z : Nat) (c : Zone) (b : Blocks) : recordRemoved z c b = { b with
    zones := b.zones.set z none
    chain := { b.chain with latest := b.chain.latest.set z .absent }
    notices := (recordRemoved z c b).notices } := by
  have hreports := reportIf_records (decide (c.node ≠ .vacant)) (.zone z) .nodeState (b.setZone z none)
  have hfeeders : (reportIf (decide (c.node ≠ .vacant)) (.zone z) .nodeState (b.setZone z none)).feeders = b.feeders := by
    unfold reportIf
    split
    · exact report_feeders _ _ _
    · rfl
  unfold TouchesRecords at hreports
  rw [hfeeders] at hreports
  unfold recordRemoved
  rw [hreports]
  rfl

/-! ## Clear Node (R163) -/

theorem roundWinner_eq_some {x : Riser} {v : Nat} : roundWinner x = some v ↔
    x.rollCall = .running ∧ (x.round = .offering v ∨ ∃ o, x.round = .deciding v o) := by
  unfold roundWinner
  cases x.rollCall with
  | idle => simp
  | running =>
    cases x.round with
    | contention => simp
    | offering w => simp
    | deciding w o => simp

section
variable {z : Nat} {b : Blocks} {c : Zone}

theorem clearNode_of_out (hz : 96 ≤ z) : clearNode z b = (b, refuse .outOfRange) := if_pos hz

theorem clearNode_of_none (hz : z < 96) (hnone : b.zone? z = none) : clearNode z b = (b, refuse .wrongState) := by
  refine (if_neg (not_le.2 hz)).trans ?_
  rw [hnone]

variable (hz : z < 96) (hc : b.zone? z = some c)
include hz hc

theorem clearNode_of_barred (h : c.node.present = false ∨
    (∃ v, c.serial = some v ∧ roundWinner (b.riser c.riser) = some v) ∨ (b.riser c.riser).queueOpen = false) :
    clearNode z b = (b, refuse .wrongState) := by
  refine (if_neg (not_le.2 hz)).trans ?_
  rw [hc]
  dsimp only
  by_cases hpresent : c.node.present = true
  · rw [if_neg (by rw [hpresent]; nofun)]
    by_cases hwins : (c.serial.isSome && decide (roundWinner (b.riser c.riser) = c.serial)) = true
    · rw [if_pos hwins]
    · rw [if_neg hwins]
      obtain haway | ⟨v, hserial, hwinner⟩ | hfull := h
      · rw [hpresent] at haway; cases haway
      · refine absurd ?_ hwins
        rw [hserial, hwinner]
        exact decide_eq_true rfl
      · rw [if_pos (by rw [hfull]; rfl)]
  · rw [if_pos (by rw [Bool.not_eq_true] at hpresent; rw [hpresent]; rfl)]

/-- The blocks when the node's Reset has joined its queue and the record is cleared. -/
def resetQueued (z : Nat) (c : Zone) (b : Blocks) : Blocks :=
  (joinQueue c.riser ⟨.resetNode, c.slot, 0⟩ b).updateZone z clearZone

theorem clearNode_of_free (hpresent : c.node.present = true)
    (hloses : ∀ v, c.serial = some v → roundWinner (b.riser c.riser) ≠ some v) (hopen : (b.riser c.riser).queueOpen = true) :
    clearNode z b = (setNode z .absent (resetQueued z c b), okWith .empty) := by
  refine (if_neg (not_le.2 hz)).trans ?_
  rw [hc]
  dsimp only
  rw [if_neg (by rw [hpresent]; nofun), if_neg, if_neg (by rw [hopen]; nofun)]
  · rfl
  · rw [Bool.and_eq_true, Option.isSome_iff_exists]
    rintro ⟨⟨v, hserial⟩, hwins⟩
    exact hloses v hserial ((of_decide_eq_true hwins).trans hserial)

end

/-! ## The stored record's fields -/

section
variable {y : ZoneBody} {n : Zone}

theorem settled_of_plain (h : y.permitted = none) : settled y n = nodeSet (nodeBySerial n) n := by
  unfold settled effectsSet
  rw [h]
  rfl

theorem settled_of_effects {l : List StepKind} (h : y.permitted = some l) :
    settled y n = nodeSet (nodeBySerial n) (normaliseEffects n) := by
  unfold settled effectsSet
  rw [h]
  rfl

/-- Only the effects, the joint profile and the node state may differ from the formed record. -/
theorem settled_frame (y : ZoneBody) (n : Zone) : settled y n =
    { n with permitted := (settled y n).permitted, profile := (settled y n).profile, node := (settled y n).node } := by
  cases h : y.permitted with
  | none => rw [settled_of_plain h]; rfl
  | some l => rw [settled_of_effects h]; rfl

theorem settled_node : (settled y n).node = nodeBySerial n := by
  cases h : y.permitted with
  | none => rw [settled_of_plain h]; rfl
  | some l => rw [settled_of_effects h]; rfl

theorem mem_settled_permitted (hstatic : ∀ l, y.permitted = some l → StepKind.static ∉ n.permitted) (k : StepKind) :
    k ∈ (settled y n).permitted ↔ k ∈ n.permitted := by
  cases h : y.permitted with
  | none => rw [settled_of_plain h]; rfl
  | some l => rw [settled_of_effects h]; exact mem_normaliseEffects (hstatic l h) k

theorem effectsSet_node (y : ZoneBody) (n : Zone) : (effectsSet y n).node = n.node := by
  unfold effectsSet
  split <;> rfl

theorem effectsSet_nodeBySerial (y : ZoneBody) (n : Zone) : nodeBySerial (effectsSet y n) = nodeBySerial n := by
  unfold effectsSet
  split <;> rfl

theorem settled_profile_of_effects {l : List StepKind} (h : y.permitted = some l) (hstatic : StepKind.static ∉ n.permitted) :
    (settled y n).profile =
      n.profile.map (fun p => { p with local_ := p.offered.filter (fun k => decide (k ∈ n.permitted)) }) := by
  rw [settled_of_effects h]
  refine Option.map_congr fun p _ => ?_
  have hsame : ∀ k, decide (k ∈ (normaliseEffects n).permitted) = decide (k ∈ n.permitted) := fun k =>
    decide_eq_decide.2 (mem_normaliseEffects hstatic k)
  exact congrArg (fun f => { p with local_ := p.offered.filter f }) (funext hsame)

end

/-- A change of the serial moves a node that is not there. -/
theorem nodeBySerial_of_absent {n : Zone} (h : n.node = .vacant ∨ n.node = .absent) :
    nodeBySerial n = if n.serial = none then .vacant else .absent := by
  unfold nodeBySerial
  obtain h | h := h
  · cases hs : n.serial <;> simp [h]
  · cases hs : n.serial <;> simp [h]

theorem TouchesRecords.onlyRisers {a m b : Blocks} (h : TouchesRecords m b) (hm : OnlyRisers a m) : OnlyRisers a b :=
  hm.trans (.of_eq h)

/-- A carried serial, riser, slot or flag that differs changes the identity. -/
theorem changesIdentity_overlaid {y : ZoneBody} {c : Zone}
    (h : (∃ v, y.riser = some v ∧ v ≠ c.riser) ∨ (∃ v, y.slot = some v ∧ v ≠ c.slot) ∨
      (∃ v, y.serial = some v ∧ v ≠ c.serial) ∨ ∃ v, y.isProtected = some v ∧ v ≠ c.isProtected) :
    changesIdentity c (overlaid y c) = true := by
  rw [changesIdentity_iff]
  unfold overlaid
  obtain ⟨v, hv, hne⟩ | ⟨v, hv, hne⟩ | ⟨v, hv, hne⟩ | ⟨v, hv, hne⟩ := h
  · rw [hv]; exact .inl hne.symm
  · rw [hv]; exact .inr (.inl hne.symm)
  · rw [hv]; exact .inr (.inr (.inl hne.symm))
  · rw [hv]; exact .inr (.inr (.inr hne.symm))

theorem changesIdentity_same {c n : Zone} (hriser : n.riser = c.riser) (hslot : n.slot = c.slot) (hserial : n.serial = c.serial)
    (hprotected : n.isProtected = c.isProtected) : changesIdentity c n = false := by
  rw [← Bool.not_eq_true, changesIdentity_iff, hriser, hslot, hserial, hprotected]
  exact fun h => h.elim (absurd rfl) fun h => h.elim (absurd rfl) fun h => h.elim (absurd rfl) (absurd rfl)

section
variable {s : State} {r : Request} {z : Nat} {y : ZoneBody} (hasks : AsksFor s r (.configureZone z y))
include hasks

/-- A record that passes the checks is stored, and answered, where no Set Fallback is to be sent. -/
theorem exec_configureZone_stored {n : Zone} (hz : z < 96) (hsized : TablesSized s.blocks) (hrange : zoneBodyInRange y = true)
    (hkeep : y.remove = false) (hform : formZone y (s.blocks.zone? z) = some n) (hfree : identityBars (s.blocks.zone? z) n = false)
    (hprotects : y.isProtected = some true → ∀ k ∈ s.blocks.bookings, z ∉ k.fields.zones) (hcollides : s.blocks.collides z n = false)
    (hplain : y.fallback = none ∨ (n.node.live = false ∧ n.node ≠ .refused)) :
    exec .configureZone s = .next (replied s r (recordStored z y n s.blocks) (okWith (.zoneConfigured (some (settled y n)) false))) ∧
      OnlyRisers s.blocks (recordStored z y n s.blocks) ∧ (recordStored z y n s.blocks).ownUs = s.blocks.ownUs ∧
      (recordStored z y n s.blocks).risers = s.blocks.risers ∧
      (recordStored z y n s.blocks).zones = s.blocks.zones.set z (some (settled y n)) := by
  obtain ⟨hzones, -, -, -, -, -, -, -, hdeferral⟩ := hsized
  have hlt : z < s.blocks.zones.length := by rw [hzones]; exact hz
  have hwrites := recordStored_records (y := y) (n := n) hlt hdeferral
  refine ⟨?_, hwrites.onlyRisers (.of_eq rfl), ?_, hwrites.risers, hwrites.zones⟩
  · rw [exec_configureZone hasks, configureZone_form hz hrange hkeep, hform, Option.map_some, Option.getD_some,
      storing_of_free hfree hprotects hcollides, storeZone_of_plain (by rw [effectsSet_node]; exact hplain),
      recordStored_zone? hlt hdeferral]
  · unfold TouchesRecords at hwrites
    rw [hwrites]
    rfl

end

/-- A record beside its node that passes the checks is stored by its own rule. -/
theorem exec_configureZone_quiet {s : State} {r : Request} {z : Nat} {y : ZoneBody} {c n : Zone}
    (hasks : AsksFor s r (.configureZone z y)) (hz : z < 96) (hrange : zoneBodyInRange y = true) (hkeep : y.remove = false)
    (hc : s.blocks.zone? z = some c) (hover : overlaid y c = n) (hsame : changesIdentity c n = false)
    (hprotects : y.isProtected = none) (hcollides : s.blocks.collides z n = false) :
    exec .configureZone s = .next (replied s r (storeZone z y n s.blocks).1 (storeZone z y n s.blocks).2) := by
  have hform : formZone y (s.blocks.zone? z) = some n := by rw [hc, formZone_some, hover]
  rw [exec_configureZone hasks, configureZone_form hz hrange hkeep, hform, Option.map_some, Option.getD_some,
    storing_of_free (identityBars_of_same hc hsame) (fun h => absurd (hprotects.symm.trans h) nofun) hcollides]

/-- The body that carries a role, a trim and wattages alone. -/
def settingsBody (role trim : Option Nat) (watts : Option Levels) : ZoneBody :=
  ⟨none, none, none, none, role, none, none, none, trim, watts, none, false⟩

/-- The body that carries a fallback colour alone. -/
def fallbackBody (l : Levels) : ZoneBody := ⟨none, none, none, none, none, none, none, none, none, none, some l, false⟩

section
variable {b : Blocks} {z : Nat} {c : Zone} (hc : b.zone? z = some c) (hnode : nodeBySerial c = c.node)
include hc hnode

theorem storeZone_settings (role trim : Option Nat) (watts : Option Levels) :
    storeZone z (settingsBody role trim watts) (overlaid (settingsBody role trim watts) c) b =
      (b.setZone z (some (overlaid (settingsBody role trim watts) c)),
        okWith (.zoneConfigured (some (overlaid (settingsBody role trim watts) c)) false)) := by
  rw [storeZone_of_plain (.inl rfl), recordStored_quiet (y := settingsBody role trim watts) (n := overlaid (settingsBody role trim watts) c) hc rfl rfl hnode,
    stored_zone? (zone?_lt b hc)]

theorem storeZone_colour (l : Levels) : storeZone z (fallbackBody l) (overlaid (fallbackBody l) c) b =
    ((queueFallback z { c with fallback := l } (b.setZone z (some { c with fallback := l }))).1, okWith (.zoneConfigured
      ((queueFallback z { c with fallback := l } (b.setZone z (some { c with fallback := l }))).1.zone? z)
      (queueFallback z { c with fallback := l } (b.setZone z (some { c with fallback := l }))).2)) := by
  rw [storeZone_of_fallback rfl, recordStored_quiet (y := fallbackBody l) (n := overlaid (fallbackBody l) c) hc rfl rfl hnode]
  rfl

end

theorem fallbackBody_range {l : Levels} (h : Capped 1000 l) : zoneBodyInRange (fallbackBody l) = true :=
  zoneBodyInRange_iff.2 ⟨nofun, nofun, nofun, nofun, nofun, nofun, nofun, nofun, nofun, fun _ hv => Option.some.inj hv ▸ h⟩

theorem removeBody_range :
    zoneBodyInRange ⟨none, none, none, none, none, none, none, none, none, none, none, true⟩ = true := rfl

/-- Settles O56. -/
theorem zonesAreConfiguredAndCleared : Obligations.ZonesAreConfiguredAndCleared := by
  unfold Obligations.ZonesAreConfiguredAndCleared
  refine ⟨fun s r z y hasks => ⟨fun hremove hcarries => ?_, fun hplain hout => ?_, fun hz hnone hrange hbad => ?_,
      zoneBodyInRange_iff, fun c hz hkeep hrange hc hvacant habsent hchanges => ?_, fun m hz hkeep hrange hform haway hinUse => ?_⟩,
    fun s r z y c m hasks hz hsized hc haway hkeep hfallback hrange hm hprotects hcollides => ?_,
    fun s r z hasks => ⟨fun hz => ?_, fun hz hnone => ?_, fun c hz hc hbarred => ?_⟩,
    fun s r z rr sl fa fe y hasks hz hsized hnone hkeep hrange hrr hsl hfa hfe hprotects hfree => ?_,
    fun s r z c role trim watts hasks hz hsized hc hcollides hnode hrole htrim hwatts => ?_,
    fun s r z c l hasks hz hsized hc hcollides hnode hcapped hriser => ⟨fun hthere hroom => ?_, fun hthere hfull => ?_,
      fun hdead haccepted => ?_⟩,
    fun s r z c hasks hz hsized hc => ⟨fun haway => ?_, fun hvacant habsent => ?_⟩,
    fun s r z c hasks hz hsized hc hvacant habsent hriser hroom hloses => ?_⟩
  · rw [exec_configureZone hasks, configureZone_of_both hremove hcarries]
  · rw [exec_configureZone hasks, configureZone_of_out hplain hout]
  · rw [exec_configureZone hasks]
    obtain ⟨hremove, hcarries⟩ | ⟨hkeep, hmissing⟩ := hbad
    · rw [configureZone_remove hz hrange hremove hcarries, hnone]
      rfl
    · rw [configureZone_form hz hrange hkeep, hnone, formZone_none_of_missing hmissing]
      rfl
  · rw [exec_configureZone hasks, configureZone_form hz hrange hkeep, hc, formZone_some, Option.map_some, Option.getD_some,
      storing_of_identity hc (changesIdentity_overlaid hchanges) (present_iff.2 ⟨hvacant, habsent⟩)]
    rfl
  · rw [exec_configureZone hasks, configureZone_form hz hrange hkeep, hform, Option.map_some, Option.getD_some,
      storing_of_inUse (identityBars_of_absent haway) (hinUse.imp_right collides_iff.2)]
  · have hover : overlaid y c = m := by
      unfold overlaid
      rw [hfallback, hm]
      rfl
    have hform : formZone y (s.blocks.zone? z) = some m := by rw [hc, formZone_some, hover]
    have hbars : identityBars (s.blocks.zone? z) m = false := identityBars_of_absent fun d hd => by
      rw [hc] at hd
      cases hd
      exact haway
    have hmnode : m.node = c.node := by rw [hm]
    have hstatic : ∀ l, y.permitted = some l → StepKind.static ∉ m.permitted := fun l hl => by
      obtain ⟨-, -, -, -, -, -, hstatic, -⟩ := zoneBodyInRange_iff.1 hrange
      rw [hm]
      show StepKind.static ∉ y.permitted.getD c.permitted
      rw [hl]
      exact hstatic l hl
    obtain ⟨hanswers, honly, hown, hrisers, hzones⟩ :=
      exec_configureZone_stored hasks hz hsized hrange hkeep hform hbars hprotects hcollides (.inl hfallback)
    obtain ⟨hlength, -, -, -, -, -, -, -, hdeferral⟩ := hsized
    refine ⟨_, settled y m, hanswers, honly, hown, hrisers, hzones, settled_frame y m, mem_settled_permitted hstatic, fun hplain => ?_,
      fun heffects => ?_, ?_, fun hmoved => ?_⟩
    · rw [settled_of_plain hplain, hm]
      rfl
    · obtain ⟨l, hl⟩ := Option.ne_none_iff_exists'.1 heffects
      rw [settled_profile_of_effects hl (hstatic l hl), hm]
    · rw [settled_node, nodeBySerial_of_absent (by rw [hmnode]; exact haway)]
    · refine recordStored_told (by rw [hlength]; exact hz) hdeferral ?_
      rw [effectsSet_node, effectsSet_nodeBySerial, hmnode, ← settled_node (y := y)]
      exact fun h => hmoved h.symm
  · rw [exec_clearNode hasks, clearNode_of_out hz]
  · rw [exec_clearNode hasks, clearNode_of_none hz hnone]
  · rw [exec_clearNode hasks, clearNode_of_barred hz hc]
    obtain hvacant | habsent | hfull | ⟨v, o, hserial, hrunning, hround⟩ := hbarred
    · exact .inl (not_present_iff.2 (.inl hvacant))
    · exact .inl (not_present_iff.2 (.inr habsent))
    · exact .inr (.inr (queueOpen_false_iff.2 hfull))
    · exact .inr (.inl ⟨v, hserial, roundWinner_eq_some.2 ⟨hrunning, hround.imp_right fun h => ⟨o, h⟩⟩⟩)
  · have hform : formZone y (s.blocks.zone? z) = some (newZone rr sl fa fe y) := by
      rw [hnone, formZone_none_of_all hrr hsl hfa hfe]
    obtain ⟨n, hdefn⟩ : ∃ n, n = newZone rr sl fa fe y := ⟨_, rfl⟩
    rw [← hdefn] at hform
    have hcollides : s.blocks.collides z n = false := by
      rw [← Bool.not_eq_true, collides_iff]
      rintro ⟨w, d, -, -, hd, hmatch⟩
      obtain ⟨hplace, hserial⟩ := hfree w d hd
      rw [hdefn] at hmatch
      obtain hsame | ⟨v, hv, hdv⟩ := hmatch
      · exact hplace hsame
      · change y.serial.getD none = some v at hv
        refine hserial v ?_ hdv
        cases hcarried : y.serial with
        | none => rw [hcarried] at hv; cases hv
        | some o => rw [hcarried] at hv; exact congrArg some hv
    have hbars : identityBars (s.blocks.zone? z) n = false := by rw [hnone]; rfl
    have hvacant : n.node = .vacant := by rw [hdefn]; rfl
    obtain ⟨hanswers, honly, hown, hrisers, hzones⟩ := exec_configureZone_stored hasks hz hsized hrange hkeep hform hbars hprotects
      hcollides (.inr (by rw [hvacant]; exact ⟨rfl, nofun⟩))
    obtain ⟨hlength, -, -, -, -, -, -, -, hdeferral⟩ := hsized
    have hstatic : ∀ l, y.permitted = some l → StepKind.static ∉ n.permitted := fun l hl => by
      obtain ⟨-, -, -, -, -, -, hstatic, -⟩ := zoneBodyInRange_iff.1 hrange
      rw [hdefn]
      show StepKind.static ∉ y.permitted.getD []
      rw [hl]
      exact hstatic l hl
    have hprofile : (settled y n).profile = none := by
      cases hl : y.permitted with
      | none => rw [settled_of_plain hl, hdefn]; rfl
      | some l => rw [settled_profile_of_effects hl (hstatic l hl), hdefn]; rfl
    have hserial : n.serial = y.serial.getD none := by rw [hdefn]; rfl
    have hnode : (settled y n).node = if (y.serial.getD none).isSome then .absent else .vacant := by
      rw [settled_node, nodeBySerial_of_absent (.inl hvacant), hserial]
      cases y.serial.getD none <;> rfl
    refine ⟨_, settled y n, hanswers, honly, hown, hrisers, hzones, ?_, fun k => ?_, fun hsome => ?_⟩
    · refine (settled_frame y n).trans ?_
      rw [hprofile, hnode, hdefn]
      rfl
    · rw [mem_settled_permitted hstatic, hdefn]
      rfl
    · refine recordStored_told (by rw [hlength]; exact hz) hdeferral ?_
      rw [effectsSet_node, effectsSet_nodeBySerial, ← settled_node (y := y), hnode, hvacant, hsome]
      nofun
  · refine ⟨overlaid (settingsBody role trim watts) c, rfl, ?_⟩
    have hrange : zoneBodyInRange (settingsBody role trim watts) = true :=
      zoneBodyInRange_iff.2 ⟨nofun, nofun, nofun, nofun, hrole, nofun, nofun, htrim, hwatts, nofun⟩
    refine (exec_configureZone_quiet hasks hz hrange rfl hc rfl (changesIdentity_same rfl rfl rfl rfl) rfl hcollides).trans ?_
    rw [← settingsBody, storeZone_settings hc hnode]
    rfl
  · refine (exec_configureZone_quiet hasks hz (fallbackBody_range hcapped) rfl hc rfl (changesIdentity_same rfl rfl rfl rfl) rfl
      hcollides).trans ?_
    rw [← fallbackBody, storeZone_colour hc hnode, queueFallback_of_open (by exact hthere) (by exact queueOpen_iff.2 hroom)]
    dsimp only
    rw [show (joinQueue c.riser ⟨.setFallback l, c.slot, 0⟩ (s.blocks.setZone z (some { c with fallback := l }))).zone? z =
      some { c with fallback := l } from stored_zone? (zone?_lt _ hc) _]
    rfl
  · have hfallback : storeZone z (fallbackBody l) (overlaid (fallbackBody l) c) s.blocks =
        (unconfirmedFallback z (s.blocks.setZone z (some { c with fallback := l })), okWith (.zoneConfigured
          ((unconfirmedFallback z (s.blocks.setZone z (some { c with fallback := l }))).zone? z) false)) := by
      rw [storeZone_colour hc hnode, queueFallback_of_full (by exact hthere) (by exact queueOpen_false_iff.2 hfull)]
    have hwrites := unconfirmedFallback_eq (stored_zone? (zone?_lt _ hc) { c with fallback := l })
    have hshown : (unconfirmedFallback z (s.blocks.setZone z (some { c with fallback := l }))).zone? z =
        some { c with fallback := l, fault := some 255 } := by
      rw [hwrites]
      exact stored_zone? (b := s.blocks.setZone z (some { c with fallback := l })) (by simpa using zone?_lt _ hc) _
    refine ⟨unconfirmedFallback z (s.blocks.setZone z (some { c with fallback := l })), ?_, ?_, report_told _ _ _⟩
    · refine (exec_configureZone_quiet hasks hz (fallbackBody_range hcapped) rfl hc rfl (changesIdentity_same rfl rfl rfl rfl) rfl
        hcollides).trans ?_
      rw [← fallbackBody, hfallback, hshown]
    · refine hwrites.trans ?_
      generalize (unconfirmedFallback z (s.blocks.setZone z (some { c with fallback := l }))).notices = k
      dsimp only [setZone_zones]
      rw [List.set_set]
      rfl
  · refine (exec_configureZone_quiet hasks hz (fallbackBody_range hcapped) rfl hc rfl (changesIdentity_same rfl rfl rfl rfl) rfl
      hcollides).trans ?_
    rw [← fallbackBody, storeZone_colour hc hnode, queueFallback_of_away (by exact hdead) (by exact haccepted)]
    dsimp only
    rw [stored_zone? (zone?_lt _ hc)]
    rfl
  · obtain ⟨-, -, -, -, -, -, -, -, hdeferral⟩ := hsized
    have hremoves : exec .configureZone s = .next (replied s r (reevaluateFeeder c.feeder (recordRemoved z c s.blocks))
        (okWith (.zoneConfigured none false))) := by
      have hplain : removal z s.blocks (some c) = removeZone z c s.blocks := if_neg (by rw [not_present_iff.2 haway]; nofun)
      rw [exec_configureZone hasks, configureZone_remove hz removeBody_range rfl rfl, hc, hplain, removeZone_eq]
    have hremoved := recordRemoved_eq z c s.blocks
    have htold := reevaluateFeeder_records (b := recordRemoved z c s.blocks) (by rw [hremoved]; exact hdeferral) c.feeder
    have hlatest : ∀ m, (reevaluateFeeder c.feeder (recordRemoved z c s.blocks)).latestOf m =
        (s.blocks.updateLatest z (fun _ => .absent)).latestOf m := fun m => by
      unfold Blocks.latestOf
      rw [show (reevaluateFeeder c.feeder (recordRemoved z c s.blocks)).chain = (recordRemoved z c s.blocks).chain by rw [htold],
        hremoved]
      rfl
    unfold TouchesRecords at htold
    refine ⟨_, hremoves, ?_, ?_, fun m hm => ?_, ?_, ?_, ?_, ?_, ?_, fun habsent => ?_⟩
    · rw [htold, hremoved]
    · rw [hlatest, updateLatest_latestOf rfl, if_pos rfl]
    · rw [hlatest, updateLatest_latestOf rfl, if_neg hm]
    · rw [htold, hremoved]
    · rw [htold, hremoved]
    · rw [htold, hremoved]
    · rw [htold, hremoved]
    · rw [htold, hremoved]
    · refine reevaluateFeeder_keeps_told ?_ _
      unfold recordRemoved
      rw [habsent]
      exact reportIf_told (.zone z) .nodeState (s.blocks.setZone z none)
  · have hbars : removal z s.blocks (some c) = (s.blocks, refuseWith .inUse (.nodeState c.node)) :=
      if_pos (present_iff.2 ⟨hvacant, habsent⟩)
    rw [exec_configureZone hasks, configureZone_remove hz removeBody_range rfl rfl, hc, hbars]
  · obtain ⟨-, -, -, -, -, -, -, -, hdeferral⟩ := hsized
    have hqueued : (resetQueued z c s.blocks).zone? z = some (clearZone c) := by
      refine (updateZone_zone? _ z z clearZone).trans ?_
      rw [if_pos rfl, show (joinQueue c.riser ⟨.resetNode, c.slot, 0⟩ s.blocks).zone? z = some c from hc]
      rfl
    have hwrites := setNode_records (b := resetQueued z c s.blocks) hdeferral z .absent
    rw [updateZone_some _ z _ hqueued] at hwrites
    have hzones : ((resetQueued z c s.blocks).setZone z (some (nodeSet .absent (clearZone c)))).zones =
        s.blocks.zones.set z (some (nodeSet .absent (clearZone c))) := by
      unfold resetQueued
      dsimp only [setZone_zones, updateZone_zones]
      rw [List.set_set]
      rfl
    refine ⟨setNode z .absent (resetQueued z c s.blocks), ?_, hwrites.onlyRisers (.of_eq rfl), ?_, hwrites.zones.trans hzones,
      hwrites.risers, setNode_told ?_⟩
    · rw [exec_clearNode hasks, clearNode_of_free hz hc (present_iff.2 ⟨hvacant, habsent⟩) (fun v hserial hwins => ?_)
        (queueOpen_iff.2 hroom)]
      obtain ⟨hrunning, hoffering | ⟨o, hdeciding⟩⟩ := roundWinner_eq_some.1 hwins
      · exact (hloses v none hserial hrunning).1 hoffering
      · exact (hloses v o hserial hrunning).2 hdeciding
    · unfold TouchesRecords at hwrites
      rw [hwrites]
      rfl
    · unfold Blocks.nodeState
      rw [hqueued]
      exact habsent

end Sys2Proof.Machine

/-! PROOFS. Re-resolution (R50 to R57, R64, R69): obligation O45. -/

namespace Sys2Proof.Machine

/-! ## Choosing by rank, start and number (R39, R51) -/

section
variable {α : Type}

/-- The member of a list that goes before the others. -/
def foremost (before : α → α → Bool) : List α → Option α
  | [] => none
  | x :: xs => some ((foremost before xs).elim x (fun y => if before y x then y else x))

theorem foremost_mem {before : α → α → Bool} {l : List α} {o : α} (h : foremost before l = some o) : o ∈ l := by
  induction l generalizing o with
  | nil => cases h
  | cons x xs ih =>
    cases Option.some.inj h
    cases hrest : foremost before xs with
    | none => exact List.mem_cons_self
    | some y =>
      show (if before y x then y else x) ∈ _
      split
      · exact List.mem_cons_of_mem x (ih hrest)
      · exact List.mem_cons_self

/-- Under a weak order nothing goes before the foremost. -/
theorem foremost_first {before : α → α → Bool} (hasymm : ∀ x y, before x y = true → before y x = false)
    (htrans : ∀ x y z, before x y = false → before y z = false → before x z = false) {l : List α} {o : α}
    (h : foremost before l = some o) : ∀ p ∈ l, before p o = false := by
  have hirrefl : ∀ x, before x x = false := fun x => by
    by_contra hself
    have htrue := Bool.eq_true_of_not_eq_false hself
    exact hself (hasymm x x htrue)
  induction l generalizing o with
  | nil => cases h
  | cons x xs ih =>
    cases Option.some.inj h
    intro p hp
    cases hrest : foremost before xs with
    | none =>
      have hnil : xs = [] := by
        cases xs with
        | nil => rfl
        | cons y ys => cases hrest
      subst hnil
      rw [List.mem_singleton.1 hp]
      exact hirrefl x
    | some y =>
      show before p (if before y x then y else x) = false
      obtain rfl | hp := List.mem_cons.1 hp
      · split
        · next hfirst => exact hasymm _ _ hfirst
        · exact hirrefl p
      · split
        · exact ih hrest p hp
        · next hlater => exact htrans p y x (ih hrest p hp) (Bool.eq_false_of_not_eq_true hlater)

end

theorem winner_eq_foremost (l : List Occurrence) : winner l = foremost outranks l := by
  induction l with
  | nil => rfl
  | cons x xs ih =>
    unfold winner foremost
    rw [ih]
    cases foremost outranks xs with
    | none => rfl
    | some y => exact (apply_ite some _ _ _).symm

theorem victim_eq_foremost (l : List Occurrence) : victim l = foremost weaker l := by
  induction l with
  | nil => rfl
  | cons x xs ih =>
    unfold victim foremost
    rw [ih]
    cases foremost weaker xs with
    | none => rfl
    | some y => exact (apply_ite some _ _ _).symm

/-- Whether a rank, a start and a number go before others: higher, then later, then lower. -/
def LexBefore (r r' : Nat) (s s' : Int) (n n' : Nat) : Prop := r' < r ∨ (r = r' ∧ (s' < s ∨ (s = s' ∧ n < n')))

theorem not_lexBefore {r r' : Nat} {s s' : Int} {n n' : Nat} :
    ¬ LexBefore r r' s s' n n' ↔ r ≤ r' ∧ (r = r' → s ≤ s' ∧ (s = s' → n' ≤ n)) := by
  unfold LexBefore
  omega

theorem lexBefore_asymm {r r' : Nat} {s s' : Int} {n n' : Nat} (h : LexBefore r r' s s' n n') : ¬ LexBefore r' r s' s n' n := by
  unfold LexBefore at *
  omega

theorem lexBefore_negTrans {r r' r'' : Nat} {s s' s'' : Int} {n n' n'' : Nat} (h : ¬ LexBefore r r' s s' n n')
    (k : ¬ LexBefore r' r'' s' s'' n' n'') : ¬ LexBefore r r'' s s'' n n'' := by
  unfold LexBefore at *
  omega

theorem outranks_iff {x y : Occurrence} :
    outranks x y = true ↔ LexBefore x.tier.rank y.tier.rank x.start y.start x.number y.number := by
  unfold outranks LexBefore
  simp only [Bool.or_eq_true, Bool.and_eq_true, decide_eq_true_iff]

theorem weaker_iff {x y : Occurrence} :
    weaker x y = true ↔ LexBefore y.tier.rank x.tier.rank y.start x.start y.number x.number := by
  unfold weaker LexBefore
  simp only [Bool.or_eq_true, Bool.and_eq_true, decide_eq_true_iff, eq_comm (a := y.tier.rank), eq_comm (a := y.start)]

/-- The winner is a claimant of highest tier, then latest start, then lowest number. -/
theorem winner_highest {l : List Occurrence} {o : Occurrence} (h : winner l = some o) {p : Occurrence} (hp : p ∈ l) :
    p.tier.rank ≤ o.tier.rank ∧ (p.tier.rank = o.tier.rank → p.start ≤ o.start ∧ (p.start = o.start → o.number ≤ p.number)) := by
  rw [winner_eq_foremost] at h
  have hfirst := foremost_first (fun x y hxy => ?_) (fun x y z hxy hyz => ?_) h p hp
  · rw [← Bool.not_eq_true, outranks_iff, not_lexBefore] at hfirst
    exact hfirst
  · rw [← Bool.not_eq_true, outranks_iff]
    exact lexBefore_asymm (outranks_iff.1 hxy)
  · rw [← Bool.not_eq_true, outranks_iff] at hxy hyz ⊢
    exact lexBefore_negTrans hxy hyz

theorem winner_mem {l : List Occurrence} {o : Occurrence} (h : winner l = some o) : o ∈ l :=
  foremost_mem ((winner_eq_foremost l).symm.trans h)

theorem winner_eq_none {l : List Occurrence} : winner l = none ↔ l = [] := by
  rw [winner_eq_foremost]
  cases l with
  | nil => exact ⟨fun _ => rfl, fun _ => rfl⟩
  | cons x xs => exact ⟨nofun, nofun⟩

/-- The victim is the occupant of lowest tier, then earliest start, then highest number. -/
theorem victim_lowest {l : List Occurrence} {v : Occurrence} (h : victim l = some v) {p : Occurrence} (hp : p ∈ l) :
    v.tier.rank < p.tier.rank ∨ (v.tier.rank = p.tier.rank ∧
      (v.start < p.start ∨ (v.start = p.start ∧ p.number ≤ v.number))) := by
  rw [victim_eq_foremost] at h
  have hfirst := foremost_first (fun x y hxy => ?_) (fun x y z hxy hyz => ?_) h p hp
  · rw [← Bool.not_eq_true, weaker_iff, not_lexBefore] at hfirst
    obtain ⟨hrank, hstart⟩ := hfirst
    obtain hlower | hsame := lt_or_eq_of_le hrank
    · exact .inl hlower
    obtain ⟨hle, hnumber⟩ := hstart hsame
    obtain hearlier | hat := lt_or_eq_of_le hle
    · exact .inr ⟨hsame, .inl hearlier⟩
    · exact .inr ⟨hsame, .inr ⟨hat, hnumber hat⟩⟩
  · rw [← Bool.not_eq_true, weaker_iff]
    exact lexBefore_asymm (weaker_iff.1 hxy)
  · rw [← Bool.not_eq_true, weaker_iff] at hxy hyz ⊢
    exact lexBefore_negTrans hyz hxy

/-! ## The stages of a re-resolution (R53) -/

/-- The blocks with the entries of a set of zones written afresh. -/
def tableWritten (zones : List Nat) (b : Blocks) : Blocks := { b with holding := b.resolvedTable zones }

/-- The blocks with the handovers of the changed zones started. -/
def changesFaded (zones : List Nat) (b : Blocks) : Blocks :=
  if (tableWritten zones b).fades then
    forEach (b.changedZones zones) (fun z x => startHandover z (x.handoverLength z) x) (tableWritten zones b)
  else tableWritten zones b

/-- The blocks with HolderChanged reported for the changed zones. -/
def changesTold (zones : List Nat) (b : Blocks) : Blocks :=
  forEach (b.changedZones zones) (fun z x => x.report (.zone z) .holderChanged) (changesFaded zones b)

theorem resolve_eq (zones : List Nat) (newcomer : Option Nat) (b : Blocks) : resolve zones newcomer b =
    reevaluateShowLive (forEach ((recountHeld newcomer (changesTold zones b)).feedersOf (b.changedZones zones)) reevaluateFeeder
      (recountHeld newcomer (changesTold zones b))) := rfl

/-- Only the zones held, the feeders, Show Live and the Notice List may differ. -/
def TouchesCounts (a b : Blocks) : Prop :=
  b = { a with active := b.active, feeders := b.feeders, showLive := b.showLive, notices := b.notices }

theorem TouchesCounts.refl (b : Blocks) : TouchesCounts b b := rfl

theorem TouchesCounts.trans {a b c : Blocks} (h : TouchesCounts a b) (k : TouchesCounts b c) : TouchesCounts a c := by
  unfold TouchesCounts at *; rw [k, h]

theorem TouchesRecords.counts {a b : Blocks} (h : TouchesRecords a b) : TouchesCounts a b := by
  unfold TouchesRecords TouchesCounts at *; rw [h]

theorem TouchesCounts.deferral {a b : Blocks} (h : TouchesCounts a b) : b.deferral = a.deferral := by rw [h]

theorem reportHeld_records (newcomer : Option Nat) (o : Occurrence) (b : Blocks) : TouchesRecords b (reportHeld newcomer o b) := by
  unfold reportHeld
  dsimp only
  split
  · split
    · exact report_records _ _ _
    · exact .refl b
  split
  · exact report_records _ _ _
  split
  · exact report_records _ _ _
  · exact .refl b

theorem reportHeld_keeps_told {b : Blocks} {r : RecordId} {k : ChangeKind} (h : Told b r k) (newcomer : Option Nat) (o : Occurrence) :
    Told (reportHeld newcomer o b) r k := by
  unfold reportHeld
  dsimp only
  split
  · split
    · exact submit_keeps_told h _ _ _
    · exact h
  split
  · exact submit_keeps_told h _ _ _
  split
  · exact submit_keeps_told h _ _ _
  · exact h

theorem recountHeld_counts (newcomer : Option Nat) (b : Blocks) : TouchesCounts b (recountHeld newcomer b) :=
  .trans (b := { b with active := b.active.map (fun o => { o with held := b.countHeld o.id }) }) rfl
    (forEach_rel TouchesCounts.refl TouchesCounts.trans (fun o x => (reportHeld_records newcomer o x).counts) _ _)

theorem changesTold_records (zones : List Nat) (b : Blocks) : TouchesRecords (changesFaded zones b) (changesTold zones b) :=
  forEach_rel TouchesRecords.refl TouchesRecords.trans (fun _ x => report_records x _ _) _ _

theorem changesFaded_fades (zones : List Nat) (b : Blocks) : TouchesFades (tableWritten zones b) (changesFaded zones b) := by
  unfold changesFaded
  split
  · exact handovers_fades (len := fun z x => x.handoverLength z) _
  · exact .refl _

section
variable {b : Blocks} (hdeferral : b.deferral = none) (zones : List Nat) (newcomer : Option Nat)
include hdeferral

/-- What follows the handovers writes counts, feeders, Show Live and reports. -/
theorem resolve_counts : TouchesCounts (changesFaded zones b) (resolve zones newcomer b) := by
  have hfaded : (changesFaded zones b).deferral = none := by
    rw [changesFaded_fades]
    exact hdeferral
  have hcounted := (changesTold_records zones b).counts.trans (recountHeld_counts newcomer (changesTold zones b))
  have hfeeders : ∀ l : List Nat, TouchesCounts (changesFaded zones b)
      (forEach l reevaluateFeeder (recountHeld newcomer (changesTold zones b))) := fun l =>
    forEach_keeps (P := TouchesCounts (changesFaded zones b))
      (fun f x hx => hx.trans (reevaluateFeeder_records (hx.deferral.trans hfaded) f).counts) l _ hcounted
  have hlive : ∀ x, TouchesCounts (changesFaded zones b) x → TouchesCounts (changesFaded zones b) (reevaluateShowLive x) := by
    intro x hx
    refine hx.trans ?_
    unfold reevaluateShowLive
    split
    · exact .refl x
    · rfl
  rw [resolve_eq]
  exact hlive _ (hfeeders _)

theorem resolve_holding : (resolve zones newcomer b).holding = b.resolvedTable zones := by
  rw [resolve_counts hdeferral, changesFaded_fades]
  rfl

theorem resolve_zone? (z : Nat) : (resolve zones newcomer b).zone? z = (changesFaded zones b).zone? z :=
  zone?_congr (by rw [resolve_counts hdeferral]) z

theorem resolve_chain : (resolve zones newcomer b).chain = (changesFaded zones b).chain := by rw [resolve_counts hdeferral]

end

/-! ## The entries of the Holding Table (R50, R53) -/

theorem resolvedTable_length (b : Blocks) (zones : List Nat) : (b.resolvedTable zones).length = 96 := by
  unfold Blocks.resolvedTable allZones
  rw [List.length_map, List.length_range]
  rfl

theorem holdingOf_written (zones : List Nat) {b : Blocks} (hsized : b.holding.length = 96) (z : Nat) :
    (tableWritten zones b).holdingOf z = if z ∈ zones ∧ z < 96 then b.resolvedEntry z else b.holdingOf z := by
  show (b.resolvedTable zones).getD z resetHolding = _
  by_cases hz : z < 96
  · have hentry : (b.resolvedTable zones).getD z resetHolding = if z ∈ zones then b.resolvedEntry z else b.holdingOf z := by
      unfold Blocks.resolvedTable
      rw [List.getD_eq_getElem?_getD, List.getElem?_map]
      unfold allZones Config.zoneCount
      rw [List.getElem?_range hz]
      rfl
    rw [hentry]
    simp only [hz, and_true]
  · rw [List.getD_eq_default _ _ (by rw [resolvedTable_length]; omega), if_neg (fun h => hz h.2)]
    exact (List.getD_eq_default _ _ (by rw [hsized]; omega)).symm

section
variable {b : Blocks} {zones : List Nat} {newcomer : Option Nat}

theorem resolve_holdingOf (hdeferral : b.deferral = none) (hsized : b.holding.length = 96) (z : Nat) :
    (resolve zones newcomer b).holdingOf z = if z ∈ zones ∧ z < 96 then b.resolvedEntry z else b.holdingOf z :=
  (holdingOf_congr (resolve_holding hdeferral zones newcomer) z).trans (holdingOf_written zones hsized z)

/-- The changed zones are those of the set whose holder is another record. -/
theorem mem_changedZones (hdeferral : b.deferral = none) (hsized : b.holding.length = 96) {z : Nat} :
    z ∈ b.changedZones zones ↔ z < 96 ∧ z ∈ zones ∧
      (b.holder? z).map (fun h => h.id) ≠ ((resolve zones newcomer b).holder? z).map (fun h => h.id) := by
  unfold Blocks.changedZones
  rw [List.mem_filter, mem_allZones, Bool.and_eq_true, decide_eq_true_iff, Bool.not_eq_true']
  refine and_congr_right fun hz => and_congr_right fun hin => ?_
  unfold Blocks.holder? sameHolder
  rw [resolve_holdingOf hdeferral hsized, if_pos ⟨hin, hz⟩, beq_eq_false_iff_ne]

theorem changedZones_nodup (b : Blocks) (zones : List Nat) : (b.changedZones zones).Nodup := allZones_nodup.filter _

/-- The resolved entry names the claimant that outranks the others. -/
theorem resolvedEntry_holder_none (b : Blocks) (z : Nat) : (b.resolvedEntry z).holder = none ↔ b.claimants z = [] := by
  unfold Blocks.resolvedEntry
  rw [Option.map_eq_none_iff, winner_eq_none]

theorem mem_claimants {b : Blocks} {z : Nat} {o : Occurrence} : o ∈ b.claimants z ↔ o ∈ b.active ∧ z ∈ b.zonesOf o.number := by
  unfold Blocks.claimants
  rw [List.mem_filter, decide_eq_true_iff]

theorem resolvedEntry_holder_some {b : Blocks} {z : Nat} {h : Holder} (hholder : (b.resolvedEntry z).holder = some h) :
    ∃ o ∈ b.active, z ∈ b.zonesOf o.number ∧ h = ⟨o.id, o.number, o.tier, o.start⟩ ∧
      ∀ p ∈ b.active, z ∈ b.zonesOf p.number → p.tier.rank ≤ o.tier.rank ∧
        (p.tier.rank = o.tier.rank → p.start ≤ o.start ∧ (p.start = o.start → o.number ≤ p.number)) := by
  obtain ⟨o, hwins, rfl⟩ := Option.map_eq_some_iff.1 hholder
  obtain ⟨hactive, hclaims⟩ := mem_claimants.1 (winner_mem hwins)
  exact ⟨o, hactive, hclaims, rfl, fun p hp hpclaims => winner_highest hwins (mem_claimants.2 ⟨hp, hpclaims⟩)⟩

/-! ## The handovers of the changed zones (R57, R64) -/

theorem changesFaded_of_hold (zones : List Nat) (h : b.panelHold = true) : changesFaded zones b = tableWritten zones b := by
  refine if_neg ?_
  show ¬ (!b.panelHold && b.deferral.isNone) = true
  rw [h]
  nofun

section
variable (hdeferral : b.deferral = none) (hreleased : b.panelHold = false)
include hdeferral hreleased

theorem changesFaded_of_released (zones : List Nat) : changesFaded zones b =
    forEach (b.changedZones zones) (fun z x => startHandover z (x.handoverLength z) x) (tableWritten zones b) := by
  refine if_pos ?_
  show (!b.panelHold && b.deferral.isNone) = true
  rw [hreleased, hdeferral]
  rfl

theorem changesFaded_zone? (zones : List Nat) (z : Nat) : (changesFaded zones b).zone? z =
    if z ∈ b.changedZones zones then handedFor? ((tableWritten zones b).handoverLength z) (tableWritten zones b) z
    else b.zone? z := by
  rw [changesFaded_of_released hdeferral hreleased]
  exact handovers_zone? (len := fun z x => x.handoverLength z) (fun z _ _ h => h.handoverLength z) (changedZones_nodup b zones) _ z

theorem changesFaded_latestOf_other (zones : List Nat) {z : Nat} (h : z ∉ b.changedZones zones) :
    (changesFaded zones b).latestOf z = b.latestOf z := by
  rw [changesFaded_of_released hdeferral hreleased]
  refine (handovers_latestOf (len := fun z x => x.handoverLength z) (changedZones_nodup b zones) _ z).trans ?_
  exact if_neg fun hall => h hall.1

end

/-- A zone that is not among the changed ones keeps its record and its place in the latest render. -/
theorem resolve_unchanged (hdeferral : b.deferral = none) {z : Nat} (h : z ∉ b.changedZones zones) :
    (resolve zones newcomer b).zone? z = b.zone? z ∧ (resolve zones newcomer b).latestOf z = b.latestOf z := by
  have hlatest : (resolve zones newcomer b).latestOf z = (changesFaded zones b).latestOf z := by
    unfold Blocks.latestOf
    rw [resolve_chain hdeferral]
  rw [resolve_zone? hdeferral, hlatest]
  cases hhold : b.panelHold with
  | true =>
    rw [changesFaded_of_hold zones hhold]
    exact ⟨rfl, rfl⟩
  | false => exact ⟨(changesFaded_zone? hdeferral hhold zones z).trans (if_neg h), changesFaded_latestOf_other hdeferral hhold zones h⟩

/-! ## Reports (R43, R53, R69) -/

/-- A pass tells of a change that one of its turns tells of, wherever the pass keeps what the turn needs. -/
theorem forEach_told_of {α : Type} {P : Blocks → Prop} {g : α → Blocks → Blocks} {r : RecordId} {k : ChangeKind}
    (hP : ∀ x b, P b → P (g x b)) (hkeeps : ∀ x b, Told b r k → Told (g x b) r k) {x : α} (htells : ∀ b, P b → Told (g x b) r k)
    {l : List α} (hx : x ∈ l) : ∀ {b : Blocks}, P b → Told (forEach l g b) r k := by
  induction l with
  | nil => exact absurd hx List.not_mem_nil
  | cons y ys ih =>
    intro b hb
    obtain rfl | hys := List.mem_cons.1 hx
    · exact forEach_keeps (P := fun b => Told b r k) hkeeps ys _ (htells b hb)
    · exact ih hys (hP y b hb)

theorem reportHeld_told_eclipsed {o : Occurrence} (hzero : b.countHeld o.id = 0) (h : newcomer = some o.id ∨ o.held ≠ 0) :
    Told (reportHeld newcomer o b) (.booking o.number) .eclipsed := by
  unfold reportHeld
  dsimp only
  by_cases hnew : newcomer = some o.id
  · rw [if_pos hnew, if_pos hzero]
    exact report_told _ _ _
  · rw [if_neg hnew, if_pos]
    · exact report_told _ _ _
    · rw [decide_eq_true hzero, Bool.true_and]
      exact bne_iff_ne.2 (h.resolve_left hnew)

theorem reportHeld_told_regained {o : Occurrence} (hheld : b.countHeld o.id ≠ 0) (hbefore : o.held = 0)
    (hold : newcomer ≠ some o.id) : Told (reportHeld newcomer o b) (.booking o.number) .regained := by
  unfold reportHeld
  dsimp only
  rw [if_neg hold, if_neg, if_pos]
  · exact report_told _ _ _
  · simp [hheld, hbefore]
  · simp [hheld]

theorem recountHeld_keeps_told {r : RecordId} {k : ChangeKind} (h : Told b r k) (newcomer : Option Nat) :
    Told (recountHeld newcomer b) r k :=
  forEach_keeps (P := fun x => Told x r k) (fun o _ hx => reportHeld_keeps_told hx newcomer o) _ { b with active := _ } h

theorem countHeld_congr {a b : Blocks} (h : b.holding = a.holding) (id : Nat) : b.countHeld id = a.countHeld id := by
  unfold Blocks.countHeld
  rw [h]

/-- What a re-resolution counted is told, if the count of an occurrence's turn is so told. -/
theorem recountHeld_told {o : Occurrence} (ho : o ∈ b.active) {r : RecordId} {k : ChangeKind}
    (htells : ∀ x : Blocks, x.countHeld o.id = b.countHeld o.id → Told (reportHeld newcomer o x) r k) :
    Told (recountHeld newcomer b) r k := by
  refine forEach_told_of (P := fun x => x.holding = b.holding) (fun p x hx => ?_) (fun p x hx => reportHeld_keeps_told hx newcomer p)
    (fun x hx => htells x (countHeld_congr hx o.id)) ho rfl
  rw [reportHeld_records]
  exact hx

theorem resolve_told {r : RecordId} {k : ChangeKind} (h : Told (recountHeld newcomer (changesTold zones b)) r k) :
    Told (resolve zones newcomer b) r k := by
  have hfeeders : ∀ l : List Nat, Told (forEach l reevaluateFeeder (recountHeld newcomer (changesTold zones b))) r k := fun l =>
    forEach_keeps (P := fun x => Told x r k) (fun f _ hx => reevaluateFeeder_keeps_told hx f) l _ h
  have hlive : ∀ x, Told x r k → Told (reevaluateShowLive x) r k := by
    intro x hx
    unfold reevaluateShowLive
    split
    · exact hx
    · exact hx
  rw [resolve_eq]
  exact hlive _ (hfeeders _)

theorem resolve_keeps_told {r : RecordId} {k : ChangeKind} (h : Told b r k) (zones : List Nat) (newcomer : Option Nat) :
    Told (resolve zones newcomer b) r k := by
  refine resolve_told (recountHeld_keeps_told ?_ newcomer)
  refine forEach_keeps (P := fun x => Told x r k) (fun z x hx => submit_keeps_told hx _ _ _) _ _ ?_
  have hfades := changesFaded_fades zones b
  intro hmask
  rw [hfades] at hmask ⊢
  exact h hmask

theorem changesTold_told {z : Nat} (hz : z ∈ b.changedZones zones) : Told (changesTold zones b) (.zone z) .holderChanged :=
  forEach_told (g := fun z x => x.report (.zone z) .holderChanged) (fun _ _ hx => submit_keeps_told hx _ _ _)
    (fun x => report_told x _ _) _ hz

theorem changesTold_active (zones : List Nat) (b : Blocks) : (changesTold zones b).active = b.active := by
  rw [changesTold_records, changesFaded_fades]
  rfl

theorem changesTold_countHeld (hdeferral : b.deferral = none) (id : Nat) :
    (changesTold zones b).countHeld id = (resolve zones newcomer b).countHeld id := by
  refine countHeld_congr ?_ id
  rw [resolve_holding hdeferral, changesTold_records, changesFaded_fades]
  rfl

end

theorem handedFor_eq (n : Nat) (b : Blocks) (z : Nat) (c : Zone) {last : Levels}
    (h : last = if b.chain.windowOpen = true ∧ b.sourceExempt z = false then capLevels b.curfewCeiling c.last else c.last) :
    handedFor n b z c = { c with
      last := last
      handover := some { from_ := keepLayout c.layout last, layout := c.layout, length := n, start := b.ownUs / 1000 } } := by
  have hlast : (if b.chain.windowOpen && !b.sourceExempt z then capLevels b.curfewCeiling c.last else c.last) = last := by
    rw [h]
    simp only [Bool.and_eq_true, Bool.not_eq_true']
  unfold handedFor handedOver
  rw [hlast]
  rfl

/-- Settles O45. -/
theorem resolutionPicksTheWinner : Obligations.ResolutionPicksTheWinner := by
  unfold Obligations.ResolutionPicksTheWinner
  intro b t zones newcomer hsized ht
  obtain ⟨hzones, hholding, -, -, -, -, -, -, hdeferral⟩ := id hsized
  have hentry : ∀ z < 96, z ∈ zones → t.holdingOf z = b.resolvedEntry z := fun z hz hin => by
    rw [ht, resolve_holdingOf hdeferral hholding, if_pos ⟨hin, hz⟩]
  have hcounts := resolve_counts hdeferral zones newcomer
  have hfades := changesFaded_fades zones b
  have hheld : ∀ o : Occurrence, (t.holding.filter (fun h => h.holder.map (fun k => k.id) == some o.id)).length =
      (changesTold zones b).countHeld o.id := fun o => by
    rw [changesTold_countHeld (newcomer := newcomer) hdeferral, ht]
    rfl
  refine ⟨fun z hz hin => ⟨?_, ?_, fun h hholder => ?_⟩, fun z hout => ?_, ?_, fun hhold => ⟨?_, ?_⟩,
    fun z hz hin hchanged => ⟨?_, fun c last length hreleased hc hopen hlast hlength => ?_⟩, fun z hsame => ?_,
    fun o ho held hcount => ⟨fun hzero hnow => ?_, fun hsome hbefore hold => ?_⟩, ?_, ?_, ?_, ?_, ?_, ?_⟩
  · rw [hentry z hz hin]
    rfl
  · rw [hentry z hz hin]
    exact resolvedEntry_holder_none b z
  · rw [hentry z hz hin] at hholder
    exact resolvedEntry_holder_some hholder
  · rw [ht, resolve_holdingOf hdeferral hholding, if_neg fun h => hout h.1]
  · rw [ht, resolve_active, resolve_holding hdeferral]
  · rw [ht, hcounts, changesFaded_of_hold zones hhold]
    rfl
  · rw [ht, hcounts, changesFaded_of_hold zones hhold]
    rfl
  · rw [ht] at hchanged ⊢
    exact resolve_told (recountHeld_keeps_told (changesTold_told ((mem_changedZones hdeferral hholding).2 ⟨hz, hin, hchanged⟩)) _)
  · have hmem : z ∈ b.changedZones zones := by
      rw [ht] at hchanged
      exact (mem_changedZones hdeferral hholding).2 ⟨hz, hin, hchanged⟩
    have hholder? : t.holder? z = (tableWritten zones b).holder? z := by
      rw [ht]
      exact holder?_congr (resolve_holding hdeferral zones newcomer) z
    have hexempt : t.sourceExempt z = (tableWritten zones b).sourceExempt z := by
      unfold Blocks.sourceExempt
      rw [hholder?, ht, hcounts, hfades]
      rfl
    have hlen : (tableWritten zones b).handoverLength z = length := by
      unfold Blocks.handoverLength
      rw [← hholder?]
      obtain ⟨hnone, hdefault⟩ | ⟨h, k, hsome, hk, hcarried⟩ := hlength
      · rw [hnone, hdefault]
        rfl
      · rw [hsome]
        dsimp only
        rw [show (tableWritten zones b).booking? h.number = some k from hk, hcarried]
        rfl
    rw [hexempt] at hlast
    rw [ht, resolve_zone? hdeferral, changesFaded_zone? hdeferral hreleased, if_pos hmem, hlen,
      handedFor?_of_shown (b := tableWritten zones b) hc hopen]
    exact congrArg some (handedFor_eq length (tableWritten zones b) z c hlast)
  · rw [ht] at hsame ⊢
    refine resolve_unchanged hdeferral fun hmem => ?_
    obtain ⟨-, hin, hchanged⟩ := (mem_changedZones (newcomer := newcomer) hdeferral hholding).1 hmem
    exact hsame.elim (fun h => h hin) hchanged
  · rw [hheld o] at hcount
    rw [ht]
    refine resolve_told (recountHeld_told (by rw [changesTold_active]; exact ho) fun x hx => ?_)
    exact reportHeld_told_eclipsed (by rw [hx, ← hcount, hzero]) hnow
  · rw [hheld o] at hcount
    rw [ht]
    refine resolve_told (recountHeld_told (by rw [changesTold_active]; exact ho) fun x hx => ?_)
    exact reportHeld_told_regained (by rw [hx, ← hcount]; exact hsome) hbefore hold
  all_goals rw [ht, resolve_touches]

end Sys2Proof.Machine

/-! PROOFS. The operations of the Occurrence Engine (R5, R7, R30 to R42): what each writes of bookings, list, table and notices. -/

namespace Sys2Proof.Machine

/-! ## Bookings -/

theorem booking?_number {b : Blocks} {n : Nat} {k : Booking} (h : b.booking? n = some k) : k.number = n :=
  beq_iff_eq.1 (List.find?_some (p := fun k : Booking => k.number == n) h)

theorem booking?_mem {b : Blocks} {n : Nat} {k : Booking} (h : b.booking? n = some k) : k ∈ b.bookings :=
  List.mem_of_find?_eq_some h

/-- The bookings with the one of a number rewritten. -/
def rewriteBooking (n : Nat) (g : Booking → Booking) (k : Booking) : Booking := if k.number = n then g k else k

section
variable {g : Booking → Booking} (hnumber : ∀ k, (g k).number = k.number)
include hnumber

theorem rewriteBooking_number (n : Nat) (k : Booking) : (rewriteBooking n g k).number = k.number := by
  unfold rewriteBooking
  split
  · exact hnumber k
  · rfl

/-- A rewrite that keeps numbers is seen at its own number alone. -/
theorem booking?_of_rewritten {a b : Blocks} {n : Nat} (h : b.bookings = a.bookings.map (rewriteBooking n g)) (m : Nat) :
    b.booking? m = if m = n then (a.booking? m).map g else a.booking? m := by
  unfold Blocks.booking?
  rw [h, List.find?_map]
  have hsame : ((fun k : Booking => k.number == m) ∘ rewriteBooking n g) = fun k => k.number == m :=
    funext fun k => by rw [Function.comp_apply, rewriteBooking_number hnumber]
  rw [hsame]
  cases hfind : a.bookings.find? (fun k => k.number == m) with
  | none =>
    split
    · rfl
    · rfl
  | some k =>
    have hk : k.number = m := beq_iff_eq.1 (List.find?_some (p := fun k : Booking => k.number == m) hfind)
    rw [Option.map_some, Option.map_some]
    unfold rewriteBooking
    rw [hk]
    split
    · rfl
    · rfl

theorem zonesOf_of_rewritten (hfields : ∀ k, (g k).fields = k.fields) {a b : Blocks} {n : Nat}
    (h : b.bookings = a.bookings.map (rewriteBooking n g)) (m : Nat) : b.zonesOf m = a.zonesOf m := by
  unfold Blocks.zonesOf
  rw [booking?_of_rewritten hnumber h]
  split
  · rw [Option.map_map]
    cases a.booking? m with
    | none => rfl
    | some k => exact congrArg BookingFields.zones (hfields k)
  · rfl

end

theorem zonesOf_of_booking {b : Blocks} {n : Nat} {k : Booking} (h : b.booking? n = some k) : b.zonesOf n = k.fields.zones := by
  unfold Blocks.zonesOf
  rw [h]
  rfl

theorem updateBooking_bookings_rewrite (n : Nat) (g : Booking → Booking) (b : Blocks) :
    (b.updateBooking n g).bookings = b.bookings.map (rewriteBooking n g) := rfl

/-- A booking's record when its occurrence is disposed of. -/
def disposed (o : LastOutcome) (x : Option Instant) (k : Booking) : Booking :=
  { k with lastOutcome := o, runCount := if o.counted then min 65535 (k.runCount + 1) else k.runCount, boundary := x }

theorem dispose_bookings (n : Nat) (o : LastOutcome) (x : Option Instant) (b : Blocks) :
    (dispose n o x b).bookings = b.bookings.map (rewriteBooking n (disposed o x)) := by
  have hwrites : (dispose n o x b).bookings = ((recordOutcome n o b).bookings).map
      (rewriteBooking n (fun k => { k with boundary := x })) := by
    refine congrArg (List.map _) ?_
    unfold Blocks.reportEnded Blocks.submit
    split <;> rfl
  rw [hwrites]
  unfold recordOutcome
  rw [updateBooking_bookings_rewrite, List.map_map]
  refine List.map_congr_left fun k _ => ?_
  unfold rewriteBooking
  by_cases hk : k.number = n
  · simp [hk, disposed]
  · simp [hk]

/-! ## What reports keep -/

/-- A statement about the notices that no report of a change other than Ended breaks. -/
structure ReportStable (P : Blocks → Prop) : Prop where
  report : ∀ (b : Blocks) (r : RecordId) (k : ChangeKind), P b → P (b.report r k)
  same : ∀ (a b : Blocks), P a → b.notices = a.notices → b.mask = a.mask → P b

theorem told_stable (r : RecordId) (k : ChangeKind) : ReportStable (fun b => Told b r k) where
  report _ _ _ h := submit_keeps_told h _ _ _
  same _ _ h hnotices hmask hunmasked := by
    rw [hmask] at hunmasked
    rw [hnotices]
    exact h hunmasked

/-- The outcome of a booking's latest ended occurrence stands in the Notice List (R5, R180). -/
def EndedTold (n : Nat) (o : LastOutcome) (b : Blocks) : Prop :=
  ChangeKind.ended ∈ b.mask → ∃ x ∈ b.notices, x.record = .booking n ∧ ChangeKind.ended ∈ x.changes ∧ x.outcome = some o

/-- A change without an outcome leaves the outcomes that stand in the list. -/
theorem addChange_keeps_outcome (r : RecordId) (k : ChangeKind) {n : Nat} {o : LastOutcome} {l : List NoticeEntry}
    (h : ∃ x ∈ l, x.record = .booking n ∧ ChangeKind.ended ∈ x.changes ∧ x.outcome = some o) :
    ∃ x ∈ addChange r k none l, x.record = .booking n ∧ ChangeKind.ended ∈ x.changes ∧ x.outcome = some o := by
  induction l with
  | nil => obtain ⟨x, hx, -⟩ := h; cases hx
  | cons e es ih =>
    obtain ⟨x, hx, hrecord, hended, houtcome⟩ := h
    unfold addChange
    split
    · obtain rfl | hx := List.mem_cons.1 hx
      · exact ⟨_, List.mem_cons_self, hrecord, insertKind_old _ _ _ hended, houtcome⟩
      · exact ⟨x, List.mem_cons_of_mem _ hx, hrecord, hended, houtcome⟩
    · obtain rfl | hx := List.mem_cons.1 hx
      · exact ⟨x, List.mem_cons_self, hrecord, hended, houtcome⟩
      · obtain ⟨y, hy, hstands⟩ := ih ⟨x, hx, hrecord, hended, houtcome⟩
        exact ⟨y, List.mem_cons_of_mem _ hy, hstands⟩

theorem endedTold_stable (n : Nat) (o : LastOutcome) : ReportStable (EndedTold n o) where
  report b r k h hmask := by
    unfold Blocks.report at hmask ⊢
    rw [submit_mask] at hmask
    rw [submit_notices]
    split
    · exact addChange_keeps_outcome r k (h hmask)
    · exact h hmask
  same _ _ h hnotices hmask hunmasked := by
    rw [hmask] at hunmasked
    rw [hnotices]
    exact h hunmasked

/-- An outcome that is added stands in the list. -/
theorem addChange_outcome (n : Nat) (o : LastOutcome) (l : List NoticeEntry) :
    ∃ x ∈ addChange (.booking n) .ended (some o) l, x.record = .booking n ∧ ChangeKind.ended ∈ x.changes ∧ x.outcome = some o := by
  induction l with
  | nil => exact ⟨_, List.mem_cons_self, rfl, List.mem_cons_self, rfl⟩
  | cons e es ih =>
    unfold addChange
    split
    · next hopens =>
      refine ⟨_, List.mem_cons_self, of_decide_eq_true (Bool.and_eq_true _ _ ▸ hopens).1, insertKind_self _ _, rfl⟩
    · obtain ⟨x, hx, hstands⟩ := ih
      exact ⟨x, List.mem_cons_of_mem _ hx, hstands⟩

theorem reportEnded_endedTold (b : Blocks) (n : Nat) (o : LastOutcome) : EndedTold n o (b.reportEnded n o) := by
  intro hmask
  unfold Blocks.reportEnded at hmask ⊢
  rw [submit_mask] at hmask
  rw [submit_notices, if_pos hmask]
  exact addChange_outcome n o b.notices

theorem dispose_endedTold (n : Nat) (o : LastOutcome) (x : Option Instant) (b : Blocks) : EndedTold n o (dispose n o x b) :=
  (endedTold_stable n o).same _ _ (reportEnded_endedTold (recordOutcome n o b) n o) rfl rfl

section
variable {P : Blocks → Prop} (hP : ReportStable P) {b : Blocks} (hb : P b)
include hP hb

theorem ReportStable.updateFeeder (f : Nat) (g : Feeder → Feeder) : P (b.updateFeeder f g) := hP.same b _ hb rfl rfl

theorem ReportStable.setContactor (f : Nat) (closed : Bool) : P (setContactor f closed b) := by
  unfold Machine.setContactor
  split
  · exact hb
  · exact hP.report _ _ _ (hP.same _ _ hb rfl rfl)

theorem ReportStable.reevaluateFeeder (f : Nat) : P (reevaluateFeeder f b) := by
  unfold Machine.reevaluateFeeder
  split
  · exact hP.same _ _ hb rfl rfl
  unfold evaluateFeeder
  split
  · exact hb
  split
  · exact hP.setContactor (hP.updateFeeder hb f _) _ _
  split
  · exact hP.same _ _ hb rfl rfl
  · exact hb

theorem ReportStable.claimFeeder (n f : Nat) : P (claimFeeder n f b) := hP.reevaluateFeeder (hP.updateFeeder hb f _) f

theorem ReportStable.armEntry (n : Nat) : P (armEntry n b) := by
  rw [armEntry_eq]
  exact forEach_keeps (P := P) (fun f _ hx => hP.claimFeeder hx n f) _ _ (hP.same _ _ hb rfl rfl)

theorem ReportStable.releaseClaims (n : Nat) : P (releaseClaims n b) := by
  refine forEach_keeps (P := P) (fun f x hx => ?_) _ _ hb
  unfold releaseFeeder
  split
  · exact hP.reevaluateFeeder (hP.updateFeeder hx f _) f
  · exact hx

theorem ReportStable.removeEntry (n : Nat) : P (removeEntry n b) := by
  have hlisted : ∀ l, P { b with upcoming := l } := fun _ => hP.same b _ hb rfl rfl
  have hreleased : ∀ (x : Blocks) (armed : Bool), P x → P (if armed then Machine.releaseClaims n x else x) := by
    intro x armed hx
    split
    · exact hP.releaseClaims hx n
    · exact hx
  unfold Machine.removeEntry
  split
  · exact hb
  · exact hreleased _ _ (hlisted _)

theorem ReportStable.insertWindow (n : Nat) (t : Tier) (now : Instant) (w : Window) : P (insertWindow n t now w b) := by
  have hlisted : ∀ l, P (schedule n w.marks { b with upcoming := l }) := fun _ => hP.same b _ hb rfl rfl
  have hestimated : ∀ x, P x → P (if w.estimated then x.report (.booking n) .estimated else x) := by
    intro x hx
    split
    · exact hP.report _ _ _ hx
    · exact hx
  have harmed : ∀ x (e : UpcomingEntry), P x → P (if x.withinLead now e then Machine.armEntry n x else x) := by
    intro x e hx
    split
    · exact hP.armEntry hx n
    · exact hx
  exact harmed _ _ (hestimated _ (hlisted _))

theorem ReportStable.resolve (zones : List Nat) (newcomer : Option Nat) : P (resolve zones newcomer b) := by
  have hfaded : P (changesFaded zones b) := by
    have hfades := changesFaded_fades zones b
    exact hP.same _ _ hb (by rw [hfades]; rfl) (by rw [hfades]; rfl)
  have htold : P (changesTold zones b) := forEach_keeps (P := P) (fun z x hx => hP.report x _ _ hx) _ _ hfaded
  have hcounted : P (recountHeld newcomer (changesTold zones b)) := by
    refine forEach_keeps (P := P) (fun o x hx => ?_) _ { changesTold zones b with active := _ } (hP.same _ _ htold rfl rfl)
    unfold reportHeld
    dsimp only
    split
    · split
      · exact hP.report _ _ _ hx
      · exact hx
    split
    · exact hP.report _ _ _ hx
    split
    · exact hP.report _ _ _ hx
    · exact hx
  have hfeeders : ∀ l : List Nat, P (forEach l Machine.reevaluateFeeder (recountHeld newcomer (changesTold zones b))) := fun l =>
    forEach_keeps (P := P) (fun f _ hx => hP.reevaluateFeeder hx f) l _ hcounted
  have hlive : ∀ x, P x → P (reevaluateShowLive x) := by
    intro x hx
    unfold reevaluateShowLive
    split
    · exact hx
    · exact hP.same _ _ hx rfl rfl
  rw [resolve_eq]
  exact hlive _ (hfeeders _)

theorem ReportStable.enter (e : UpcomingEntry) (extra : List Nat) : P (enter e extra b) := by
  have hreset : ∀ x, P x → P (if e.tier = .base then reloadSettle x else x) := by
    intro x hx
    split
    · exact hP.same _ _ hx rfl rfl
    · exact hx
  have hjoined : ∀ (l : List Occurrence) (m : Nat), P ((setBookingState e.number .running { b with
      active := l, nextId := m }).report (.booking e.number) .started) := fun l m => hP.report _ _ _ (hP.same _ _ hb rfl rfl)
  exact hreset _ (hP.resolve (hjoined _ _) _ _)

end

/-! ## The Upcoming List (R34, R35) -/

theorem mem_insertUpcoming {e x : UpcomingEntry} {l : List UpcomingEntry} : x ∈ insertUpcoming e l ↔ x = e ∨ x ∈ l := by
  induction l with
  | nil => exact List.mem_singleton.trans (or_iff_left List.not_mem_nil).symm
  | cons y ys ih =>
    unfold insertUpcoming
    split
    · exact List.mem_cons
    · rw [List.mem_cons, ih, List.mem_cons]
      exact or_left_comm

theorem removeEntry_arming (n : Nat) (b : Blocks) : TouchesArming b (removeEntry n b) := by
  have hreleased : ∀ (x : Blocks) (armed : Bool), TouchesArming x (if armed then releaseClaims n x else x) := by
    intro x armed
    split
    · exact (releaseClaims_touches n x).arming
    · exact .refl x
  unfold removeEntry
  split
  · exact .refl b
  · exact TouchesArming.trans (b := { b with upcoming := b.upcoming.filter (fun x => x.number != n) }) rfl (hreleased _ _)

theorem removeEntry_upcoming (n : Nat) (b : Blocks) : (removeEntry n b).upcoming = b.upcoming.filter (fun x => x.number != n) := by
  have hreleased : ∀ (x : Blocks) (armed : Bool), (if armed then releaseClaims n x else x).upcoming = x.upcoming := by
    intro x armed
    split
    · rw [releaseClaims_touches n x]
    · rfl
  unfold removeEntry
  cases hentry : b.upcoming? n with
  | none =>
    refine (List.filter_eq_self.2 fun x hx => ?_).symm
    exact bne_iff_ne.2 fun h => List.find?_eq_none.1 hentry x hx (beq_iff_eq.2 h)
  | some e => exact hreleased _ _

/-- The entry of a window that a search found. -/
def windowEntry (n : Nat) (tier : Tier) (w : Window) : UpcomingEntry := ⟨n, tier, w.day, w.start, w.finish, w.estimated, false⟩

/-- A booking's record when it is Scheduled for a window. -/
def scheduledFor (w : Window) (k : Booking) : Booking := { k with state := .scheduled, marks := w.marks }

/-- The blocks with a found window listed and its estimate reported. -/
def windowListed (n : Nat) (tier : Tier) (w : Window) (b : Blocks) : Blocks :=
  reportIf w.estimated (.booking n) .estimated
    (schedule n w.marks { b with upcoming := insertUpcoming (windowEntry n tier w) b.upcoming })

section
variable (n : Nat) (tier : Tier) (now : Instant) (w : Window) (b : Blocks)

theorem insertWindow_eq : insertWindow n tier now w b =
    if (windowListed n tier w b).withinLead now (windowEntry n tier w) then armEntry n (windowListed n tier w b)
    else windowListed n tier w b := rfl

theorem windowListed_bookings : (windowListed n tier w b).bookings = b.bookings.map (rewriteBooking n (scheduledFor w)) := by
  unfold windowListed
  rw [reportIf_records]
  rfl

theorem windowListed_upcoming : (windowListed n tier w b).upcoming = insertUpcoming (windowEntry n tier w) b.upcoming := by
  unfold windowListed
  rw [reportIf_records]
  rfl

theorem insertWindow_bookings : (insertWindow n tier now w b).bookings = b.bookings.map (rewriteBooking n (scheduledFor w)) := by
  rw [insertWindow_eq]
  split
  · exact (armEntry_arming n _).bookings.trans (windowListed_bookings n tier w b)
  · exact windowListed_bookings n tier w b

theorem insertWindow_upcoming : ∃ ns, (insertWindow n tier now w b).upcoming =
    (insertUpcoming (windowEntry n tier w) b.upcoming).map (armedAmong ns) := by
  rw [insertWindow_eq]
  split
  · exact ⟨[n], by rw [armEntry_upcoming, windowListed_upcoming]⟩
  · refine ⟨[], ?_⟩
    have hnone : armedAmong [] = id := funext fun _ => if_neg List.not_mem_nil
    rw [hnone, List.map_id, windowListed_upcoming]

/-- The entry of the window stands in the list. -/
theorem insertWindow_lists : ∃ x ∈ (insertWindow n tier now w b).upcoming,
    x.number = n ∧ x.tier = tier ∧ x.day = w.day ∧ x.start = w.start ∧ x.finish = w.finish ∧ x.estimated = w.estimated := by
  obtain ⟨ns, hupcoming⟩ := insertWindow_upcoming n tier now w b
  refine ⟨armedAmong ns (windowEntry n tier w), ?_, ?_⟩
  · rw [hupcoming]
    exact List.mem_map_of_mem (mem_insertUpcoming.2 (.inl rfl))
  · unfold armedAmong
    split <;> exact ⟨rfl, rfl, rfl, rfl, rfl, rfl⟩

/-- Every entry of the list is the window's or stood there. -/
theorem insertWindow_entries {x : UpcomingEntry} (hx : x ∈ (insertWindow n tier now w b).upcoming) :
    (x.number = n ∧ x.start = w.start) ∨ ∃ y ∈ b.upcoming, y.number = x.number ∧ y.start = x.start := by
  obtain ⟨ns, hupcoming⟩ := insertWindow_upcoming n tier now w b
  rw [hupcoming] at hx
  obtain ⟨y, hy, rfl⟩ := List.mem_map.1 hx
  rw [armedAmong_number, armedAmong_start]
  obtain rfl | hy := mem_insertUpcoming.1 hy
  · exact .inl ⟨rfl, rfl⟩
  · exact .inr ⟨y, hy, rfl, rfl⟩

end

/-! ## Placement (R7, R30, R32) -/

section
variable {b : Blocks} {n : Nat} {k : Booking} {now : Instant} (hk : b.booking? n = some k) (hnow : b.time.now = some now)
include hk hnow

/-- A search that answers a window without a day disposed of has it listed. -/
theorem placeOnly_of_window {w : Window} {x : Option Instant} (quiet : Bool)
    (hsearch : search b.almanac b.time.base now k.fields k.boundary = ⟨.window w, x, false⟩) :
    placeOnly quiet n b = insertWindow n k.fields.tier now w b := by
  unfold placeOnly
  rw [hk, hnow]
  dsimp only
  rw [hsearch]
  rfl

theorem placeOnly_of_stalled {x : Option Instant} (quiet : Bool)
    (hsearch : search b.almanac b.time.base now k.fields k.boundary = ⟨.stalled, x, false⟩) :
    placeOnly quiet n b = if quiet && decide (k.state = .stalled) then setBookingState n .stalled b
      else (setBookingState n .stalled b).report (.booking n) .stalled := by
  unfold placeOnly
  rw [hk, hnow]
  dsimp only
  rw [hsearch]
  rfl

theorem placeOnly_of_noneLeft {x : Option Instant} (quiet : Bool)
    (hsearch : search b.almanac b.time.base now k.fields k.boundary = ⟨.noneLeft, x, false⟩) :
    placeOnly quiet n b = retire n b := by
  unfold placeOnly
  rw [hk, hnow]
  dsimp only
  rw [hsearch]
  rfl

end

theorem placeOnly_of_unset {b : Blocks} {n : Nat} {k : Booking} (hk : b.booking? n = some k) (hnow : b.time.now = none) (quiet : Bool) :
    placeOnly quiet n b = setBookingState n .held b := by
  unfold placeOnly
  rw [hk, hnow]

/-- A booking whose entries all lie later is not due. -/
theorem isDue_of_later {b : Blocks} {n : Nat} {now : Instant} (hnow : b.time.now = some now)
    (h : ∀ x ∈ b.upcoming, x.number = n → now < x.start) : b.isDue n = false := by
  unfold Blocks.isDue
  cases hentry : b.upcoming? n with
  | none => rfl
  | some e =>
    rw [hnow]
    exact decide_eq_false (not_le.2 (h e (List.mem_of_find?_eq_some hentry)
      (beq_iff_eq.1 (List.find?_some (p := fun x : UpcomingEntry => x.number == n) hentry))))

theorem isDue_of_entry {b : Blocks} {n : Nat} {e : UpcomingEntry} {now : Instant} (hnow : b.time.now = some now)
    (hentry : b.upcoming? n = some e) (hdue : e.start ≤ now) : b.isDue n = true := by
  unfold Blocks.isDue
  rw [hentry, hnow]
  exact decide_eq_true hdue

theorem upcoming?_head {b : Blocks} {e : UpcomingEntry} {es : List UpcomingEntry} (h : b.upcoming = e :: es) :
    b.upcoming? e.number = some e := by
  unfold Blocks.upcoming?
  rw [h]
  exact List.find?_cons_of_pos (beq_self_eq_true e.number)

/-! ## The Holding Table as the Active Table gives it (R51) -/

theorem foremost_map {α : Type} {before : α → α → Bool} {g : α → α} (hg : ∀ x y, before (g x) (g y) = before x y) (l : List α) :
    foremost before (l.map g) = (foremost before l).map g := by
  induction l with
  | nil => rfl
  | cons x xs ih =>
    rw [List.map_cons]
    unfold foremost
    rw [ih]
    cases foremost before xs with
    | none => rfl
    | some y =>
      show some (if before (g y) (g x) then g y else g x) = some (g (if before y x then y else x))
      rw [hg, apply_ite g]

/-- The zones held of an occurrence, written. -/
def heldSet (f : Occurrence → Nat) (o : Occurrence) : Occurrence := { o with held := f o }

/-- The resolved entries do not depend on the zones held. -/
theorem resolvedEntry_of_held {a b : Blocks} (f : Occurrence → Nat) (hactive : b.active = a.active.map (heldSet f))
    (hzones : ∀ n, b.zonesOf n = a.zonesOf n) (z : Nat) : b.resolvedEntry z = a.resolvedEntry z := by
  have hclaimants : b.claimants z = (a.claimants z).map (heldSet f) := by
    unfold Blocks.claimants
    rw [hactive, List.filter_map]
    refine congrArg (List.map _) (List.filter_congr fun o _ => ?_)
    exact decide_eq_decide.2 (by rw [show (heldSet f o).number = o.number from rfl, hzones])
  unfold Blocks.resolvedEntry
  rw [hclaimants, winner_eq_foremost, winner_eq_foremost, foremost_map (g := heldSet f) (fun _ _ => rfl), List.length_map,
    Option.map_map]
  rfl

theorem resolvedEntry_congr {a b : Blocks} (hactive : b.active = a.active) (hzones : ∀ n, b.zonesOf n = a.zonesOf n) (z : Nat) :
    b.resolvedEntry z = a.resolvedEntry z := by
  unfold Blocks.resolvedEntry Blocks.claimants
  rw [hactive]
  simp only [hzones]

/-- A re-resolution leaves each zone of its set the entry that its own Active Table gives. -/
theorem resolve_holdingOf_self {b : Blocks} (hsized : Sized false b) (zones : List Nat) (newcomer : Option Nat) {z : Nat} (hz : z < 96)
    (hin : z ∈ zones) : (resolve zones newcomer b).holdingOf z = (resolve zones newcomer b).resolvedEntry z := by
  obtain ⟨-, hholding, -, -, -, -, -, -, hdeferral⟩ := tablesSized_iff.2 hsized
  rw [resolve_holdingOf hdeferral hholding, if_pos ⟨hin, hz⟩]
  exact (resolvedEntry_of_held _ (resolve_active zones newcomer b)
    (zonesOf_congr (by rw [resolve_touches])) z).symm

theorem resolve_holdingOf_other {b : Blocks} (hsized : Sized false b) (zones : List Nat) (newcomer : Option Nat) {z : Nat}
    (hout : z ∉ zones) : (resolve zones newcomer b).holdingOf z = b.holdingOf z := by
  obtain ⟨-, hholding, -, -, -, -, -, -, hdeferral⟩ := tablesSized_iff.2 hsized
  rw [resolve_holdingOf hdeferral hholding, if_neg fun h => hout h.1]

/-! ## Entering the Active Table (R38) -/

/-- The record of an occurrence that enters the Active Table, before its zones held are counted. -/
def newcomerOf (e : UpcomingEntry) (b : Blocks) : Occurrence :=
  let position := min Config.positionMax ((b.time.now.getD e.start) - e.start)
  let follow := entryFollow b.cue ((b.booking? e.number).map (fun k => k.fields.follow)).join position
  ⟨e.number, e.tier, e.day, e.start, e.finish, follow.2, follow.1, 0, b.nextId⟩

/-- A booking's record when its occurrence runs. -/
def runningNow (k : Booking) : Booking := { k with state := .running }

/-- The blocks with an occurrence in the Active Table and its start reported. -/
def joined (e : UpcomingEntry) (b : Blocks) : Blocks :=
  (setBookingState e.number .running { b with active := b.active ++ [newcomerOf e b], nextId := b.nextId + 1 }).report
    (.booking e.number) .started

/-- A Base occurrence reloads the settle counts. -/
def baseReloaded (e : UpcomingEntry) (b : Blocks) : Blocks := if e.tier = .base then reloadSettle b else b

theorem enter_eq (e : UpcomingEntry) (extra : List Nat) (b : Blocks) : enter e extra b =
    baseReloaded e (resolve ((joined e b).zonesOf e.number ++ extra) (some b.nextId) (joined e b)) := rfl

/-- Only the settle counts may differ. -/
theorem baseReloaded_chain (e : UpcomingEntry) (b : Blocks) : baseReloaded e b = { b with chain := (baseReloaded e b).chain } := by
  unfold baseReloaded
  split <;> rfl

theorem baseReloaded_holdingOf (e : UpcomingEntry) (b : Blocks) (z : Nat) : (baseReloaded e b).holdingOf z = b.holdingOf z :=
  holdingOf_congr (by rw [baseReloaded_chain]) z

theorem baseReloaded_resolvedEntry (e : UpcomingEntry) (b : Blocks) (z : Nat) :
    (baseReloaded e b).resolvedEntry z = b.resolvedEntry z :=
  resolvedEntry_congr (by rw [baseReloaded_chain]) (zonesOf_congr (by rw [baseReloaded_chain])) z

section
variable (e : UpcomingEntry) (extra : List Nat) (b : Blocks)

theorem joined_eq : joined e b = { b with
    bookings := b.bookings.map (rewriteBooking e.number runningNow)
    active := b.active ++ [newcomerOf e b]
    nextId := b.nextId + 1
    notices := (joined e b).notices } := report_eq _ _ _

theorem joined_zonesOf (n : Nat) : (joined e b).zonesOf n = b.zonesOf n :=
  zonesOf_of_rewritten (g := runningNow) (fun _ => rfl) (fun _ => rfl) (n := e.number) (by rw [joined_eq]) n

theorem enter_active : ∃ f, (enter e extra b).active = (b.active ++ [newcomerOf e b]).map (heldSet f) := by
  rw [enter_eq, baseReloaded_chain, resolve_active, joined_eq]
  exact ⟨_, rfl⟩

theorem enter_bookings : (enter e extra b).bookings = b.bookings.map (rewriteBooking e.number runningNow) := by
  rw [enter_eq, baseReloaded_chain, resolve_touches, joined_eq]

theorem enter_upcoming : (enter e extra b).upcoming = b.upcoming := by
  rw [enter_eq, baseReloaded_chain, resolve_touches, joined_eq]

theorem enter_zonesOf (n : Nat) : (enter e extra b).zonesOf n = b.zonesOf n :=
  zonesOf_of_rewritten (g := runningNow) (fun _ => rfl) (fun _ => rfl) (enter_bookings e extra b) n

theorem enter_told : Told (enter e extra b) (.booking e.number) .started := by
  have htold := (told_stable (.booking e.number) .started).resolve (b := joined e b) (report_told _ _ _)
    ((joined e b).zonesOf e.number ++ extra) (some b.nextId)
  rw [enter_eq]
  unfold baseReloaded
  split
  · exact (told_stable _ _).same _ _ htold rfl rfl
  · exact htold

variable {b} (hsized : Sized false b)
include hsized

theorem joined_sized : Sized false (joined e b) :=
  report_sized (b := setBookingState e.number .running { b with active := b.active ++ [newcomerOf e b], nextId := b.nextId + 1 })
    hsized _ _

theorem enter_holdingOf {z : Nat} (hz : z < 96) (hin : z ∈ b.zonesOf e.number ++ extra) :
    (enter e extra b).holdingOf z = (enter e extra b).resolvedEntry z := by
  rw [enter_eq, baseReloaded_holdingOf, baseReloaded_resolvedEntry]
  exact resolve_holdingOf_self (joined_sized e hsized) _ _ hz (by rw [joined_zonesOf]; exact hin)

theorem enter_holdingOf_other {z : Nat} (hout : z ∉ b.zonesOf e.number ++ extra) : (enter e extra b).holdingOf z = b.holdingOf z := by
  rw [enter_eq, baseReloaded_holdingOf, resolve_holdingOf_other (joined_sized e hsized) _ _ (by rw [joined_zonesOf]; exact hout)]
  exact holdingOf_congr (by rw [joined_eq]) z

end

end Sys2Proof.Machine

/-! PROOFS. Arming, starts and ends of occurrences (R35 to R42): obligation O46. -/

namespace Sys2Proof.Machine

/-! ## Arm claims (R35, R170) -/

theorem mem_insertAsc {x y : Nat} {l : List Nat} : y ∈ insertAsc x l ↔ y = x ∨ y ∈ l := by
  induction l with
  | nil => exact List.mem_singleton.trans (or_iff_left List.not_mem_nil).symm
  | cons z l ih =>
    unfold insertAsc
    split
    · exact List.mem_cons
    split
    · next h => rw [h]; simp
    · rw [List.mem_cons, ih, List.mem_cons]
      exact or_left_comm

/-- A write of a feeder that keeps a part of it keeps that part of every feeder. -/
theorem updateFeeder_keeps {β : Type} (part : Feeder → β) {g : Feeder → Feeder} (hg : ∀ x, part (g x) = part x) (f : Nat) (b : Blocks)
    (m : Nat) : part ((b.updateFeeder f g).feeder m) = part (b.feeder m) := by
  obtain hm | rfl := ne_or_eq m f
  · rw [updateFeeder_feeder_other hm]
  by_cases hin : m < b.feeders.length
  · rw [updateFeeder_feeder_self b m g hin, hg]
  · refine congrArg part (feeder_congr ?_ m)
    rw [updateFeeder_feeders, List.set_eq_of_length_le (not_lt.1 hin)]

theorem setContactor_armClaims (f : Nat) (closed : Bool) (b : Blocks) (m : Nat) :
    ((setContactor f closed b).feeder m).armClaims = (b.feeder m).armClaims := by
  unfold setContactor
  split
  · rfl
  · rw [feeder_congr (report_feeders _ _ _)]
    refine updateFeeder_keeps Feeder.armClaims ?_ f b m
    exact fun _ => rfl

theorem evaluateFeeder_armClaims (f : Nat) (b : Blocks) (m : Nat) :
    ((evaluateFeeder f b).feeder m).armClaims = (b.feeder m).armClaims := by
  unfold evaluateFeeder
  split
  · rfl
  split
  · rw [setContactor_armClaims]
    refine updateFeeder_keeps Feeder.armClaims ?_ f b m
    exact fun _ => rfl
  split
  · refine updateFeeder_keeps Feeder.armClaims ?_ f b m
    exact fun _ => rfl
  · rfl

theorem reevaluateFeeder_armClaims (f : Nat) (b : Blocks) (m : Nat) :
    ((reevaluateFeeder f b).feeder m).armClaims = (b.feeder m).armClaims := by
  unfold reevaluateFeeder
  split
  · rfl
  · exact evaluateFeeder_armClaims f b m

theorem claimFeeder_records {b : Blocks} (h : b.deferral = none) (n f : Nat) : TouchesRecords b (claimFeeder n f b) :=
  TouchesRecords.trans (b := b.updateFeeder f (fun x => { x with armClaims := insertAsc n x.armClaims })) rfl
    (reevaluateFeeder_records (b := b.updateFeeder f _) h f)

theorem mem_claimFeeder_armClaims {b : Blocks} {f : Nat} (hf : f < b.feeders.length) (n m x : Nat) :
    x ∈ ((claimFeeder n f b).feeder m).armClaims ↔ x ∈ (b.feeder m).armClaims ∨ (x = n ∧ m = f) := by
  unfold claimFeeder
  rw [reevaluateFeeder_armClaims, updateFeeder_feeder b f m _ hf]
  split
  · next hm => rw [mem_insertAsc, hm, or_comm, and_iff_left rfl]
  · next hm => exact (or_iff_left fun h => hm h.2).symm

/-- What the claims of a list of feeders write: their arm claims, and what Feeder Control makes of them. -/
theorem claimFeeders_writes (n : Nat) {l : List Nat} (hl : ∀ f ∈ l, f < 4) {b : Blocks} (hsized : Sized false b) :
    TouchesRecords b (forEach l (claimFeeder n) b) ∧ ∀ m x,
      x ∈ ((forEach l (claimFeeder n) b).feeder m).armClaims ↔ x ∈ (b.feeder m).armClaims ∨ (x = n ∧ m ∈ l) := by
  induction l generalizing b with
  | nil => exact ⟨.refl b, fun m x => (or_iff_left fun h => List.not_mem_nil h.2).symm⟩
  | cons f l ih =>
    obtain ⟨-, -, -, hfeeders, -, -, -, -, hdeferral⟩ := tablesSized_iff.2 hsized
    obtain ⟨hrecords, hclaims⟩ := ih (fun g hg => hl g (List.mem_cons_of_mem f hg)) (claimFeeder_sized n f hsized)
    refine ⟨(claimFeeder_records hdeferral n f).trans hrecords, fun m x => ?_⟩
    rw [forEach_cons, hclaims, mem_claimFeeder_armClaims (hfeeders ▸ hl f List.mem_cons_self), List.mem_cons, or_assoc,
      ← and_or_left]

/-- The feeders of a zone set are those of its configured zones. -/
theorem mem_feedersOf {b : Blocks} {zones : List Nat} {f : Nat} :
    f ∈ b.feedersOf zones ↔ f < 4 ∧ ∃ z ∈ zones, ∃ c, b.zone? z = some c ∧ c.feeder = f := by
  unfold Blocks.feedersOf
  rw [List.mem_filter, mem_allFeeders, List.any_eq_true]
  refine and_congr_right fun _ => exists_congr fun z => and_congr_right fun _ => ?_
  cases hz : b.zone? z with
  | none => simp
  | some c => simp

/-- What an arming writes: the armed flag, and its booking's arm claims at the feeders of its zones (R35). -/
theorem armEntry_writes (n : Nat) {b : Blocks} (hsized : Sized false b) :
    TouchesRecords (entryMarked n b) (armEntry n b) ∧ ∀ f < 4, ∀ m,
      m ∈ ((armEntry n b).feeder f).armClaims ↔ m ∈ (b.feeder f).armClaims ∨
        (m = n ∧ ∃ z ∈ b.zonesOf n, ∃ c, b.zone? z = some c ∧ c.feeder = f) := by
  rw [armEntry_eq]
  obtain ⟨hrecords, hclaims⟩ := claimFeeders_writes n (l := (entryMarked n b).feedersOf ((entryMarked n b).zonesOf n))
    (fun f hf => (mem_feedersOf.1 hf).1) (b := entryMarked n b) hsized
  refine ⟨hrecords, fun f hf m => ?_⟩
  rw [hclaims, mem_feedersOf, and_iff_right hf]
  rfl

/-- ENTRY_ARMED at the lead of an unarmed entry (R35). -/
theorem entryArmed_arms {s : State} {n : Nat} {e : UpcomingEntry} {now : Int} (hentry : s.blocks.upcoming? n = some e)
    (hnow : s.blocks.time.now = some now) (hlead : e.start - (s.blocks.armLead : Int) * 1000 ≤ now) (hearly : now < e.start)
    (harmed : e.armed = false) : exec (.entryArmed n) s = .next { s with blocks := armEntry n s.blocks } := by
  refine exec_event_eq rfl rfl ?_
  show reachLead n s.blocks = _
  unfold reachLead
  rw [hentry, hnow]
  exact if_pos (by rw [(withinLead_iff s.blocks now e).2 ⟨hlead, hearly⟩, harmed]; rfl)

/-! ## A start (R36, R37) -/

section
variable {b : Blocks} {e : UpcomingEntry} {n : Nat} (hentry : b.upcoming? n = some e)
include hentry

theorem victimOf_of_entry {v : Occurrence} (hvictim : victim b.active = some v) :
    b.victimOf n = if 32 ≤ b.active.length ∧ v.tier.rank < e.tier.rank then some v.number else none := by
  unfold Blocks.victimOf
  rw [hentry, hvictim]
  show (if decide (32 ≤ b.active.length) && decide (v.tier.rank < e.tier.rank) then some v.number else none) = _
  simp only [Bool.and_eq_true, decide_eq_true_eq]

theorem victimOf_of_room (hroom : b.active.length < 32) : b.victimOf n = none := by
  cases hvictim : victim b.active with
  | none => unfold Blocks.victimOf; rw [hentry, hvictim]
  | some v => rw [victimOf_of_entry hentry hvictim, if_neg fun h => absurd h.1 (not_le.2 hroom)]

theorem startOnce_of_room (hroom : b.active.length < 32) : startOnce n b = enter e [] (removeEntry n b) := by
  have hroom' : (removeEntry n b).active.length < Config.activePlaces := by rw [(removeEntry_arming n b).active]; exact hroom
  unfold startOnce
  rw [hentry]
  exact if_pos hroom'

theorem startOnce_of_full {v : Occurrence} (hfull : b.active.length = 32) (hvictim : victim b.active = some v) :
    startOnce n b = if v.tier.rank < e.tier.rank then
      enter e ((removeEntry n b).zonesOf v.number) (evictVictim v (removeEntry n b)) else skipStart e (removeEntry n b) := by
  have hfull' : ¬(removeEntry n b).active.length < Config.activePlaces := by
    rw [(removeEntry_arming n b).active, hfull]
    exact lt_irrefl 32
  unfold startOnce
  rw [hentry]
  dsimp only
  rw [if_neg hfull', (removeEntry_arming n b).active, hvictim]

/-- An entry that finds room enters (R36, R38). -/
theorem takeStart_of_room (hroom : b.active.length < 32) : takeStart n b = enter e [] (removeEntry n b) := by
  unfold takeStart
  rw [victimOf_of_room hentry hroom]
  exact startOnce_of_room hentry hroom

/-- A newcomer that does not outrank the victim of a full table is Skipped (R40). -/
theorem takeStart_skips {v : Occurrence} (hfull : b.active.length = 32) (hvictim : victim b.active = some v)
    (hrank : e.tier.rank ≤ v.tier.rank) : takeStart n b = skipStart e (removeEntry n b) := by
  unfold takeStart
  rw [victimOf_of_entry hentry hvictim, if_neg fun h => absurd h.2 (not_lt.2 hrank)]
  exact (startOnce_of_full hentry hfull hvictim).trans (if_neg (not_lt.2 hrank))

/-- A newcomer that outranks the victim of a full table evicts it (R39), whose own booking is not due at once. -/
theorem takeStart_evicts {v : Occurrence} (hfull : b.active.length = 32) (hvictim : victim b.active = some v)
    (hrank : v.tier.rank < e.tier.rank)
    (hlater : (enter e ((removeEntry n b).zonesOf v.number) (evictVictim v (removeEntry n b))).isDue v.number = false) :
    takeStart n b = enter e ((removeEntry n b).zonesOf v.number) (evictVictim v (removeEntry n b)) := by
  have hstart := (startOnce_of_full hentry hfull hvictim).trans (if_pos hrank)
  unfold takeStart
  rw [victimOf_of_entry hentry hvictim, if_pos ⟨hfull.ge, hrank⟩, hstart]
  dsimp only
  rw [hlater]
  exact if_neg Bool.false_ne_true

end

/-- OCCURRENCE_START takes the due entry at the head of the list (R36). -/
theorem exec_occurrenceStart {s : State} {e : UpcomingEntry} {es : List UpcomingEntry} {now : Int}
    (hhead : s.blocks.upcoming = e :: es) (hnow : s.blocks.time.now = some now) (hdue : e.start ≤ now) :
    exec .occurrenceStart s = .next { s with blocks := takeStart e.number s.blocks } := by
  refine exec_event_eq rfl rfl ?_
  show reachStart s.blocks = _
  unfold reachStart
  rw [hhead]
  exact if_pos (isDue_of_entry hnow (upcoming?_head hhead) hdue)

theorem removeEntry_head {b : Blocks} {e : UpcomingEntry} {es : List UpcomingEntry} (hhead : b.upcoming = e :: es) :
    (removeEntry e.number b).upcoming = es.filter (fun x => x.number != e.number) := by
  rw [removeEntry_upcoming, hhead]
  exact List.filter_cons_of_neg (by simp)

/-! ## What a newcomer starts with (R38, R131) -/

section
variable {b : Blocks} {e : UpcomingEntry} {k : Booking} {now : Int} (hk : b.booking? e.number = some k)
  (hnow : b.time.now = some now)
include hk hnow

theorem newcomerOf_unfollowed (h : k.fields.follow = none) :
    (newcomerOf e b).follow = .unfollowed ∧ (newcomerOf e b).position = min 2147483647 (now - e.start) := by
  unfold newcomerOf
  rw [hk, hnow]
  simp [h, entryFollow, Config.positionMax]

theorem newcomerOf_awaiting {off : Nat} (h : k.fields.follow = some off) (hunlocked : b.cue.state ≠ .locked) :
    (newcomerOf e b).follow = .awaiting ∧ (newcomerOf e b).position = min 2147483647 (now - e.start) := by
  unfold newcomerOf
  rw [hk, hnow]
  simp [h, entryFollow, Config.positionMax, hunlocked]

omit hnow in
theorem newcomerOf_following {off : Nat} (h : k.fields.follow = some off) (hlocked : b.cue.state = .locked) :
    (newcomerOf e b).follow = .following ∧ (newcomerOf e b).position = ((b.cue.estimate.getD 0 : Nat) : Int) - off := by
  unfold newcomerOf
  rw [hk]
  simp [h, entryFollow, hlocked, CueReceiver.positionFor]

end

/-- A newcomer's fields do not change with what a placement writes beside its booking. -/
theorem mem_enter_active (e : UpcomingEntry) (extra : List Nat) (b : Blocks) :
    ∃ f, heldSet f (newcomerOf e b) ∈ (enter e extra b).active := by
  obtain ⟨f, hactive⟩ := enter_active e extra b
  refine ⟨f, ?_⟩
  rw [hactive]
  exact List.mem_map_of_mem (List.mem_append_right _ List.mem_cons_self)

/-- The occupants stay, their zones held counted afresh. -/
theorem enter_keeps_occupants (e : UpcomingEntry) (extra : List Nat) {b : Blocks} {p : Occurrence} (hp : p ∈ b.active) :
    ∃ p' ∈ (enter e extra b).active, p' = { p with held := p'.held } := by
  obtain ⟨f, hactive⟩ := enter_active e extra b
  refine ⟨heldSet f p, ?_, rfl⟩
  rw [hactive]
  exact List.mem_map_of_mem (List.mem_append_left _ hp)

/-! ## The disposal of an occurrence (R5, R31) -/

/-- A disposal writes its booking and reports. -/
theorem dispose_eq (n : Nat) (o : LastOutcome) (x : Option Instant) (b : Blocks) : dispose n o x b = { b with
    bookings := (dispose n o x b).bookings, notices := (dispose n o x b).notices } := by
  unfold dispose setBoundary Blocks.updateBooking Blocks.reportEnded Blocks.submit
  dsimp only
  split <;> rfl

theorem dispose_booking? (n : Nat) (o : LastOutcome) (x : Option Instant) (b : Blocks) (m : Nat) :
    (dispose n o x b).booking? m = if m = n then (b.booking? m).map (disposed o x) else b.booking? m :=
  booking?_of_rewritten (g := disposed o x) (fun _ => rfl) (dispose_bookings n o x b) m

theorem dispose_zonesOf (n : Nat) (o : LastOutcome) (x : Option Instant) (b : Blocks) (m : Nat) :
    (dispose n o x b).zonesOf m = b.zonesOf m :=
  zonesOf_of_rewritten (g := disposed o x) (fun _ => rfl) (fun _ => rfl) (dispose_bookings n o x b) m

theorem insertWindow_booking? (n : Nat) (tier : Tier) (now : Instant) (w : Window) (b : Blocks) (m : Nat) :
    (insertWindow n tier now w b).booking? m = if m = n then (b.booking? m).map (scheduledFor w) else b.booking? m :=
  booking?_of_rewritten (g := scheduledFor w) (fun _ => rfl) (insertWindow_bookings n tier now w b) m

theorem insertWindow_zonesOf (n : Nat) (tier : Tier) (now : Instant) (w : Window) (b : Blocks) (m : Nat) :
    (insertWindow n tier now w b).zonesOf m = b.zonesOf m :=
  zonesOf_of_rewritten (g := scheduledFor w) (fun _ => rfl) (fun _ => rfl) (insertWindow_bookings n tier now w b) m

theorem enter_booking? (e : UpcomingEntry) (extra : List Nat) (b : Blocks) (m : Nat) :
    (enter e extra b).booking? m = if m = e.number then (b.booking? m).map runningNow else b.booking? m :=
  booking?_of_rewritten (g := runningNow) (fun _ => rfl) (enter_bookings e extra b) m

/-! ## A disposed occurrence whose booking is placed again (R31, R42) -/

/-- What stands once a booking's occurrence was disposed of and its booking Scheduled for a window. -/
structure Replaced (a : Blocks) (n : Nat) (k : Booking) (o : LastOutcome) (x : Option Instant) (w : Window) (b : Blocks) : Prop where
  kept : TouchesPlacement a b
  booking : b.booking? n = some (scheduledFor w (disposed o x k))
  others : ∀ m, m ≠ n → b.booking? m = a.booking? m
  listed : ∃ e ∈ b.upcoming, e.number = n ∧ e.day = w.day ∧ e.start = w.start ∧ e.finish = w.finish
  entries : ∀ e ∈ b.upcoming, (e.number = n ∧ e.start = w.start) ∨ ∃ y ∈ a.upcoming, y.number = e.number ∧ y.start = e.start
  told : EndedTold n o b

section
variable {b : Blocks} {n : Nat} {k : Booking} {now : Instant} {w : Window} {x bd : Option Instant}
  (hk : b.booking? n = some k) (hnow : b.time.now = some now)
  (hsearch : search b.almanac b.time.base now k.fields x = ⟨.window w, bd, false⟩)
include hk hnow hsearch

theorem dispose_replaced (o : LastOutcome) : Replaced b n k o x w (placeOnly false n (dispose n o x b)) := by
  have hplacement := dispose_placement n o x b
  have hbooking : (dispose n o x b).booking? n = some (disposed o x k) := by
    rw [dispose_booking?, if_pos rfl, hk]
    rfl
  have hplaced : placeOnly false n (dispose n o x b) = insertWindow n k.fields.tier now w (dispose n o x b) := by
    refine placeOnly_of_window (b := dispose n o x b) hbooking (hplacement.time ▸ hnow) (x := bd) false ?_
    rw [hplacement.almanac, hplacement.time]
    exact hsearch
  rw [hplaced]
  obtain ⟨e, he, hnumber, -, hday, hstart, hfinish, -⟩ := insertWindow_lists n k.fields.tier now w (dispose n o x b)
  refine ⟨hplacement.trans (insertWindow_placement _ _ _ _ _), ?_,
    fun m hm => by rw [insertWindow_booking?, if_neg hm, dispose_booking?, if_neg hm], ⟨e, he, hnumber, hday, hstart, hfinish⟩, fun e he => ?_,
    (endedTold_stable n o).insertWindow (dispose_endedTold n o x b) _ _ _ _⟩
  · rw [insertWindow_booking?, if_pos rfl, hbooking]
    rfl
  · have hupcoming : (dispose n o x b).upcoming = b.upcoming := by rw [dispose_eq]
    rw [← hupcoming]
    exact insertWindow_entries _ _ _ _ _ he

end

/-! ## Clauses of O46 -/

section
variable {s : State} {e : UpcomingEntry} {es : List UpcomingEntry} {k : Booking} {now : Int} (hsized : TablesSized s.blocks)
  (hhead : s.blocks.upcoming = e :: es) (hnow : s.blocks.time.now = some now) (hdue : e.start ≤ now)
  (hk : s.blocks.booking? e.number = some k)

/-- The blocks of a start with its entry taken from the list. -/
def taken (e : UpcomingEntry) (b : Blocks) : Blocks := removeEntry e.number b

theorem taken_booking? (e : UpcomingEntry) (b : Blocks) (n : Nat) : (taken e b).booking? n = b.booking? n :=
  booking?_congr (removeEntry_arming e.number b).bookings n

theorem taken_zonesOf (e : UpcomingEntry) (b : Blocks) (n : Nat) : (taken e b).zonesOf n = b.zonesOf n :=
  zonesOf_congr (removeEntry_arming e.number b).bookings n

include hsized hhead hnow hdue hk

/-- O46: a start that finds room. -/
theorem occurrenceStart_enters (hroom : s.blocks.active.length < 32) :
    ∃ (t : State) (o : Occurrence), exec .occurrenceStart s = .next t ∧ t.port = s.port ∧
      t.blocks.upcoming = es.filter (fun x => x.number != e.number) ∧ o ∈ t.blocks.active ∧ o.id = s.blocks.nextId ∧
      o.number = e.number ∧ o.tier = e.tier ∧ o.day = e.day ∧ o.start = e.start ∧ o.finish = e.finish ∧
      t.blocks.active.length = s.blocks.active.length + 1 ∧
      (∀ p ∈ s.blocks.active, ∃ p' ∈ t.blocks.active, p' = { p with held := p'.held }) ∧
      (k.fields.follow = none → o.follow = .unfollowed ∧ o.position = min 2147483647 (now - e.start)) ∧
      (∀ off, k.fields.follow = some off → s.blocks.cue.state ≠ .locked →
        o.follow = .awaiting ∧ o.position = min 2147483647 (now - e.start)) ∧
      (∀ off, k.fields.follow = some off → s.blocks.cue.state = .locked →
        o.follow = .following ∧ o.position = ((s.blocks.cue.estimate.getD 0 : Nat) : Int) - off) ∧
      t.blocks.bookings =
        s.blocks.bookings.map (fun b => if b.number = e.number then { b with state := .running } else b) ∧
      (∀ z, z ∉ k.fields.zones → t.blocks.holdingOf z = s.blocks.holdingOf z) ∧
      (∀ z < 96, z ∈ k.fields.zones → t.blocks.holdingOf z = t.blocks.resolvedEntry z) ∧
      Told t.blocks (.booking e.number) .started ∧ t.blocks.time = s.blocks.time := by
  have hkept := removeEntry_arming e.number s.blocks
  have hcue : (taken e s.blocks).cue = s.blocks.cue := by unfold taken; rw [hkept]
  have hactive : (taken e s.blocks).active = s.blocks.active := hkept.active
  have htime : (taken e s.blocks).time = s.blocks.time := hkept.time
  have hbooking : (taken e s.blocks).booking? e.number = some k := (taken_booking? e s.blocks e.number).trans hk
  have htakenSized : Sized false (taken e s.blocks) := removeEntry_sized e.number (tablesSized_iff.1 hsized)
  have hzones : (taken e s.blocks).zonesOf e.number ++ [] = k.fields.zones := by
    rw [List.append_nil, zonesOf_of_booking hbooking]
  obtain ⟨f, hin⟩ := mem_enter_active e [] (taken e s.blocks)
  refine ⟨{ s with blocks := enter e [] (taken e s.blocks) }, _,
    (exec_occurrenceStart hhead hnow hdue).trans (by rw [takeStart_of_room (upcoming?_head hhead) hroom]; rfl), rfl,
    (enter_upcoming e [] _).trans (removeEntry_head hhead), hin, ?_, rfl, rfl, rfl, rfl, rfl, ?_, fun p hp => ?_, fun h => ?_,
    fun off h hunlocked => ?_, fun off h hlocked => ?_, ?_, fun z hz => ?_, fun z hz hzin => ?_, enter_told e [] _, ?_⟩
  · show (taken e s.blocks).nextId = _
    unfold taken
    rw [hkept]
  · rw [enter_active_length, hactive]
  · exact enter_keeps_occupants e [] (hactive ▸ hp)
  · exact newcomerOf_unfollowed hbooking (htime ▸ hnow) h
  · exact newcomerOf_awaiting hbooking (htime ▸ hnow) h (hcue ▸ hunlocked)
  · rw [← hcue]
    exact newcomerOf_following hbooking h (hcue ▸ hlocked)
  · rw [enter_bookings, taken, hkept.bookings]
    rfl
  · rw [enter_holdingOf_other e [] htakenSized (by rw [hzones]; exact hz)]
    exact holdingOf_congr hkept.holding z
  · exact enter_holdingOf e [] htakenSized hz (by rw [hzones]; exact hzin)
  · rw [← htime, enter_touches e [] (taken e s.blocks)]

omit hsized in
/-- O46: a newcomer that does not outrank the victim. -/
theorem occurrenceStart_skips {v : Occurrence} {w : Window} {bd : Option Instant} (hfull : s.blocks.active.length = 32)
    (hvictim : victim s.blocks.active = some v) (hrank : e.tier.rank ≤ v.tier.rank)
    (hsearch : search s.blocks.almanac s.blocks.time.base now k.fields (some e.finish) = ⟨.window w, bd, false⟩) :
    ∃ t : State, exec .occurrenceStart s = .next t ∧ t.port = s.port ∧ t.blocks.active = s.blocks.active ∧
      t.blocks.holding = s.blocks.holding ∧ t.blocks.zones = s.blocks.zones ∧
      t.blocks.booking? e.number = some { k with
        state := .scheduled, lastOutcome := .skipped, boundary := some e.finish, marks := w.marks } ∧
      (∃ x ∈ t.blocks.upcoming, x.number = e.number ∧ x.day = w.day ∧ x.start = w.start ∧ x.finish = w.finish) ∧
      (ChangeKind.ended ∈ s.blocks.mask → ∃ x ∈ t.blocks.notices, x.record = .booking e.number ∧
        ChangeKind.ended ∈ x.changes ∧ x.outcome = some .skipped) ∧
      t.blocks.time = s.blocks.time := by
  have hplacement : TouchesPlacement s.blocks (taken e s.blocks) := removeEntry_placement e.number s.blocks
  have hreplaced := dispose_replaced (b := taken e s.blocks) (n := e.number) ((taken_booking? e s.blocks _).trans hk)
    (hplacement.time ▸ hnow) (x := some e.finish) (w := w) (bd := bd)
    (by rw [hplacement.almanac, hplacement.time]; exact hsearch) .skipped
  have hall := hplacement.trans hreplaced.kept
  refine ⟨{ s with blocks := skipStart e (taken e s.blocks) }, (exec_occurrenceStart hhead hnow hdue).trans
    (by rw [takeStart_skips (upcoming?_head hhead) hfull hvictim hrank]; rfl), rfl, hall.active, hall.holding, hall.zones,
    hreplaced.booking, hreplaced.listed, fun hmask => hreplaced.told (hall.mask.symm ▸ hmask), hall.time⟩

end

/-! ## The eviction of a victim (R39, R42) -/

/-- With its id its own, an occupant's leaving takes one place. -/
theorem filter_id_length {l : List Occurrence} {v : Occurrence} (hv : v ∈ l) (hnodup : (l.map (fun p => p.id)).Nodup) :
    (l.filter (fun p => p.id != v.id)).length + 1 = l.length := by
  have hone : (l.filter (fun p => p.id == v.id)).length = 1 := by
    rw [← List.countP_eq_length_filter]
    have hcount := List.count_eq_one_of_mem hnodup (List.mem_map_of_mem (f := fun p : Occurrence => p.id) hv)
    rwa [List.count, List.countP_map] at hcount
  have hsplit := List.length_eq_length_filter_add (l := l) (fun p => p.id != v.id)
  have hback : (fun p : Occurrence => !(p.id != v.id)) = fun p => p.id == v.id := funext fun p => Bool.not_not _
  rw [hback, hone] at hsplit
  exact hsplit.symm

/-- The blocks with an entry taken and the victim's record out of the table. -/
def vacated (v : Occurrence) (e : UpcomingEntry) (b : Blocks) : Blocks := dropRecord v (taken e b)

section
variable (v : Occurrence) (e : UpcomingEntry) (b : Blocks)

theorem vacated_placement : TouchesPlacement (dropRecord v b) (vacated v e b) := by
  unfold TouchesPlacement vacated dropRecord taken
  rw [removeEntry_placement e.number b]

theorem vacated_booking? (n : Nat) : (vacated v e b).booking? n = b.booking? n := taken_booking? e b n

theorem vacated_upcoming : (vacated v e b).upcoming = b.upcoming.filter (fun x => x.number != e.number) :=
  removeEntry_upcoming e.number b

end

section
variable {b : Blocks} {e : UpcomingEntry} {es : List UpcomingEntry} {k kv : Booking} {v : Occurrence} {now : Int} {w : Window}
  {bd : Option Instant}

/-- The victim's booking stands Scheduled again past now, its occurrence gone (R31, R39). -/
theorem evictVictim_replaced (e : UpcomingEntry) (hnow : b.time.now = some now) (hkv : b.booking? v.number = some kv)
    (hsearch : search b.almanac b.time.base now kv.fields (some now) = ⟨.window w, bd, false⟩) :
    Replaced (vacated v e b) v.number kv .evicted (some now) w (evictVictim v (taken e b)) := by
  have hplacement := vacated_placement v e b
  have htaken : (taken e b).time.now = some now := (removeEntry_arming e.number b).time ▸ hnow
  have hreplaced := dispose_replaced (b := vacated v e b) (n := v.number) ((vacated_booking? v e b _).trans hkv) htaken
    (x := some now) (w := w) (bd := bd) (by rw [hplacement.almanac, hplacement.time]; exact hsearch) .evicted
  unfold evictVictim
  rw [htaken]
  exact hreplaced

/-- The victim's booking is not due again in the same event. -/
theorem enter_waits {i : Blocks} (hreplaced : Replaced (vacated v e b) v.number kv .evicted (some now) w i)
    (hnow : b.time.now = some now) (hunlisted : b.upcoming? v.number = none) (hlater : now < w.start) (extra : List Nat) :
    (enter e extra i).isDue v.number = false := by
  have htime : (enter e extra i).time = i.time := by rw [enter_touches e extra i]
  have hset : (enter e extra i).time.now = some now := by
    rw [htime, hreplaced.kept.time, (vacated_placement v e b).time]
    exact hnow
  refine isDue_of_later hset fun x hx hxn => ?_
  rw [enter_upcoming] at hx
  obtain ⟨-, hstart⟩ | ⟨y, hy, hyn, -⟩ := hreplaced.entries x hx
  · rw [hstart]
    exact hlater
  · rw [vacated_upcoming] at hy
    exact absurd (beq_iff_eq.2 (hyn.trans hxn)) (List.find?_eq_none.1 hunlisted y (List.mem_of_mem_filter hy))

/-- No record of the victim's id is left. -/
theorem enter_ids {i : Blocks} (hactive : i.active = b.active.filter (fun p => p.id != v.id)) (hfresh : i.nextId ≠ v.id)
    (extra : List Nat) : ∀ p ∈ (enter e extra i).active, p.id ≠ v.id := by
  intro p hp
  obtain ⟨g, htable⟩ := enter_active e extra i
  rw [htable] at hp
  obtain ⟨q, hq, rfl⟩ := List.mem_map.1 hp
  obtain hq | hq := List.mem_append.1 hq
  · rw [hactive] at hq
    exact bne_iff_ne.1 (List.mem_filter.1 hq).2
  · obtain rfl := List.mem_singleton.1 hq
    exact hfresh

end

section
variable {s : State} {e : UpcomingEntry} {es : List UpcomingEntry} {k kv : Booking} {v : Occurrence} {now : Int} {w : Window}
  {bd : Option Instant}

/-- O46: a newcomer that outranks the victim. -/
theorem occurrenceStart_evicts (hsized : TablesSized s.blocks) (hhead : s.blocks.upcoming = e :: es)
    (hnow : s.blocks.time.now = some now) (hdue : e.start ≤ now) (hfull : s.blocks.active.length = 32)
    (hvictim : victim s.blocks.active = some v) (hrank : v.tier.rank < e.tier.rank) (hk : s.blocks.booking? e.number = some k)
    (hkv : s.blocks.booking? v.number = some kv) (hother : v.number ≠ e.number) (hunlisted : s.blocks.upcoming? v.number = none)
    (hnodup : (s.blocks.active.map (fun p => p.id)).Nodup) (hfresh : s.blocks.nextId ≠ v.id)
    (hsearch : search s.blocks.almanac s.blocks.time.base now kv.fields (some now) = ⟨.window w, bd, false⟩)
    (hlater : now < w.start) :
    ∃ (t : State) (o : Occurrence), exec .occurrenceStart s = .next t ∧ t.port = s.port ∧ t.blocks.active.length = 32 ∧
      (∀ p ∈ t.blocks.active, p.id ≠ v.id) ∧ o ∈ t.blocks.active ∧ o.number = e.number ∧ o.start = e.start ∧
      o.finish = e.finish ∧ Told t.blocks (.booking e.number) .started ∧
      t.blocks.booking? e.number = some { k with state := .running } ∧
      t.blocks.booking? v.number = some { kv with
        state := .scheduled, lastOutcome := .evicted, runCount := min 65535 (kv.runCount + 1), boundary := some now
        marks := w.marks } ∧
      (∃ x ∈ t.blocks.upcoming, x.number = v.number ∧ x.day = w.day ∧ x.start = w.start ∧ x.finish = w.finish) ∧
      (ChangeKind.ended ∈ s.blocks.mask → ∃ x ∈ t.blocks.notices, x.record = .booking v.number ∧
        ChangeKind.ended ∈ x.changes ∧ x.outcome = some .evicted) ∧
      (∀ z < 96, (z ∈ k.fields.zones ∨ z ∈ kv.fields.zones) → t.blocks.holdingOf z = t.blocks.resolvedEntry z) ∧
      t.blocks.time = s.blocks.time := by
  have hreplaced := evictVictim_replaced e hnow hkv hsearch
  have hsizedNow : Sized false (evictVictim v (taken e s.blocks)) :=
    evictVictim_sized v (removeEntry_sized e.number (tablesSized_iff.1 hsized))
  have hzones : (taken e s.blocks).zonesOf v.number = kv.fields.zones := by rw [taken_zonesOf, zonesOf_of_booking hkv]
  have hstarts : enter e kv.fields.zones (evictVictim v (taken e s.blocks)) = takeStart e.number s.blocks := by
    rw [← hzones]
    refine (takeStart_evicts (upcoming?_head hhead) hfull hvictim hrank ?_).symm
    exact enter_waits hreplaced hnow hunlisted hlater _
  have hnewcomer : (evictVictim v (taken e s.blocks)).booking? e.number = some k :=
    (hreplaced.others _ hother.symm).trans ((vacated_booking? v e _ _).trans hk)
  rw [exec_occurrenceStart hhead hnow hdue, ← hstarts]
  generalize evictVictim v (taken e s.blocks) = i at hreplaced hsizedNow hnewcomer
  have hkept : TouchesPlacement (dropRecord v s.blocks) i := (vacated_placement v e s.blocks).trans hreplaced.kept
  have hactive : i.active = s.blocks.active.filter (fun p => p.id != v.id) := hkept.active
  have hnewId : i.nextId = s.blocks.nextId := by rw [hkept]; rfl
  have hengine := enter_touches e kv.fields.zones i
  have htime : (enter e kv.fields.zones i).time = i.time := by rw [hengine]
  have hmask : (enter e kv.fields.zones i).mask = i.mask := by rw [hengine]
  obtain ⟨x, hx, hlisted⟩ := hreplaced.listed
  obtain ⟨f, hin⟩ := mem_enter_active e kv.fields.zones i
  refine ⟨{ s with blocks := enter e kv.fields.zones i }, heldSet f (newcomerOf e i), rfl, rfl, ?_,
    enter_ids hactive (hnewId ▸ hfresh) _, hin, rfl, rfl, rfl, enter_told e _ i, ?_, ?_,
    ⟨x, (enter_upcoming e _ i).symm ▸ hx, hlisted⟩, fun hunmasked => ?_, fun z hz hzin => ?_, htime.trans hkept.time⟩
  · rw [enter_active_length, hactive, filter_id_length (victim_mem hvictim) hnodup, hfull]
  · show (enter e kv.fields.zones i).booking? e.number = _
    rw [enter_booking?, if_pos rfl, hnewcomer]
    rfl
  · show (enter e kv.fields.zones i).booking? v.number = _
    rw [enter_booking?, if_neg hother, hreplaced.booking]
    rfl
  · exact (endedTold_stable v.number .evicted).enter hreplaced.told e kv.fields.zones
      ((hmask.trans hkept.mask).symm ▸ hunmasked)
  · exact enter_holdingOf e kv.fields.zones hsizedNow hz
      (by rw [zonesOf_of_booking hnewcomer]; exact List.mem_append.2 hzin)

end

/-! ## The end of an occurrence (R41, R42) -/

section
variable (o : Occurrence) (out : LastOutcome) (x : Option Instant) (b : Blocks)

/-- The blocks with an occurrence out of the table and its zones resolved. -/
def resolvedWithout (o : Occurrence) (b : Blocks) : Blocks := resolve (b.zonesOf o.number) none (dropRecord o b)

theorem leave_eq : leave o out x b = dispose o.number out x (resolvedWithout o b) := rfl

theorem resolvedWithout_bookings : (resolvedWithout o b).bookings = b.bookings := by
  unfold resolvedWithout
  rw [resolve_touches]
  rfl

theorem leave_bookings : (leave o out x b).bookings = b.bookings.map (rewriteBooking o.number (disposed out x)) := by
  rw [leave_eq, dispose_bookings, resolvedWithout_bookings]

theorem leave_active_ids {p : Occurrence} (hp : p ∈ (leave o out x b).active) : p.id ≠ o.id := by
  rw [leave_eq, dispose_eq] at hp
  change p ∈ (resolve (b.zonesOf o.number) none (dropRecord o b)).active at hp
  rw [resolve_active] at hp
  obtain ⟨q, hq, rfl⟩ := List.mem_map.1 hp
  exact bne_iff_ne.1 (List.mem_filter.1 hq).2

theorem leave_holdingOf {b : Blocks} (hsized : Sized false b) {z : Nat} (hz : z < 96) (hin : z ∈ b.zonesOf o.number) :
    (leave o out x b).holdingOf z = (leave o out x b).resolvedEntry z := by
  have hholding : (leave o out x b).holdingOf z = (resolvedWithout o b).holdingOf z :=
    holdingOf_congr (dispose_placement _ _ _ _).holding z
  have hentry : (leave o out x b).resolvedEntry z = (resolvedWithout o b).resolvedEntry z :=
    resolvedEntry_congr (dispose_placement _ _ _ _).active (fun n => dispose_zonesOf _ _ _ _ n) z
  rw [hholding, hentry]
  exact resolve_holdingOf_self (dropRecord_sized o hsized) _ _ hz hin

theorem leave_upcoming : (leave o out x b).upcoming = b.upcoming := by
  rw [leave_eq, dispose_eq]
  unfold resolvedWithout
  rw [resolve_touches]
  rfl

theorem leave_endedTold : EndedTold o.number out (leave o out x b) := dispose_endedTold o.number out x (resolvedWithout o b)

end

theorem active?_number {b : Blocks} {n : Nat} {o : Occurrence} (h : b.active? n = some o) : o.number = n :=
  beq_iff_eq.1 (List.find?_some (p := fun o : Occurrence => o.number == n) h)

theorem exec_occurrenceEnd {s : State} {n : Nat} {o : Occurrence} {now : Int} (ho : s.blocks.active? n = some o)
    (hnow : s.blocks.time.now = some now) (hend : o.finish ≤ now) :
    exec (.occurrenceEnd n) s = .next { s with blocks := complete o s.blocks } := by
  refine exec_event_eq rfl rfl ?_
  show reachEnd n s.blocks = _
  unfold reachEnd
  rw [ho, hnow]
  exact if_pos hend

/-- Settles O46: each clause is one event of an occurrence's life. -/
theorem occurrencesArmStartAndEnd : Obligations.OccurrencesArmStartAndEnd := by
  unfold Obligations.OccurrencesArmStartAndEnd
  refine ⟨fun s n e now hsized hentry hnow hlead hearly harmed => ?_,
    fun s e es k now hsized hhead hnow hdue hroom hk => occurrenceStart_enters hsized hhead hnow hdue hk hroom,
    fun l v hvictim => ⟨victim_mem hvictim, fun _ => victim_lowest hvictim⟩,
    fun s e es k kv v now w bd hsized hhead hnow hdue hfull hvictim hrank hk hkv hother hunlisted hnodup hfresh hsearch hlater =>
      occurrenceStart_evicts hsized hhead hnow hdue hfull hvictim hrank hk hkv hother hunlisted hnodup hfresh hsearch hlater,
    fun s e es k v now w bd _ hhead hnow hdue hfull hvictim hrank hk hsearch _ =>
      occurrenceStart_skips hhead hnow hdue hk hfull hvictim hrank hsearch,
    fun s n o now l hsized ho hnow hend hl => ?_⟩
  · obtain ⟨hrecords, hclaims⟩ := armEntry_writes n (tablesSized_iff.1 hsized)
    refine ⟨_, entryArmed_arms hentry hnow hlead hearly harmed, rfl, ?_, hclaims⟩
    show armEntry n s.blocks = _
    rw [hrecords]
    unfold entryMarked
    have hmarked : (fun x : UpcomingEntry => if x.number = n then { x with armed := true } else x) = armedAmong [n] := by
      funext x
      simp only [armedAmong, List.mem_singleton]
    rw [hmarked]
  · obtain rfl := active?_number ho
    have hkept := leave_touches o .completed (some o.finish) s.blocks
    have htold := leave_endedTold o .completed (some o.finish) s.blocks
    subst hl
    refine ⟨exec_occurrenceEnd ho hnow hend, fun p hp => leave_active_ids o _ _ _ hp, leave_bookings o _ _ _,
      fun z hz hin => leave_holdingOf o _ _ (tablesSized_iff.1 hsized) hz hin, fun hmask => ?_, fun hmask => ?_,
      leave_upcoming o _ _ _, by rw [hkept]⟩
    · obtain ⟨x, hx, hrecord, hended, -⟩ := htold hmask
      exact ⟨x, hx, hrecord, hended⟩
    · obtain ⟨x, hx, hrecord, -, houtcome⟩ := htold hmask
      exact ⟨x, hx, hrecord, houtcome⟩

end Sys2Proof.Machine

/-! PROOFS. Steps of civil time and the discipline of an edge (R45, R46, R115 to R117): obligation O25. -/

namespace Sys2Proof.Machine

/-! ## What the Notice List keeps through the engine's operations (R180, R181) -/

/-- A statement about the notices that no report breaks, one of Ended and the closing of an entry included. -/
structure NoticeStable (P : Blocks → Prop) : Prop extends ReportStable P where
  ended : ∀ (b : Blocks) (n : Nat) (o : LastOutcome), P b → P (b.reportEnded n o)
  closed : ∀ (b : Blocks) (n : Nat) (v : BookingView), P b → P { b with notices := closeEntry n v b.notices }

theorem told_noticeStable (r : RecordId) (k : ChangeKind) : NoticeStable (fun b => Told b r k) where
  toReportStable := told_stable r k
  ended _ _ _ h := submit_keeps_told h _ _ _
  closed b n v h hmask := by
    obtain ⟨e, he, hrecord, hkind⟩ := h hmask
    refine ⟨_, List.mem_map_of_mem he, ?_, ?_⟩ <;> split <;> assumption

section
variable {P : Blocks → Prop} (hP : NoticeStable P) {b : Blocks} (hb : P b)
include hP hb

theorem NoticeStable.freeSlot (n : Nat) : P (freeSlot n b) := by
  unfold Machine.freeSlot
  split
  · exact hb
  · exact hP.same _ _ (hP.closed b n _ hb) rfl rfl

theorem NoticeStable.retire (n : Nat) : P (retire n b) := by
  have hset : ∀ g, P (b.updateBooking n g) := fun _ => hP.same b _ hb rfl rfl
  have hfreed : ∀ (c : Blocks) k, P c → P (Machine.freeSlot n { c with lastFreed := k }) := fun c k hc =>
    hP.freeSlot (b := { c with lastFreed := k }) (hP.same c _ hc rfl rfl) n
  unfold Machine.retire
  dsimp only
  split
  · exact hP.report _ _ _ (hset _)
  · exact hfreed _ _ (hset _)

theorem NoticeStable.dispose (n : Nat) (o : LastOutcome) (x : Option Instant) : P (dispose n o x b) :=
  hP.same _ _ (hP.ended (recordOutcome n o b) n o (hP.same b _ hb rfl rfl)) rfl rfl

theorem NoticeStable.recordSkips (n : Nat) (a : SearchAnswer) : P (recordSkips n a b) := by
  unfold Machine.recordSkips
  split
  · exact hP.dispose hb n _ _
  · exact hb

theorem NoticeStable.placeOnly (quiet : Bool) (n : Nat) : P (placeOnly quiet n b) := by
  have hset : ∀ (st : BookingState) (c : Blocks), P c → P (setBookingState n st c) := fun _ c hc => hP.same c _ hc rfl rfl
  unfold Machine.placeOnly
  split
  · exact hb
  split
  · exact hset _ _ hb
  dsimp only
  split
  · exact hP.retire (hP.recordSkips hb n _) n
  · split
    · exact hset _ _ (hP.recordSkips hb n _)
    · exact hP.report _ _ _ (hset _ _ (hP.recordSkips hb n _))
  · exact hP.toReportStable.insertWindow (hP.recordSkips hb n _) n _ _ _

theorem NoticeStable.leave (o : Occurrence) (out : LastOutcome) (x : Option Instant) : P (leave o out x b) :=
  hP.dispose (hP.toReportStable.resolve (hP.same b (dropRecord o b) hb rfl rfl) _ _) _ _ _

theorem NoticeStable.startOnce (n : Nat) : P (startOnce n b) := by
  have hremoved := hP.toReportStable.removeEntry hb n
  unfold Machine.startOnce
  split
  · exact hb
  dsimp only
  split
  · exact hP.toReportStable.enter hremoved _ _
  split
  · exact hP.toReportStable.enter hremoved _ _
  split
  · exact hP.toReportStable.enter
      (hP.placeOnly (hP.dispose (hP.same _ (dropRecord _ _) hremoved rfl rfl) _ _ _) false _) _ _
  · exact hP.placeOnly (hP.dispose hremoved _ _ _) false _

theorem NoticeStable.missEntry (e : UpcomingEntry) : P (missEntry e b) :=
  hP.placeOnly (hP.dispose (hP.toReportStable.removeEntry hb _) _ _ _) false _

omit hb in
theorem NoticeStable.drain (step : Bool) (fuel : Nat) : ∀ {b : Blocks}, P b → P (drain step fuel b) := by
  induction fuel with
  | zero => exact id
  | succ fuel ih =>
    intro b hb
    unfold Machine.drain
    split
    · split
      · refine ih ?_
        split
        · exact hP.missEntry hb _
        · exact hP.startOnce hb _
      · exact hb
    · exact hb

theorem NoticeStable.placeBatch (quiet : Bool) (ns : List Nat) : P (placeBatch quiet ns b) :=
  hP.drain false _ (forEach_keeps (P := P) (fun n _ hx => hP.placeOnly hx quiet n) ns b hb)

theorem NoticeStable.completeInStep (o : Occurrence) : P (completeInStep o b) := by
  unfold Machine.completeInStep
  split
  · exact hb
  split
  · exact hP.placeOnly (hP.leave hb _ _ _) false _
  · exact hb

end

theorem ReportStable.armDue {P : Blocks → Prop} (hP : ReportStable P) {b : Blocks} (hb : P b) : P (armDue b) := by
  cases hnow : b.time.now with
  | none =>
    unfold Machine.armDue
    rw [hnow]
    exact hb
  | some now =>
    rw [armDue_of_now hnow]
    exact forEach_keeps (P := P) (fun n _ hx => hP.armEntry hx n) _ _ hb

theorem NoticeStable.forwardStep {P : Blocks → Prop} (hP : NoticeStable P) {b : Blocks} (hb : P b) : P (forwardStep b) := by
  unfold Machine.forwardStep
  split
  · exact hb
  · exact hP.toReportStable.armDue
      (hP.drain true _ (forEach_keeps (P := P) (fun o _ hx => hP.completeInStep hx o) _ _ hb))

/-! ## Arming in a step (R35, R45) -/

/-- An arming marks entries and keeps everything else of them. -/
theorem armDue_lists {b : Blocks} {e : UpcomingEntry} (he : e ∈ b.upcoming) :
    ∃ x ∈ (armDue b).upcoming, x = { e with armed := x.armed } := by
  obtain ⟨ns, hupcoming, -⟩ := armDue_upcoming b
  refine ⟨armedAmong ns e, ?_, ?_⟩
  · rw [hupcoming]
    exact List.mem_map_of_mem he
  · unfold armedAmong
    split <;> rfl

theorem armDue_entries {b : Blocks} {x : UpcomingEntry} (hx : x ∈ (armDue b).upcoming) :
    ∃ e ∈ b.upcoming, x = { e with armed := x.armed } := by
  obtain ⟨ns, hupcoming, -⟩ := armDue_upcoming b
  rw [hupcoming] at hx
  obtain ⟨e, he, rfl⟩ := List.mem_map.1 hx
  refine ⟨e, he, ?_⟩
  unfold armedAmong
  split <;> rfl

/-! ## The due entries of a forward step (R45) -/

/-- With no entry due the list is left as it is. -/
theorem drain_of_later (step : Bool) (fuel : Nat) {b : Blocks} {now : Instant} (hnow : b.time.now = some now)
    (h : ∀ e ∈ b.upcoming, now < e.start) : drain step fuel b = b := by
  cases fuel with
  | zero => rfl
  | succ fuel =>
    unfold drain
    cases hupcoming : b.upcoming with
    | nil => rfl
    | cons e es =>
      rw [hnow]
      exact if_neg (not_le.2 (h e (hupcoming ▸ List.mem_cons_self)))

theorem drain_of_head (step : Bool) (fuel : Nat) {b : Blocks} {now : Instant} {e : UpcomingEntry} {es : List UpcomingEntry}
    (hhead : b.upcoming = e :: es) (hnow : b.time.now = some now) (hdue : e.start ≤ now) :
    drain step (fuel + 1) b =
      drain step fuel (if step && decide (e.finish ≤ now) then missEntry e b else startOnce e.number b) := by
  conv_lhs => unfold drain
  rw [hhead, hnow]
  exact if_pos hdue

/-! ## The occurrences that a forward step ends (R45) -/

theorem mem_insertEnding {x y : Occurrence} {l : List Occurrence} : x ∈ insertEnding y l ↔ x = y ∨ x ∈ l := by
  induction l with
  | nil => exact List.mem_singleton.trans (or_iff_left List.not_mem_nil).symm
  | cons z l ih =>
    unfold insertEnding
    split
    · exact List.mem_cons
    · rw [List.mem_cons, ih, List.mem_cons]
      exact or_left_comm

theorem mem_ending {b : Blocks} {now : Instant} {o : Occurrence} : o ∈ b.ending now ↔ o ∈ b.active ∧ o.finish ≤ now := by
  have hsorted : ∀ l : List Occurrence, o ∈ l.foldr insertEnding [] ↔ o ∈ l := fun l => by
    induction l with
    | nil => exact Iff.rfl
    | cons y l ih => rw [List.foldr_cons, mem_insertEnding, ih, List.mem_cons]
  unfold Blocks.ending
  rw [hsorted, List.mem_filter, decide_eq_true_eq]

theorem ending_of_none {b : Blocks} {now : Instant} (h : ∀ o ∈ b.active, now < o.finish) : b.ending now = [] :=
  List.eq_nil_iff_forall_not_mem.2 fun o ho => absurd (mem_ending.1 ho).2 (not_le.2 (h o (mem_ending.1 ho).1))

/-- An operation that leaves what it wrote is taken once by a list of one operand. -/
theorem forEach_same {α : Type} {op : α → Blocks → Blocks} {x : α} {b : Blocks} (hagain : op x (op x b) = op x b) :
    ∀ {l : List α}, (∀ y ∈ l, y = x) → l ≠ [] → forEach l op b = op x b
  | y :: l, hl, _ => by
    obtain rfl := hl y List.mem_cons_self
    rw [forEach_cons]
    have hrest : ∀ l' : List α, (∀ z ∈ l', z = y) → forEach l' op (op y b) = op y b := fun l' => by
      induction l' with
      | nil => exact fun _ => rfl
      | cons z l' ih =>
        intro hl'
        rw [forEach_cons, hl' z List.mem_cons_self, hagain]
        exact ih fun w hw => hl' w (List.mem_cons_of_mem z hw)
    exact hrest l fun z hz => hl z (List.mem_cons_of_mem y hz)

/-! ## A forward step (R45) -/

section
variable {b : Blocks} {now : Instant} (hnow : b.time.now = some now)
include hnow

theorem forwardStep_of_none (hactive : ∀ o ∈ b.active, now < o.finish) :
    forwardStep b = armDue (drain true b.drainFuel b) := by
  unfold forwardStep
  rw [hnow]
  dsimp only
  rw [ending_of_none hactive]
  rfl

/-- One due entry at the head of the list is taken, and then the entries within their lead are armed. -/
theorem forwardStep_of_head (hactive : ∀ o ∈ b.active, now < o.finish) {e : UpcomingEntry} {es : List UpcomingEntry}
    (hhead : b.upcoming = e :: es) (hdue : e.start ≤ now) {c : Blocks}
    (hc : (if e.finish ≤ now then missEntry e b else startOnce e.number b) = c) (htime : c.time.now = some now)
    (hlater : ∀ x ∈ c.upcoming, now < x.start) : forwardStep b = armDue c := by
  have hfuel : b.drainFuel = 4 * b.bookings.length + 3 + 1 := rfl
  rw [forwardStep_of_none hnow hactive, hfuel, drain_of_head true _ hhead hnow hdue]
  simp only [Bool.true_and, decide_eq_true_eq]
  rw [hc, drain_of_later true _ htime hlater]

/-- An arming after a step that takes nothing marks exactly the entries whose lead is reached. -/
theorem armDue_marks (hlater : ∀ e ∈ b.upcoming, now < e.start) (hnodup : (b.upcoming.map (fun e => e.number)).Nodup) :
    (armDue b).upcoming = b.upcoming.map (fun e =>
      { e with armed := e.armed || decide (e.start - (b.armLead : Int) * 1000 ≤ now) }) := by
  obtain ⟨ns, hupcoming, hns⟩ := armDue_upcoming b
  rw [hupcoming, hns now hnow]
  refine List.map_congr_left fun e he => ?_
  have hmem : e.number ∈ b.armable now ↔ e.start - (b.armLead : Int) * 1000 ≤ now ∧ e.armed = false := by
    unfold Blocks.armable
    rw [List.mem_map]
    constructor
    · rintro ⟨x, hx, hnumber⟩
      obtain ⟨hxin, hxdue⟩ := List.mem_filter.1 hx
      obtain rfl := List.inj_on_of_nodup_map hnodup hxin he hnumber
      rw [Bool.and_eq_true, withinLead_iff, Bool.not_eq_true'] at hxdue
      exact ⟨hxdue.1.1, hxdue.2⟩
    · rintro ⟨hlead, hunarmed⟩
      refine ⟨e, List.mem_filter.2 ⟨he, ?_⟩, rfl⟩
      rw [Bool.and_eq_true, withinLead_iff, Bool.not_eq_true']
      exact ⟨⟨hlead, hlater e he⟩, hunarmed⟩
  cases harmed : e.armed with
  | true => rw [armedAmong_of_armed _ harmed, Bool.true_or, ← harmed]
  | false =>
    unfold armedAmong
    by_cases hlead : e.start - (b.armLead : Int) * 1000 ≤ now
    · rw [if_pos (hmem.2 ⟨hlead, harmed⟩), decide_eq_true hlead, Bool.or_true]
    · rw [if_neg fun h => hlead (hmem.1 h).1, decide_eq_false hlead, Bool.or_false, ← harmed]

end

section
variable {b : Blocks} {now : Instant} (hnow : b.time.now = some now)
include hnow

/-- A due entry whose whole window has passed is Missed (R45). -/
theorem forwardStep_misses (hactive : ∀ o ∈ b.active, now < o.finish) {e : UpcomingEntry} {es : List UpcomingEntry}
    (hhead : b.upcoming = e :: es) (hrest : ∀ x ∈ es, now < x.start ∧ x.number ≠ e.number) {k : Booking}
    (hk : b.booking? e.number = some k) (hdue : e.start ≤ now) {w : Window} {bd : Option Instant} (hpassed : e.finish ≤ now)
    (hsearch : search b.almanac b.time.base now k.fields (some e.finish) = ⟨.window w, bd, false⟩) (hlater : now < w.start) :
    ∃ c, Replaced (taken e b) e.number k .missed (some e.finish) w c ∧ forwardStep b = armDue c := by
  have hkept := removeEntry_placement e.number b
  have hreplaced := dispose_replaced (b := taken e b) (n := e.number) ((taken_booking? e b _).trans hk) (hkept.time ▸ hnow)
    (x := some e.finish) (w := w) (bd := bd)
    (by rw [show (taken e b).almanac = b.almanac from hkept.almanac, show (taken e b).time = b.time from hkept.time]
        exact hsearch) .missed
  refine ⟨_, hreplaced, forwardStep_of_head hnow hactive hhead hdue (if_pos hpassed)
    ((hreplaced.kept.time.trans hkept.time).symm ▸ hnow) fun x hx => ?_⟩
  obtain ⟨-, hstart⟩ | ⟨y, hy, -, hstart⟩ := hreplaced.entries x hx
  · rw [hstart]
    exact hlater
  · rw [← hstart]
    rw [taken, removeEntry_head hhead] at hy
    exact (hrest y (List.mem_of_mem_filter hy)).1

/-- A due entry that is inside its window starts (R45). -/
theorem forwardStep_starts (hactive : ∀ o ∈ b.active, now < o.finish) {e : UpcomingEntry} {es : List UpcomingEntry}
    (hhead : b.upcoming = e :: es) (hrest : ∀ x ∈ es, now < x.start ∧ x.number ≠ e.number) (hdue : e.start ≤ now)
    (hinside : now < e.finish) (hroom : b.active.length < 32) : forwardStep b = armDue (enter e [] (taken e b)) := by
  have hkept := removeEntry_placement e.number b
  have htime : (enter e [] (taken e b)).time = b.time :=
    (by rw [enter_touches e [] (taken e b)] : (enter e [] (taken e b)).time = (taken e b).time).trans hkept.time
  refine forwardStep_of_head hnow hactive hhead hdue
    ((if_neg (not_le.2 hinside)).trans (startOnce_of_room (upcoming?_head hhead) hroom)) (htime ▸ hnow) fun x hx => ?_
  rw [enter_upcoming, taken, removeEntry_head hhead] at hx
  exact (hrest x (List.mem_of_mem_filter hx)).1

/-- An occurrence that has reached its end is Completed and its booking placed again (R45). -/
theorem forwardStep_completes {o : Occurrence} {k : Booking} {w : Window} {bd : Option Instant} (ho : o ∈ b.active)
    (hend : o.finish ≤ now) (hothers : ∀ p ∈ b.active, p ≠ o → now < p.finish ∧ p.number ≠ o.number ∧ p.id ≠ o.id)
    (hupcoming : ∀ e ∈ b.upcoming, now < e.start) (hk : b.booking? o.number = some k)
    (hsearch : search b.almanac b.time.base now k.fields (some o.finish) = ⟨.window w, bd, false⟩) (hlater : now < w.start) :
    ∃ c, Replaced (resolvedWithout o b) o.number k .completed (some o.finish) w c ∧ forwardStep b = armDue c := by
  have hfound : b.active? o.number = some o := by
    unfold Blocks.active?
    cases hfind : b.active.find? (fun p => p.number == o.number) with
    | none => exact absurd (beq_self_eq_true o.number) (List.find?_eq_none.1 hfind o ho)
    | some p =>
      by_contra hne
      exact (hothers p (List.mem_of_find?_eq_some hfind) fun h => hne (congrArg some h)).2.1
        (beq_iff_eq.1 (List.find?_some (p := fun p : Occurrence => p.number == o.number) hfind))
  have hkept : TouchesHolding (dropRecord o b) (resolvedWithout o b) := resolve_touches _ _ _
  have hbooking : (resolvedWithout o b).booking? o.number = some k :=
    (booking?_congr (resolvedWithout_bookings o b) _).trans hk
  have htime : (resolvedWithout o b).time = b.time := by rw [hkept]; rfl
  have halmanac : (resolvedWithout o b).almanac = b.almanac := by rw [hkept]; rfl
  have hreplaced := dispose_replaced (b := resolvedWithout o b) (n := o.number) hbooking (htime ▸ hnow) (x := some o.finish)
    (w := w) (bd := bd) (by rw [halmanac, htime]; exact hsearch) .completed
  have hcompletes : completeInStep o b = placeOnly false o.number (dispose o.number .completed (some o.finish) (resolvedWithout o b)) := by
    unfold completeInStep
    rw [hfound]
    exact if_pos rfl
  generalize hc : placeOnly false o.number (dispose o.number .completed (some o.finish) (resolvedWithout o b)) = c at *
  have hgone : c.active? o.number = none := by
    refine List.find?_eq_none.2 fun p hp => ?_
    rw [hreplaced.kept.active, resolvedWithout, resolve_active] at hp
    obtain ⟨q, hq, rfl⟩ := List.mem_map.1 hp
    obtain ⟨hqin, hqid⟩ := List.mem_filter.1 hq
    have hqother : q ≠ o := fun h => bne_iff_ne.1 hqid (by rw [h])
    exact fun hnumber => (hothers q hqin hqother).2.1 (beq_iff_eq.1 hnumber)
  have hagain : completeInStep o (completeInStep o b) = completeInStep o b := by
    rw [hcompletes]
    unfold completeInStep
    rw [hgone]
  have hending : forEach (b.ending now) completeInStep b = c := by
    rw [forEach_same hagain ?_ ?_, hcompletes]
    · intro p hp
      obtain ⟨hpin, hpend⟩ := mem_ending.1 hp
      by_contra hne
      exact absurd hpend (not_le.2 (hothers p hpin hne).1)
    · exact List.ne_nil_of_mem (mem_ending.2 ⟨ho, hend⟩)
  refine ⟨c, hreplaced, ?_⟩
  unfold forwardStep
  rw [hnow]
  dsimp only
  rw [hending, drain_of_later true _ ((hreplaced.kept.time.trans htime).symm ▸ hnow) fun x hx => ?_]
  obtain ⟨-, hstart⟩ | ⟨y, hy, -, hstart⟩ := hreplaced.entries x hx
  · rw [hstart]
    exact hlater
  · rw [← hstart]
    refine hupcoming y ?_
    rw [hkept] at hy
    exact hy

end

/-! ## A step at the Time Base (R117) -/

/-- Only what the curfew window and the pruning write may differ. -/
def TouchesWindow (a b : Blocks) : Prop :=
  b = { a with zones := b.zones, chain := b.chain, curfewActive := b.curfewActive, almanac := b.almanac }

theorem TouchesWindow.refl (b : Blocks) : TouchesWindow b b := rfl

theorem TouchesWindow.trans {a b c : Blocks} (h : TouchesWindow a b) (k : TouchesWindow b c) : TouchesWindow a c := by
  unfold TouchesWindow at *; rw [k, h]

theorem followWindow_window (b : Blocks) : TouchesWindow b (followWindow b) := by
  unfold followWindow
  split
  · unfold TouchesWindow
    rw [openWindow_writes]
  split
  · unfold TouchesWindow
    rw [closeWindow_writes]
  · exact .refl b

theorem followWindow_almanac (b : Blocks) : (followWindow b).almanac = b.almanac := by
  unfold followWindow
  split
  · rw [openWindow_writes]
  split
  · rw [closeWindow_writes]
  · rfl

theorem prune_window (b : Blocks) : TouchesWindow b (prune b) := by
  unfold prune
  split <;> rfl

section
variable {a b : Blocks} (h : TouchesWindow a b)
include h

theorem TouchesWindow.bookings : b.bookings = a.bookings := by rw [h]
theorem TouchesWindow.upcoming : b.upcoming = a.upcoming := by rw [h]
theorem TouchesWindow.active : b.active = a.active := by rw [h]
theorem TouchesWindow.holding : b.holding = a.holding := by rw [h]
theorem TouchesWindow.feeders : b.feeders = a.feeders := by rw [h]
theorem TouchesWindow.notices : b.notices = a.notices := by rw [h]
theorem TouchesWindow.mask : b.mask = a.mask := by rw [h]

end

/-- The blocks of a step before it is handed on. -/
def stepNoted (old new : Instant) (b : Blocks) : Blocks := (b.updateTime (steppedTime old new)).report .timeBase .stepped

theorem stepNoted_eq (old new : Instant) (b : Blocks) : stepNoted old new b = { b with
    time := steppedTime old new b.time, notices := (stepNoted old new b).notices } := report_eq _ _ _

/-- What a step hands on: the engine's part of a forward step, and the curfew window and the pruning. -/
def stepHanded (old new : Instant) (b : Blocks) : Blocks :=
  if dayOf old < dayOf new then prune (followWindow b) else followWindow b

theorem stepHanded_window (old new : Instant) (b : Blocks) : TouchesWindow b (stepHanded old new b) := by
  unfold stepHanded
  split
  · exact (followWindow_window b).trans (prune_window _)
  · exact followWindow_window b

theorem stepHanded_almanac {old new : Instant} {b : Blocks} (hnow : b.time.now = some new) :
    (stepHanded old new b).almanac = if dayOf old < dayOf new then
      b.almanac.filter (fun e => decide (new / 86400000 - 7 ≤ (e.day : Int))) else b.almanac := by
  have hset : (followWindow b).time.now = some new := by rw [followWindow_window b]; exact hnow
  unfold stepHanded
  split
  · rw [prune_eq hset, followWindow_almanac]
  · exact followWindow_almanac b

section
variable {b : Blocks} {old new : Instant} (h : b.time.now = some old) (hlast : new ≤ 5662310399999)
include h hlast

theorem stepTo_eq : stepTo new b = if new = old then stepNoted old new b
    else stepHanded old new (if old < new then forwardStep (stepNoted old new b) else stepNoted old new b) := by
  have hmin : min new Config.lastInstant = new := min_eq_left hlast
  unfold stepTo
  rw [h]
  dsimp only
  rw [hmin]
  rfl

theorem stepTo_same (hsame : new = old) : stepTo new b = stepNoted old new b := (stepTo_eq h hlast).trans (if_pos hsame)

theorem stepTo_back (hback : new < old) : stepTo new b = stepHanded old new (stepNoted old new b) := by
  rw [stepTo_eq h hlast, if_neg (ne_of_lt hback), if_neg (not_lt_of_gt hback)]

theorem stepTo_forward (hforward : old < new) : stepTo new b = stepHanded old new (forwardStep (stepNoted old new b)) := by
  rw [stepTo_eq h hlast, if_neg (ne_of_gt hforward), if_pos hforward]

theorem stepTo_told : Told (stepTo new b) .timeBase .stepped := by
  have hnoted : Told (stepNoted old new b) .timeBase .stepped := report_told _ _ _
  have hhanded : ∀ c, Told c .timeBase .stepped → Told (stepHanded old new c) .timeBase .stepped := fun c hc =>
    (told_stable _ _).same c _ hc (stepHanded_window old new c).notices (stepHanded_window old new c).mask
  rw [stepTo_eq h hlast]
  split
  · exact hnoted
  · refine hhanded _ ?_
    split
    · exact (told_noticeStable _ _).forwardStep hnoted
    · exact hnoted

end

section
variable {b : Blocks} {old new : Int} (h : b.time.now = some old) (hlast : new ≤ 5662310399999)

theorem stepNoted_now (old new : Int) (b : Blocks) : (stepNoted old new b).time.now = some new := by
  rw [stepNoted_eq]
  rfl

theorem stepNoted_search (old new : Int) (b : Blocks) (f : BookingFields) (x : Option Instant) :
    search (stepNoted old new b).almanac (stepNoted old new b).time.base new f x = search b.almanac b.time.base new f x := by
  rw [stepNoted_eq]
  rfl

theorem stepNoted_records (old new : Int) (b : Blocks) :
    (stepNoted old new b).active = b.active ∧ (stepNoted old new b).upcoming = b.upcoming ∧
      (stepNoted old new b).bookings = b.bookings ∧ (stepNoted old new b).mask = b.mask := by
  rw [stepNoted_eq]
  exact ⟨rfl, rfl, rfl, rfl⟩

include h hlast

/-- What a forward step to `new` leaves is what the engine leaves, but for the curfew window and the pruning. -/
theorem stepTo_window (hforward : old < new) : TouchesWindow (forwardStep (stepNoted old new b)) (stepTo new b) := by
  rw [stepTo_forward h hlast hforward]
  exact stepHanded_window old new _

theorem stepTo_almanac (hforward : old < new) : (stepTo new b).almanac = if old / 86400000 < new / 86400000 then
    b.almanac.filter (fun e => decide (new / 86400000 - 7 ≤ (e.day : Int))) else b.almanac := by
  have hengine := forwardStep_touches (stepNoted old new b)
  have htime : (forwardStep (stepNoted old new b)).time = (stepNoted old new b).time := by rw [hengine]
  have halmanac : (forwardStep (stepNoted old new b)).almanac = b.almanac := by rw [hengine, stepNoted_eq]
  rw [stepTo_forward h hlast hforward, stepHanded_almanac (htime ▸ stepNoted_now old new b), halmanac]
  rfl

/-- A backward step writes now, the last step and the notice of it, and follows the curfew window (R46). -/
theorem stepTo_backward (hback : new < old) : (stepTo new b).bookings = b.bookings ∧ (stepTo new b).upcoming = b.upcoming ∧
    (stepTo new b).active = b.active ∧ (stepTo new b).holding = b.holding ∧ (stepTo new b).almanac = b.almanac ∧
    (stepTo new b).feeders = b.feeders := by
  have hday : ¬dayOf old < dayOf new := not_lt.2 (Int.ediv_le_ediv (by decide) hback.le)
  have hwindow := stepHanded_window old new (stepNoted old new b)
  have halmanac := stepHanded_almanac (old := old) (stepNoted_now old new b)
  rw [if_neg hday] at halmanac
  rw [stepTo_back h hlast hback, hwindow.bookings, hwindow.upcoming, hwindow.active, hwindow.holding, hwindow.feeders, halmanac,
    stepNoted_eq]
  exact ⟨rfl, rfl, rfl, rfl, rfl, rfl⟩

/-- A forward step that reaches no end and no start arms what lies within its lead (R45). -/
theorem stepTo_arms (hforward : old < new) (hactive : ∀ o ∈ b.active, new < o.finish) (hlater : ∀ e ∈ b.upcoming, new < e.start)
    (hnodup : (b.upcoming.map (fun e => e.number)).Nodup) :
    (stepTo new b).bookings = b.bookings ∧ (stepTo new b).active = b.active ∧ (stepTo new b).holding = b.holding ∧
      (stepTo new b).upcoming = b.upcoming.map (fun e =>
        { e with armed := e.armed || decide (e.start - (b.armLead : Int) * 1000 ≤ new) }) := by
  have hnow := stepNoted_now old new b
  have hwindow := stepTo_window h hlast hforward
  obtain ⟨hsameActive, hsameUpcoming, hsameBookings, -⟩ := stepNoted_records old new b
  have hholding : (stepNoted old new b).holding = b.holding := by rw [stepNoted_eq]
  have hlead : (stepNoted old new b).armLead = b.armLead := by rw [stepNoted_eq]
  have hstep : forwardStep (stepNoted old new b) = armDue (stepNoted old new b) := by
    rw [forwardStep_of_none hnow (hsameActive ▸ hactive), drain_of_later true _ hnow (hsameUpcoming ▸ hlater)]
  have harming := armDue_arming (stepNoted old new b)
  have hmarks := armDue_marks hnow (hsameUpcoming ▸ hlater) (hsameUpcoming ▸ hnodup)
  rw [hwindow.bookings, hwindow.active, hwindow.holding, hwindow.upcoming, hstep, harming.bookings, harming.active, harming.holding,
    hmarks, hsameBookings, hsameActive, hholding, hsameUpcoming, hlead]
  exact ⟨rfl, rfl, rfl, rfl⟩

/-- The booking, the entry and the outcome that a disposal in a forward step leaves (R45). -/
theorem stepTo_replaced (hforward : old < new) {a c : Blocks} {n : Nat} {k : Booking} {o : LastOutcome} {x : Option Instant} {w : Window}
    (hreplaced : Replaced a n k o x w c) (hmask : a.mask = b.mask) (hstep : forwardStep (stepNoted old new b) = armDue c) :
    (stepTo new b).active = a.active ∧ (stepTo new b).booking? n = some (scheduledFor w (disposed o x k)) ∧
      (∃ y ∈ (stepTo new b).upcoming, y.number = n ∧ y.day = w.day ∧ y.start = w.start ∧ y.finish = w.finish) ∧
      (ChangeKind.ended ∈ b.mask → ∃ y ∈ (stepTo new b).notices,
        y.record = .booking n ∧ ChangeKind.ended ∈ y.changes ∧ y.outcome = some o) := by
  have hwindow := stepTo_window h hlast hforward
  rw [hstep] at hwindow
  have harming := armDue_arming c
  obtain ⟨e, he, hnumber, hday, hstart, hfinish⟩ := hreplaced.listed
  obtain ⟨y, hy, hsame⟩ := armDue_lists he
  refine ⟨hwindow.active.trans (harming.active.trans hreplaced.kept.active),
    (booking?_congr (hwindow.bookings.trans harming.bookings) n).trans hreplaced.booking,
    ⟨y, hwindow.upcoming.symm ▸ hy, ?_⟩, fun hunmasked => ?_⟩
  · rw [hsame]
    exact ⟨hnumber, hday, hstart, hfinish⟩
  · have htold := (endedTold_stable n o).armDue hreplaced.told
    have harmedMask : (armDue c).mask = b.mask :=
      (by rw [harming] : (armDue c).mask = c.mask).trans (hreplaced.kept.mask.trans hmask)
    rw [hwindow.notices]
    exact htold (harmedMask.symm ▸ hunmasked)

/-- A forward step into the window of the due head entry starts it at `new` (R45). -/
theorem stepTo_starts (hforward : old < new) (hactive : ∀ o ∈ b.active, new < o.finish) {e : UpcomingEntry} {es : List UpcomingEntry}
    (hhead : b.upcoming = e :: es) (hrest : ∀ x ∈ es, new < x.start ∧ x.number ≠ e.number) {k : Booking}
    (hk : b.booking? e.number = some k) (hdue : e.start ≤ new) (hinside : new < e.finish) (hroom : b.active.length < 32) :
    (stepTo new b).active.length = b.active.length + 1 ∧ (∀ x ∈ (stepTo new b).upcoming, x.number ≠ e.number) ∧
      ∃ o ∈ (stepTo new b).active, o.number = e.number ∧ o.tier = e.tier ∧ o.start = e.start ∧ o.finish = e.finish ∧
        (k.fields.follow = none → o.position = min 2147483647 (new - e.start)) ∧ Told (stepTo new b) (.booking e.number) .started := by
  have hnow := stepNoted_now old new b
  obtain ⟨hsameActive, hsameUpcoming, hsameBookings, -⟩ := stepNoted_records old new b
  have hstep := forwardStep_starts hnow (hsameActive ▸ hactive) (hsameUpcoming.trans hhead) hrest hdue hinside (hsameActive ▸ hroom)
  have hwindow := stepTo_window h hlast hforward
  rw [hstep] at hwindow
  have hkept := removeEntry_placement e.number (stepNoted old new b)
  have htakenActive : (taken e (stepNoted old new b)).active = b.active := hkept.active.trans hsameActive
  have htakenNow : (taken e (stepNoted old new b)).time.now = some new := hkept.time.symm ▸ hnow
  have hbooking : (taken e (stepNoted old new b)).booking? e.number = some k :=
    (taken_booking? e _ _).trans ((booking?_congr hsameBookings _).trans hk)
  have hactiveNow : (stepTo new b).active = (enter e [] (taken e (stepNoted old new b))).active :=
    hwindow.active.trans (armDue_arming _).active
  obtain ⟨f, hin⟩ := mem_enter_active e [] (taken e (stepNoted old new b))
  refine ⟨?_, fun x hx => ?_, heldSet f (newcomerOf e (taken e (stepNoted old new b))), hactiveNow.symm ▸ hin, rfl, rfl, rfl, rfl,
    fun hfollow => (newcomerOf_unfollowed hbooking htakenNow hfollow).2, ?_⟩
  · rw [hactiveNow, enter_active_length, htakenActive]
  · rw [hwindow.upcoming] at hx
    obtain ⟨y, hy, hsame⟩ := armDue_entries hx
    rw [enter_upcoming, taken, removeEntry_head (hsameUpcoming.trans hhead)] at hy
    rw [hsame]
    exact (hrest y (List.mem_of_mem_filter hy)).2
  · exact (told_stable _ _).same _ _ ((told_stable _ _).armDue (enter_told e [] _)) hwindow.notices hwindow.mask

end

/-! ## The discipline of an edge (R115, R116) -/

/-- R115: the phase error is the distance to the nearest whole second. -/
theorem phaseError_bounds (now : Int) : -500 ≤ phaseError now ∧ phaseError now < 500 ∧ (now - phaseError now) % 1000 = 0 := by
  have hrest : timeOfDay now % 1000 = now % 1000 := by
    show now % 86400000 % 1000 = now % 1000
    omega
  unfold phaseError
  rw [hrest]
  dsimp only
  split <;> omega

/-- Settles O25: the discipline by the range of its phase error, and a step by its direction. -/
theorem disciplineSlewsOrSteps : Obligations.DisciplineSlewsOrSteps := by
  unfold Obligations.DisciplineSlewsOrSteps
  refine ⟨fun b now e hnow hlow hhigh he => ?_, fun b t old new hold hlast ht => ?_⟩
  · subst he
    obtain ⟨herrLow, herrHigh, hwhole⟩ := phaseError_bounds now
    have hbehind := fun hneg hle => discipline_behind hnow (by exact hneg) (by exact hle)
    have hmoves := issueTick_moves
      (b := b.updateTime (fun t => { t with phase := some (phaseError now), slew := phaseError now + 1 })) hnow
      (show now < 5662310399999 by omega)
    have hfarTime := fun hfar : phaseError now < -250 ∨ 250 < phaseError now => by
      have hstep := stepTo_time (b := b.updateTime (fun t => { t with phase := some (phaseError now), slew := 0 })) hnow
        (now - phaseError now)
      rw [← discipline_far hnow hfar, show min (now - phaseError now) Config.lastInstant = now - phaseError now from
        min_eq_left (show now - phaseError now ≤ 5662310399999 by omega)] at hstep
      exact hstep
    refine ⟨herrLow, herrHigh, hwhole, ?_, fun hzero => ?_, fun hpos hle => discipline_ahead hnow hpos hle, fun hle hneg => ?_,
      fun hfar => ⟨discipline_far hnow hfar, ?_, ?_, ?_⟩⟩
    · by_cases hfar : phaseError now < -250 ∨ 250 < phaseError now
      · rw [hfarTime hfar]
        rfl
      by_cases hzero : phaseError now = 0
      · rw [discipline_exact hnow hzero, hzero]
        rfl
      by_cases hpos : 0 < phaseError now
      · rw [discipline_ahead hnow hpos (by omega)]
        rfl
      · rw [hbehind (by omega) (by omega), hmoves]
        rfl
    · exact discipline_exact hnow hzero
    · rw [hbehind hneg hle, hmoves]
      exact ⟨rfl, rfl⟩
    · rw [hfarTime hfar]
      rfl
    · rw [hfarTime hfar]
      rfl
    · rw [hfarTime hfar]
      show some (now - phaseError now - now, now - phaseError now) = some (-phaseError now, now - phaseError now)
      rw [sub_sub_cancel_left]
  · subst ht
    have hmin : min new Config.lastInstant = new := min_eq_left hlast
    have hnow := stepNoted_now old new b
    obtain ⟨hsameActive, hsameUpcoming, hsameBookings, hsameMask⟩ := stepNoted_records old new b
    have hbooking : ∀ n, (stepNoted old new b).booking? n = b.booking? n := booking?_congr hsameBookings
    refine ⟨by rw [stepTo_time hold, hmin]; rfl, stepTo_told hold hlast, fun hsame => ?_, stepTo_backward hold hlast,
      fun hforward => ⟨stepTo_almanac hold hlast hforward, stepTo_arms hold hlast hforward,
        fun e es k hactive hhead hrest hk hdue => ⟨fun w bd hpassed hsearch hlater => ?_,
          stepTo_starts hold hlast hforward hactive hhead hrest hk hdue⟩,
        fun o k w bd ho hend hothers hupcoming hk _ hsearch hlater => ?_⟩⟩
    · rw [stepTo_same hold hlast hsame, stepNoted_eq]
    · obtain ⟨c, hreplaced, hstep⟩ := forwardStep_misses hnow (hsameActive ▸ hactive) (hsameUpcoming.trans hhead) hrest
        ((hbooking _).trans hk) hdue hpassed ((stepNoted_search old new b _ _).trans hsearch) hlater
      have hkept := removeEntry_placement e.number (stepNoted old new b)
      obtain ⟨hactiveNow, hrest⟩ := stepTo_replaced hold hlast hforward hreplaced (hkept.mask.trans hsameMask) hstep
      exact ⟨hactiveNow.trans (hkept.active.trans hsameActive), hrest⟩
    · obtain ⟨c, hreplaced, hstep⟩ := forwardStep_completes hnow (hsameActive ▸ ho) hend (hsameActive ▸ hothers)
        (hsameUpcoming ▸ hupcoming) ((hbooking _).trans hk) ((stepNoted_search old new b _ _).trans hsearch) hlater
      have hmask : (resolvedWithout o (stepNoted old new b)).mask = b.mask := by
        rw [resolvedWithout, resolve_touches]
        exact hsameMask
      obtain ⟨hactiveNow, hrest⟩ := stepTo_replaced hold hlast hforward hreplaced hmask hstep
      refine ⟨fun p hp => ?_, hrest⟩
      rw [hactiveNow, resolvedWithout, resolve_active] at hp
      obtain ⟨q, hq, rfl⟩ := List.mem_map.1 hp
      exact bne_iff_ne.1 (List.mem_filter.1 hq).2

end Sys2Proof.Machine

/-! PROOFS. Batch placements and marks (R33, R118, R119): obligation O27. -/

namespace Sys2Proof.Machine

/-! ## Booking numbers in rising order -/

theorem insertAsc_pairwise {x : Nat} {l : List Nat} (h : l.Pairwise (· < ·)) : (insertAsc x l).Pairwise (· < ·) := by
  induction l with
  | nil => exact List.pairwise_singleton _ _
  | cons y l ih =>
    obtain ⟨hy, hl⟩ := List.pairwise_cons.1 h
    unfold insertAsc
    split
    · next hlt =>
      refine List.pairwise_cons.2 ⟨fun z hz => ?_, h⟩
      obtain rfl | hz := List.mem_cons.1 hz
      · exact hlt
      · exact hlt.trans (hy z hz)
    split
    · exact h
    · next hnlt hne =>
      refine List.pairwise_cons.2 ⟨fun z hz => ?_, ih hl⟩
      obtain rfl | hz := mem_insertAsc.1 hz
      · exact lt_of_le_of_ne (not_lt.1 hnlt) (Ne.symm hne)
      · exact hy z hz

theorem ascending_pairwise (l : List Nat) : (ascending l).Pairwise (· < ·) := by
  induction l with
  | nil => exact List.Pairwise.nil
  | cons x l ih => exact insertAsc_pairwise ih

theorem mem_ascending {x : Nat} {l : List Nat} : x ∈ ascending l ↔ x ∈ l := by
  induction l with
  | nil => exact Iff.rfl
  | cons y l ih =>
    show x ∈ insertAsc y (ascending l) ↔ _
    rw [mem_insertAsc, ih, List.mem_cons]

theorem numbersIn_pairwise (b : Blocks) (p : Booking → Bool) : (b.numbersIn p).Pairwise (· < ·) := ascending_pairwise _

theorem mem_numbersIn {b : Blocks} {p : Booking → Bool} {n : Nat} : n ∈ b.numbersIn p ↔ ∃ k ∈ b.bookings, k.number = n ∧ p k = true := by
  unfold Blocks.numbersIn
  rw [mem_ascending, List.mem_map]
  exact exists_congr fun k => by rw [List.mem_filter, and_assoc, and_congr_right_iff]; exact fun _ => and_comm

theorem booking?_of_mem {b : Blocks} (hnodup : (b.bookings.map (fun k => k.number)).Nodup) {k : Booking} (hk : k ∈ b.bookings) :
    b.booking? k.number = some k := by
  cases hfind : b.booking? k.number with
  | none => exact absurd (beq_self_eq_true k.number) (List.find?_eq_none.1 hfind k hk)
  | some j => exact congrArg some (List.inj_on_of_nodup_map hnodup (booking?_mem hfind) hk (booking?_number hfind))

/-! ## Held bookings (R6, R118) -/

/-- Every booking that is Held was Held before. -/
def HeldFrom (a b : Blocks) : Prop :=
  ∀ k ∈ b.bookings, k.state = .held → ∃ j ∈ a.bookings, j.number = k.number ∧ j.state = .held

theorem HeldFrom.of_eq {a b : Blocks} (h : b.bookings = a.bookings) : HeldFrom a b := fun k hk hheld => ⟨k, h ▸ hk, rfl, hheld⟩

theorem HeldFrom.trans {a b c : Blocks} (h : HeldFrom a b) (k : HeldFrom b c) : HeldFrom a c := by
  intro x hx hheld
  obtain ⟨y, hy, hynumber, hyheld⟩ := k x hx hheld
  obtain ⟨z, hz, hznumber, hzheld⟩ := h y hy hyheld
  exact ⟨z, hz, hznumber.trans hynumber, hzheld⟩

section
variable {g : Booking → Booking} (hnumber : ∀ k, (g k).number = k.number) {a b : Blocks} {n : Nat}
  (h : b.bookings = a.bookings.map (rewriteBooking n g))
include hnumber h

theorem HeldFrom.of_rewritten (hstate : ∀ k, (g k).state = .held → k.state = .held) : HeldFrom a b := by
  intro k hk hheld
  rw [h] at hk
  obtain ⟨j, hj, rfl⟩ := List.mem_map.1 hk
  refine ⟨j, hj, (rewriteBooking_number hnumber n j).symm, ?_⟩
  unfold rewriteBooking at hheld
  split at hheld
  · exact hstate j hheld
  · exact hheld

/-- At the number of a rewrite stand rewritten bookings. -/
theorem rewritten_at {k : Booking} (hk : k ∈ b.bookings) (hn : k.number = n) : ∃ j, k = g j := by
  rw [h] at hk
  obtain ⟨j, -, rfl⟩ := List.mem_map.1 hk
  rw [rewriteBooking_number hnumber] at hn
  exact ⟨j, if_pos hn⟩

end

/-- No booking of a number is Held. -/
def UnheldAt (n : Nat) (b : Blocks) : Prop := ∀ k ∈ b.bookings, k.number = n → k.state ≠ .held

theorem UnheldAt.of_heldFrom {a b : Blocks} {n : Nat} (h : UnheldAt n a) (hfrom : HeldFrom a b) : UnheldAt n b := by
  intro k hk hn hheld
  obtain ⟨j, hj, hnumber, hjheld⟩ := hfrom k hk hheld
  exact h j hj (hnumber.trans hn) hjheld

theorem dispose_heldFrom (n : Nat) (o : LastOutcome) (x : Option Instant) (b : Blocks) : HeldFrom b (dispose n o x b) :=
  .of_rewritten (g := disposed o x) (fun _ => rfl) (dispose_bookings n o x b) (fun _ => id)

theorem recordSkips_heldFrom (n : Nat) (a : SearchAnswer) (b : Blocks) : HeldFrom b (recordSkips n a b) := by
  unfold recordSkips
  split
  · exact dispose_heldFrom _ _ _ b
  · exact .of_eq rfl

/-- A booking's record when nothing is left of it to place. -/
def retiredNow (k : Booking) : Booking := { k with state := .retiring }

/-- A retirement leaves bookings that stood, those of its number Retiring. -/
theorem retire_bookings (n : Nat) (b : Blocks) : ∀ k ∈ (retire n b).bookings, k ∈ b.bookings.map (rewriteBooking n retiredNow) := by
  have hfreed : ∀ (c : Blocks) x, ∀ k ∈ (freeSlot n { c with lastFreed := x }).bookings, k ∈ c.bookings := by
    intro c x k hk
    unfold freeSlot at hk
    split at hk
    · exact hk
    · exact List.mem_of_mem_filter hk
  intro k hk
  unfold retire at hk
  dsimp only at hk
  split at hk
  · rwa [report_bookings] at hk
  · exact hfreed _ _ k hk

section
variable {b : Blocks} {now : Instant} (hnow : b.time.now = some now)
include hnow

/-- With civil time set, a placement leaves its own booking not Held, and makes none Held. -/
theorem placeOnly_heldFrom (quiet : Bool) (n : Nat) : HeldFrom b (placeOnly quiet n b) ∧ UnheldAt n (placeOnly quiet n b) := by
  have hwritten : ∀ {g : Booking → Booking} {c d : Blocks}, HeldFrom b c → (∀ k, (g k).number = k.number) →
      (∀ k, (g k).state ≠ .held) → (∀ k ∈ d.bookings, k ∈ c.bookings.map (rewriteBooking n g)) → HeldFrom b d ∧ UnheldAt n d := by
    intro g c d hc hnumber hstate hd
    have hfrom := HeldFrom.of_rewritten (b := { c with bookings := c.bookings.map (rewriteBooking n g) }) hnumber rfl
      (fun k h => absurd h (hstate k))
    refine ⟨hc.trans fun k hk => hfrom k (hd k hk), fun k hk hn hheld => ?_⟩
    obtain ⟨j, rfl⟩ := rewritten_at (b := { c with bookings := c.bookings.map (rewriteBooking n g) }) hnumber rfl (hd k hk) hn
    exact hstate j hheld
  unfold placeOnly
  cases hk : b.booking? n with
  | none => exact ⟨.of_eq rfl, fun k hin hn => absurd (beq_iff_eq.2 hn) (List.find?_eq_none.1 hk k hin)⟩
  | some k =>
    have hskipped := recordSkips_heldFrom n (search b.almanac b.time.base now k.fields k.boundary) b
    rw [hnow]
    dsimp only
    split
    · exact hwritten (g := retiredNow) hskipped (fun _ => rfl) (fun _ h => by cases h) (retire_bookings n _)
    · split
      · exact hwritten (g := fun k => { k with state := .stalled }) hskipped (fun _ => rfl) (fun _ h => by cases h) fun _ h => h
      · exact hwritten (g := fun k => { k with state := .stalled }) hskipped (fun _ => rfl) (fun _ h => by cases h) fun _ h => by
          rwa [report_bookings] at h
    · exact hwritten (g := scheduledFor _) hskipped (fun _ => rfl) (fun _ h => by cases h) fun _ h => by
        rwa [insertWindow_bookings] at h

theorem startOnce_heldFrom (n : Nat) : HeldFrom b (startOnce n b) := by
  have hremoved := removeEntry_arming n b
  have htaken : HeldFrom b (removeEntry n b) := .of_eq hremoved.bookings
  have henters : ∀ (e : UpcomingEntry) (extra : List Nat) (c : Blocks), HeldFrom c (enter e extra c) := fun e extra c =>
    .of_rewritten (g := runningNow) (fun _ => rfl) (enter_bookings e extra c) (fun _ h => by cases h)
  have hplaces : ∀ (c : Blocks) m o x, c.time = b.time → HeldFrom c (placeOnly false m (dispose m o x c)) := fun c m o x hc =>
    (dispose_heldFrom m o x c).trans
      (placeOnly_heldFrom (b := dispose m o x c) (by rw [(dispose_placement m o x c).time, hc]; exact hnow) false m).1
  unfold startOnce
  split
  · exact .of_eq rfl
  dsimp only
  split
  · exact htaken.trans (henters _ _ _)
  split
  · exact htaken.trans (henters _ _ _)
  split
  · refine htaken.trans (.trans ?_ (henters _ _ _))
    exact .trans (b := dropRecord _ (removeEntry n b)) (.of_eq rfl) (hplaces _ _ _ _ hremoved.time)
  · exact htaken.trans (hplaces _ _ _ _ hremoved.time)

omit hnow in
theorem drain_heldFrom (fuel : Nat) : ∀ {b : Blocks} {now : Instant}, b.time.now = some now → HeldFrom b (drain false fuel b) := by
  induction fuel with
  | zero => exact fun _ => .of_eq rfl
  | succ fuel ih =>
    intro b now hnow
    unfold drain
    split
    · next e es t _ _ =>
      split
      · have htime : (startOnce e.number b).time.now = some now := by rw [startOnce_touches]; exact hnow
        exact (startOnce_heldFrom hnow e.number).trans (ih htime)
      · exact .of_eq rfl
    · exact .of_eq rfl

end

/-- A batch of every Held booking, with civil time set, leaves none Held. -/
theorem placeBatch_unheld {b : Blocks} {now : Instant} (hnow : b.time.now = some now) (quiet : Bool) :
    ∀ k ∈ (placeBatch quiet (b.numbersIn (fun k => decide (k.state = .held))) b).bookings, k.state ≠ .held := by
  have hplaced : ∀ (l : List Nat) {c : Blocks}, c.time.now = some now →
      HeldFrom c (forEach l (placeOnly quiet) c) ∧ (∀ n ∈ l, UnheldAt n (forEach l (placeOnly quiet) c)) ∧
        (forEach l (placeOnly quiet) c).time.now = some now := by
    intro l
    induction l with
    | nil => exact fun hc => ⟨.of_eq rfl, fun n hn => absurd hn List.not_mem_nil, hc⟩
    | cons n l ih =>
      intro c hc
      obtain ⟨hfrom, hat⟩ := placeOnly_heldFrom hc quiet n
      obtain ⟨hrest, hall, htime⟩ := ih (c := placeOnly quiet n c) (by rw [placeOnly_touches]; exact hc)
      refine ⟨hfrom.trans hrest, fun m hm => ?_, htime⟩
      obtain rfl | hm := List.mem_cons.1 hm
      · exact hat.of_heldFrom hrest
      · exact hall m hm
  obtain ⟨hfrom, hat, htime⟩ := hplaced (b.numbersIn (fun k => decide (k.state = .held))) hnow
  intro k hk hheld
  obtain ⟨j, hj, -, hjheld⟩ := drain_heldFrom _ htime k hk hheld
  obtain ⟨i, hi, hnumber, hiheld⟩ := hfrom j hj hjheld
  exact hat j.number (mem_numbersIn.2 ⟨i, hi, hnumber, decide_eq_true hiheld⟩) j hj rfl hjheld

/-! ## A batch whose searches all find a later window (R33) -/

/-- The windows of a list of bookings are listed, and nothing else of the bookings, the table or the other entries moves. -/
structure Listed (a : Blocks) (now : Instant) (ns : List Nat) (b : Blocks) : Prop where
  kept : TouchesPlacement a b
  booked : ∀ n ∈ ns, ∀ k w bd, a.booking? n = some k →
    search a.almanac a.time.base now k.fields k.boundary = ⟨.window w, bd, false⟩ → b.booking? n = some (scheduledFor w k) ∧
      ∃ e ∈ b.upcoming, e.number = n ∧ e.tier = k.fields.tier ∧ e.day = w.day ∧ e.start = w.start ∧ e.finish = w.finish
  others : ∀ n, n ∉ ns → b.booking? n = a.booking? n
  stays : ∀ e ∈ a.upcoming, ∃ x ∈ b.upcoming, x = { e with armed := x.armed }
  later : (∀ e ∈ a.upcoming, now < e.start) → ∀ e ∈ b.upcoming, now < e.start

theorem insertWindow_stays (n : Nat) (tier : Tier) (now : Instant) (w : Window) {b : Blocks} {e : UpcomingEntry} (he : e ∈ b.upcoming) :
    ∃ x ∈ (insertWindow n tier now w b).upcoming, x = { e with armed := x.armed } := by
  obtain ⟨ns, hupcoming⟩ := insertWindow_upcoming n tier now w b
  refine ⟨armedAmong ns e, ?_, ?_⟩
  · rw [hupcoming]
    exact List.mem_map_of_mem (mem_insertUpcoming.2 (.inr he))
  · unfold armedAmong
    split <;> rfl

/-- Whether a search finds, for a booking, a window later than now. -/
def FindsLater (b : Blocks) (now : Instant) (k : Booking) : Prop :=
  ∃ (w : Window) (bd : Option Instant),
    search b.almanac b.time.base now k.fields k.boundary = ⟨.window w, bd, false⟩ ∧ now < w.start

theorem placeOnly_listed {b : Blocks} {n : Nat} {k : Booking} {now : Instant} (hk : b.booking? n = some k)
    (hnow : b.time.now = some now) (hfinds : FindsLater b now k) (quiet : Bool) : Listed b now [n] (placeOnly quiet n b) := by
  obtain ⟨w, bd, hsearch, hlater⟩ := hfinds
  rw [placeOnly_of_window hk hnow quiet hsearch]
  refine ⟨insertWindow_placement _ _ _ _ _, fun m hm j v vd hj hjsearch => ?_, fun m hm => ?_,
    fun e he => insertWindow_stays _ _ _ _ he, fun hall e he => ?_⟩
  · obtain rfl := List.mem_singleton.1 hm
    obtain rfl : k = j := Option.some.inj (hk.symm.trans hj)
    obtain rfl : w = v := by
      rw [hsearch] at hjsearch
      cases hjsearch
      rfl
    obtain ⟨e, he, hnumber, htier, hday, hstart, hfinish, -⟩ := insertWindow_lists m k.fields.tier now w b
    refine ⟨?_, e, he, hnumber, htier, hday, hstart, hfinish⟩
    rw [insertWindow_booking?, if_pos rfl, hk]
    rfl
  · rw [insertWindow_booking?, if_neg fun h => hm (List.mem_singleton.2 h)]
  · obtain ⟨-, hstart⟩ | ⟨y, hy, -, hstart⟩ := insertWindow_entries _ _ _ _ _ he
    · rw [hstart]
      exact hlater
    · rw [← hstart]
      exact hall y hy

/-- A list of distinct bookings is placed one after another. -/
theorem forEach_listed {now : Instant} (quiet : Bool) : ∀ {l : List Nat}, l.Nodup → ∀ {b : Blocks}, b.time.now = some now →
    (∀ n ∈ l, ∃ k, b.booking? n = some k ∧ FindsLater b now k) → Listed b now l (forEach l (placeOnly quiet) b)
  | [], _, b, _, _ => ⟨.refl b, fun n hn => absurd hn List.not_mem_nil, fun _ _ => rfl, fun e he => ⟨e, he, rfl⟩, fun h => h⟩
  | n :: l, hnodup, b, hnow, hall => by
    obtain ⟨hn, hl⟩ := List.nodup_cons.1 hnodup
    obtain ⟨k, hk, hfinds⟩ := hall n List.mem_cons_self
    have hfirst := placeOnly_listed hk hnow hfinds quiet
    have hsame : ∀ m ∈ l, (placeOnly quiet n b).booking? m = b.booking? m := fun m hm =>
      hfirst.others m fun h => hn (List.mem_singleton.1 h ▸ hm)
    have hrest := forEach_listed (now := now) quiet hl (b := placeOnly quiet n b) (hfirst.kept.time.symm ▸ hnow) fun m hm => by
      obtain ⟨j, hj, hjfinds⟩ := hall m (List.mem_cons_of_mem n hm)
      refine ⟨j, (hsame m hm).trans hj, ?_⟩
      unfold FindsLater
      rw [hfirst.kept.almanac, hfirst.kept.time]
      exact hjfinds
    refine ⟨hfirst.kept.trans hrest.kept, fun m hm j w bd hj hsearch => ?_, fun m hm => ?_, fun e he => ?_,
      fun h => hrest.later (hfirst.later h)⟩
    · obtain rfl | hm := List.mem_cons.1 hm
      · obtain ⟨hbooked, e, he, hlisted⟩ := hfirst.booked m List.mem_cons_self j w bd hj hsearch
        obtain ⟨x, hx, hsame⟩ := hrest.stays e he
        refine ⟨(hrest.others m hn).trans hbooked, x, hx, ?_⟩
        rw [hsame]
        exact hlisted
      · refine hrest.booked m hm j w bd ((hsame m hm).trans hj) ?_
        rw [hfirst.kept.almanac, hfirst.kept.time]
        exact hsearch
    · rw [forEach_cons, hrest.others m fun h => hm (List.mem_cons_of_mem n h), hfirst.others m fun h => hm (by
        rw [List.mem_singleton.1 h]
        exact List.mem_cons_self)]
    · obtain ⟨x, hx, hxsame⟩ := hfirst.stays e he
      obtain ⟨y, hy, hysame⟩ := hrest.stays x hx
      exact ⟨y, hy, by rw [hysame, hxsame]⟩

/-- A batch whose searches all find a later window, from a list without due entries, starts nothing. -/
theorem placeBatch_listed {b : Blocks} {now : Instant} (hnow : b.time.now = some now) (hlater : ∀ e ∈ b.upcoming, now < e.start)
    {l : List Nat} (hnodup : l.Nodup) (hall : ∀ n ∈ l, ∃ k, b.booking? n = some k ∧ FindsLater b now k) (quiet : Bool) :
    Listed b now l (placeBatch quiet l b) := by
  have hlisted := forEach_listed quiet hnodup hnow hall
  have hdrained : placeBatch quiet l b = forEach l (placeOnly quiet) b :=
    drain_of_later false _ (hlisted.kept.time.symm ▸ hnow) (hlisted.later hlater)
  rw [hdrained]
  exact hlisted

/-! ## Marks (R118, R119) -/

/-- The blocks with a mark's measurement restarted and the state Free. -/
def freed (edge : Option Nat) (b : Blocks) : Blocks := { b with
  time := { b.time with
    state := .free
    slew := if b.time.state = .locked then 0 else b.time.slew
    pending := none, lastEdge := edge, run := [], interval := 0, lastInterval := 0, frozen := false, bad := 0
    tickFrom := b.ownUs, ticks := 0, withhold := false }
  notices := (if b.time.state = .free then b else b.report .timeBase .timeState).notices }

theorem setTimeState_freed (edge : Option Nat) (b : Blocks) :
    setTimeState .free (b.updateTime (restartMeasurement edge b.ownUs)) = freed edge b := by
  have hslew : ∀ st : TimeState, (if st = .locked ∧ TimeState.free ≠ .locked then (0 : Int) else b.time.slew) =
      if st = .locked then 0 else b.time.slew := fun st => by simp
  have hnotices : (if b.time.state = .free then b.updateTime (restartMeasurement edge b.ownUs)
      else (b.updateTime (restartMeasurement edge b.ownUs)).report .timeBase .timeState).notices =
      (if b.time.state = .free then b else b.report .timeBase .timeState).notices := by
    split
    · rfl
    · unfold Blocks.report
      rw [submit_notices, submit_notices]
      rfl
  rw [setTimeState_eq]
  unfold freed
  rw [← hnotices, ← hslew]
  rfl

/-- A mark's value on a set civil time is a step. -/
theorem applyMark_steps {b : Blocks} {old : Instant} (h : b.time.now = some old) (v : Instant) (edge : Option Nat) :
    applyMark v edge b = stepTo v (freed edge b) := by
  unfold applyMark
  rw [h, setTimeState_freed]

/-- The blocks of a first setting with now written. -/
def firstSet (v : Instant) (edge : Option Nat) (b : Blocks) : Blocks :=
  { freed edge b with time := { (freed edge b).time with now := some v } }

theorem applyMark_first {b : Blocks} (h : b.time.now = none) {v : Instant} (hlast : v ≤ 5662310399999) (edge : Option Nat) :
    applyMark v edge b = firstSetting (firstSet v edge b) := by
  have hmin : min v Config.lastInstant = v := min_eq_left hlast
  unfold applyMark
  rw [h, setTimeState_freed]
  dsimp only
  rw [hmin]
  rfl

theorem firstSetting_window (b : Blocks) :
    TouchesWindow (placeBatch false (b.numbersIn (fun k => decide (k.state = .held))) b) (firstSetting b) :=
  (followWindow_window _).trans (prune_window _)

/-- The first setting leaves no booking Held. -/
theorem firstSetting_unheld {b : Blocks} {now : Instant} (hnow : b.time.now = some now) :
    ∀ k ∈ (firstSetting b).bookings, k.state ≠ .held := by
  rw [(firstSetting_window b).bookings]
  exact placeBatch_unheld hnow false

/-- With every Held booking's window still to come, the first setting Schedules each and starts none (R33). -/
theorem firstSetting_lists {b : Blocks} {now : Instant} (hnow : b.time.now = some now)
    (hnodup : (b.bookings.map (fun k => k.number)).Nodup) (hempty : b.upcoming = [])
    (hall : ∀ k ∈ b.bookings, k.state = .held → FindsLater b now k) :
    (firstSetting b).active = b.active ∧ ∀ k ∈ b.bookings, ∀ (w : Window) (bd : Option Instant), k.state = .held →
      search b.almanac b.time.base now k.fields k.boundary = ⟨.window w, bd, false⟩ →
      scheduledFor w k ∈ (firstSetting b).bookings ∧ ∃ e ∈ (firstSetting b).upcoming,
        e.number = k.number ∧ e.tier = k.fields.tier ∧ e.day = w.day ∧ e.start = w.start ∧ e.finish = w.finish := by
  have hwindow := firstSetting_window b
  have hlisted := placeBatch_listed hnow (by simp [hempty]) (numbersIn_pairwise b (fun k => decide (k.state = .held))).nodup
    (fun n hn => by
      obtain ⟨k, hk, rfl, hheld⟩ := mem_numbersIn.1 hn
      exact ⟨k, booking?_of_mem hnodup hk, hall k hk (of_decide_eq_true hheld)⟩) false
  refine ⟨hwindow.active.trans hlisted.kept.active, fun k hk w bd hheld hsearch => ?_⟩
  obtain ⟨hbooked, hentry⟩ := hlisted.booked k.number (mem_numbersIn.2 ⟨k, hk, rfl, decide_eq_true hheld⟩) k w bd
    (booking?_of_mem hnodup hk) hsearch
  rw [hwindow.bookings, hwindow.upcoming]
  exact ⟨booking?_mem hbooked, hentry⟩

theorem markValue_eq (day tod : Nat) : markValue day tod = (day : Int) * 86400000 + tod := rfl

section
variable {day tod : Nat} {mode : Code MarkMode} (b : Blocks)

theorem markTime_refused (h : 65535 < day ∨ 86400000 ≤ tod ∨ mode = .unknown) : markTime day tod mode b = (b, refuse .outOfRange) := by
  unfold markTime
  split
  · rfl
  · next hrange =>
    obtain hday | htod | rfl := h
    · exact absurd (by simp [not_le.2 hday]) hrange
    · have hout : ¬(tod : Int) < Config.dayMs := not_lt.2 (Int.ofNat_le.2 htod)
      exact absurd (by simp [hout]) hrange
    · rfl

theorem markTime_taken (hday : day ≤ 65535) (htod : tod < 86400000) :
    (!(decide (day ≤ 65535) && decide ((tod : Int) < Config.dayMs))) = false := by
  have hin : (tod : Int) < Config.dayMs := Int.ofNat_lt.2 htod
  rw [decide_eq_true hday, decide_eq_true hin]
  rfl

theorem markTime_now (hday : day ≤ 65535) (htod : tod < 86400000) : markTime day tod (.known .now) b =
    (applyMark (markValue day tod) none b, okWith (.marked (applyMark (markValue day tod) none b).time.state
      (applyMark (markValue day tod) none b).time.now (applyMark (markValue day tod) none b).time.lastStep
      (applyMark (markValue day tod) none b).time.pending)) := by
  unfold markTime
  rw [markTime_taken hday htod]
  rfl

theorem markTime_nextPulse (hday : day ≤ 65535) (htod : tod < 86400000) : markTime day tod (.known .nextPulse) b =
    ({ b with time := { b.time with pending := some ⟨day, tod, b.ownUs⟩ } },
      okWith (.marked b.time.state b.time.now b.time.lastStep (some ⟨day, tod, b.ownUs⟩))) := by
  unfold markTime
  rw [markTime_taken hday htod]
  rfl

theorem markValue_last (hday : day ≤ 65535) (htod : tod < 86400000) : min (markValue day tod) Config.lastInstant = markValue day tod := by
  refine min_eq_left ?_
  show (day : Int) * 86400000 + tod ≤ 5662310399999
  omega

end

theorem exec_pulseEdge_pending {s : State} {p : PendingMark} (h : s.blocks.time.pending = some p) (d : Nat) :
    exec (.pulseEdge d) s =
      .next { s with blocks := applyMark (markValue p.day p.timeOfDay) (some (s.blocks.ownUs + d)) (later d s.blocks) } := by
  have htakes : takeEdge (later d s.blocks) =
      applyMark (markValue p.day p.timeOfDay) (some (s.blocks.ownUs + d)) (later d s.blocks) := by
    unfold takeEdge
    rw [show (later d s.blocks).time.pending = some p from h]
    rfl
  rw [exec_pulseEdge, htakes]

theorem exec_pendingMarkExpiry {s : State} {p : PendingMark} (h : s.blocks.time.pending = some p) :
    exec .pendingMarkExpiry s = .next { s with blocks := (applyMark
      (min Config.lastInstant (markValue p.day p.timeOfDay + Config.pendingMs)) none
      (s.blocks.advanceTo (p.taken + Config.pendingMs * 1000))) } := by
  refine exec_event_eq rfl rfl ?_
  show pendingExpiry s.blocks = _
  unfold pendingExpiry
  rw [h]

/-- Settles O27: how a mark's value is applied, and which commands apply it. -/
theorem marksSetNow : Obligations.MarksSetNow := by
  unfold Obligations.MarksSetNow
  refine ⟨fun s r day tod mode hasks hout => ?_, fun b m v edge hlast hm => ⟨fun old hold => ?_, fun hunset => ⟨?_, ?_, ?_⟩⟩,
    fun quiet ns b m hm => ⟨?_, ?_, ?_, fun e es now fuel hhead hnow => ?_⟩, fun s d p hpending => ?_,
    fun s r day tod hasks hday htod => ?_, fun s r day tod hasks hday htod => ?_, fun s m hpending => ?_⟩
  · rw [exec_markTime hasks, markTime_refused _ hout]
  · obtain rfl : m = freed edge b := hm
    exact applyMark_steps hold v edge
  · obtain rfl : m = freed edge b := hm
    exact applyMark_first hunset hlast edge
  · rw [applyMark_first hunset hlast]
    exact firstSetting_unheld (now := v) rfl
  · intro hnodup hempty hall
    rw [applyMark_first hunset hlast]
    exact firstSetting_lists (b := firstSet v edge b) (now := v) rfl hnodup hempty hall
  · have hplaced := forEach_rel TouchesPlacement.refl TouchesPlacement.trans (placeOnly_placement quiet) ns b
    rw [hm]
    exact hplaced.active
  · have hplaced := forEach_rel TouchesPlacement.refl TouchesPlacement.trans (placeOnly_placement quiet) ns b
    rw [hm]
    exact hplaced.holding
  · rw [hm]
    rfl
  · by_cases hdue : e.start ≤ now
    · rw [if_pos hdue, drain_of_head false fuel hhead hnow hdue]
      rfl
    · rw [if_neg hdue]
      unfold drain
      rw [hhead, hnow]
      exact if_neg hdue
  · have htime := applyMark_time (markValue p.day p.timeOfDay) (some (s.blocks.ownUs + d)) (later d s.blocks)
    refine ⟨_, exec_pulseEdge_pending hpending d, rfl, rfl, ?_⟩
    dsimp only
    rw [htime, markedTime, min_comm]
    exact ⟨rfl, rfl, rfl, rfl, rfl, rfl, rfl, rfl, rfl⟩
  · have hcivil := applyMark_civil (markValue day tod) none s.blocks
    have htime := applyMark_time (markValue day tod) none s.blocks
    have hlast := markValue_last hday htod
    refine ⟨applyMark (markValue day tod) none s.blocks, ?_, rfl, ?_⟩
    · rw [exec_markTime hasks, markTime_now _ hday htod, htime, markedTime, hlast]
      rfl
    · rw [hcivil.cue, hcivil.risers, hcivil.programs, htime, markedTime, hlast]
      refine ⟨rfl, rfl, rfl, rfl, rfl, rfl, rfl, rfl, rfl, ?_, rfl, rfl, rfl⟩
      cases s.blocks.time.now with
      | none => rfl
      | some old => rfl
  · rw [exec_markTime hasks, markTime_nextPulse _ hday htod]
  · have hcivil := applyMark_civil (min Config.lastInstant (markValue m.day m.timeOfDay + Config.pendingMs)) none
      (s.blocks.advanceTo (m.taken + Config.pendingMs * 1000))
    have hown := hcivil.ownUs
    have htime := hcivil.time
    refine ⟨_, exec_pendingMarkExpiry hpending, rfl, ?_⟩
    dsimp only
    rw [hown, htime]
    refine ⟨?_, rfl, rfl, rfl, rfl, rfl, rfl⟩
    show some (min (min Config.lastInstant (markValue m.day m.timeOfDay + Config.pendingMs)) Config.lastInstant) = _
    rw [min_eq_left (min_le_left _ _)]
    rfl

end Sys2Proof.Machine

/-! PROOFS. Load Almanac (R123 to R125): obligation O29. -/

namespace Sys2Proof.Machine

/-! ## The almanac's entries by day (R123, R124) -/

/-- A stored entry is found at its day, and every other day's entry stands. -/
theorem storeDay_find? (e : AlmanacDay) (l : List AlmanacDay) (d : Nat) :
    (storeDay e l).find? (fun x => x.day == d) = if e.day = d then some e else l.find? (fun x => x.day == d) := by
  have hcons : ∀ (y : AlmanacDay) (ys : List AlmanacDay), (y :: ys).find? (fun x => x.day == d) =
      if y.day = d then some y else ys.find? (fun x => x.day == d) := fun y ys => by
    split
    · next hd => exact List.find?_cons_of_pos (beq_iff_eq.2 hd)
    · next hd => exact List.find?_cons_of_neg fun h => hd (beq_iff_eq.1 h)
  induction l with
  | nil => exact hcons e []
  | cons x xs ih =>
    unfold storeDay
    split
    · exact hcons e (x :: xs)
    split
    · next hsame => rw [hcons, hcons, hsame]; split <;> rfl
    · next hother =>
      rw [hcons, hcons, ih]
      by_cases hx : x.day = d
      · rw [if_pos hx, if_pos hx, if_neg fun hd => hother (hd.trans hx.symm)]
      · rw [if_neg hx, if_neg hx]

/-- Of several entries for a day, the last stored stands (R124). -/
theorem storeDays_find? (stored l : List AlmanacDay) (d : Nat) :
    (stored.foldl (fun l e => storeDay e l) l).find? (fun e => e.day == d) =
      ((stored.reverse.find? (fun e => e.day == d)) <|> (l.find? (fun e => e.day == d))) := by
  induction stored generalizing l with
  | nil => rfl
  | cons e stored ih =>
    rw [List.foldl_cons, ih, storeDay_find?, List.reverse_cons, List.find?_append]
    cases stored.reverse.find? (fun e => e.day == d) with
    | some x => rfl
    | none =>
      by_cases hd : e.day = d
      · simp [hd]
      · simp [hd]

theorem mem_toStore {b : Blocks} {days : List AlmanacDay} {e : AlmanacDay} (he : e ∈ days) :
    e ∈ b.toStore days ↔ ∀ now, b.time.now = some now → now / 86400000 - 7 ≤ (e.day : Int) := by
  unfold Blocks.toStore
  cases hnow : b.time.now with
  | none => exact iff_of_true he fun _ h => by cases h
  | some now =>
    have hkept : dayOf now ≤ (e.day : Int) + 7 ↔ now / 86400000 - 7 ≤ (e.day : Int) := sub_le_iff_le_add.symm
    rw [List.mem_filter, decide_eq_true_eq, hkept]
    exact ⟨fun h _ hn => by cases hn; exact h.2, fun h => ⟨he, h now rfl⟩⟩

/-! ## The bookings that a load has placed again (R125) -/

theorem solar_iff (a : Anchor) : a.solar = true ↔ ∀ t, a ≠ .clock t := by
  cases a <;> simp [Anchor.solar]

theorem fieldsSolar_iff (f : BookingFields) : f.solar = true ↔
    (∀ t, f.start ≠ .clock t) ∨ ∃ a, f.finish = .anchored a ∧ ∀ t, a ≠ .clock t := by
  unfold BookingFields.solar
  rw [Bool.or_eq_true, solar_iff]
  refine or_congr_right ?_
  cases f.finish with
  | anchored a => simp [solar_iff]
  | duration n => simp

theorem reexamined_iff (b : Blocks) (stored : List AlmanacDay) (k : Booking) : b.reexamined stored k = true ↔
    k.state = .stalled ∨ (k.state = .scheduled ∧
      ((∀ t, k.fields.start ≠ .clock t) ∨ ∃ a, k.fields.finish = .anchored a ∧ ∀ t, a ≠ .clock t) ∧
      ∃ e, b.upcoming? k.number = some e ∧ (e.estimated = true ∨ ∃ x ∈ stored, x.day = e.day ∨ x.day = e.day + 1)) := by
  unfold Blocks.reexamined
  cases hstate : k.state with
  | stalled => simp
  | scheduled =>
    cases hentry : b.upcoming? k.number with
    | none => simp
    | some e => simp [fieldsSolar_iff]
  | held => simp
  | running => simp
  | retiring => simp

/-! ## The load -/

theorem dayInRange_iff (e : AlmanacDay) : dayInRange e = true ↔ e.day ≤ 65535 ∧ e.sunset < 86400000 ∧ e.sunrise < 86400000 := by
  have hms : ∀ n : Nat, ((n : Int) < Config.dayMs) ↔ n < 86400000 := fun n => Int.ofNat_lt (n := n) (m := 86400000)
  unfold dayInRange
  rw [Bool.and_eq_true, Bool.and_eq_true, decide_eq_true_eq, decide_eq_true_eq, decide_eq_true_eq, hms, hms, and_assoc]

theorem daysInRange_iff (days : List AlmanacDay) : days.all dayInRange = true ↔
    ∀ e ∈ days, e.day ≤ 65535 ∧ e.sunset < 86400000 ∧ e.sunrise < 86400000 := by
  rw [List.all_eq_true]
  exact forall₂_congr fun e _ => dayInRange_iff e

/-- The blocks of a load with its days stored and the bookings it touches placed again. -/
def loaded (stored : List AlmanacDay) (b : Blocks) : Blocks :=
  placeBatch true (b.numbersIn (b.reexamined stored)) (forEach (b.numbersIn (b.reexamined stored)) removeEntry
    { b with almanac := stored.foldl (fun l e => storeDay e l) b.almanac })

theorem loaded_touches (stored : List AlmanacDay) (b : Blocks) :
    TouchesEngine { b with almanac := stored.foldl (fun l e => storeDay e l) b.almanac } (loaded stored b) :=
  (forEach_rel TouchesEngine.refl TouchesEngine.trans removeEntry_touches _ _).trans (placeBatch_touches _ _ _)

section
variable {days : List AlmanacDay} {b : Blocks} (hfew : days.length ≤ 16)
include hfew

theorem loadAlmanac_outside (hout : ∃ e ∈ days, 65535 < e.day ∨ 86400000 ≤ e.sunset ∨ 86400000 ≤ e.sunrise) :
    loadAlmanac days b = (b, refuse .outOfRange) := by
  have hall : days.all dayInRange = false := by
    rw [Bool.eq_false_iff]
    intro hall
    obtain ⟨e, he, hout⟩ := hout
    obtain ⟨hday, hsunset, hsunrise⟩ := (daysInRange_iff days).1 hall e he
    omega
  unfold loadAlmanac
  rw [if_neg (not_lt.2 hfew), hall]
  rfl

variable (hin : ∀ e ∈ days, e.day ≤ 65535 ∧ e.sunset < 86400000 ∧ e.sunrise < 86400000)
include hin

theorem loadAlmanac_full (hfull : 400 < b.almanac.length + (b.newDays (b.toStore days)).length) :
    loadAlmanac days b = (b, refuseWith .tableFull (.almanacHeld b.almanac.length)) := by
  unfold loadAlmanac
  rw [if_neg (not_lt.2 hfew), (daysInRange_iff days).2 hin]
  exact if_pos hfull

theorem loadAlmanac_stores {stored : List AlmanacDay} (hstored : stored = b.toStore days)
    (hroom : b.almanac.length + (b.newDays stored).length ≤ 400) :
    loadAlmanac days b = (loaded stored b, okWith (.almanac stored.length (days.length - stored.length) (loaded stored b).almanac.length
      ((loaded stored b).almanac.head?.map (fun e => e.day)) ((loaded stored b).almanac.getLast?.map (fun e => e.day))
      (b.numbersIn (b.reexamined stored)).length
      ((loaded stored b).bookings.filter
        (fun k => decide (k.number ∈ b.numbersIn (b.reexamined stored)) && decide (k.state = .stalled))).length)) := by
  subst hstored
  unfold loadAlmanac
  rw [if_neg (not_lt.2 hfew), (daysInRange_iff days).2 hin]
  exact if_neg (not_lt.2 hroom)

end

/-- Settles O29. -/
theorem loadAlmanacStoresTheDays : Obligations.LoadAlmanacStoresTheDays := by
  unfold Obligations.LoadAlmanacStoresTheDays
  refine ⟨fun s r days hasks hmany => ?_, fun s r days hasks hfew hout => ?_, fun s r days stored hasks hfew hin hstored hroom => ?_,
    fun s r days hasks hfew hin hfull => ?_⟩
  · rw [exec_loadAlmanac hasks, show loadAlmanac days s.blocks = (s.blocks, refuse .malformed) from if_pos hmany]
  · rw [exec_loadAlmanac hasks, loadAlmanac_outside hfew hout]
  · have htouches := loaded_touches stored s.blocks
    have halmanac : (loaded stored s.blocks).almanac = stored.foldl (fun l e => storeDay e l) s.blocks.almanac := by rw [htouches]
    refine ⟨loaded stored s.blocks, s.blocks.numbersIn (s.blocks.reexamined stored), ?_, fun d => ?_, fun e he => ?_,
      numbersIn_pairwise _ _, fun n => ?_, ?_, ?_, ?_⟩
    · rw [exec_loadAlmanac hasks, loadAlmanac_stores hfew hin hstored hroom]
    · rw [halmanac]
      exact storeDays_find? stored s.blocks.almanac d
    · rw [hstored]
      exact mem_toStore he
    · rw [mem_numbersIn]
      refine exists_congr fun k => and_congr_right fun _ => and_congr_right fun hn => ?_
      rw [reexamined_iff, hn]
    · rw [halmanac]
      rfl
    · rw [htouches]
    · rw [htouches]
  · rw [exec_loadAlmanac hasks, loadAlmanac_full hfew hin hfull]

end Sys2Proof.Machine

/-! PROOFS. Restart Schedule (R12, R48, R66, R154, R167, R174, R184): obligation O21. -/

namespace Sys2Proof.Machine

/-! ## What the engine may write within a Restart Schedule (R66, R174) -/

/-- Only the engine's tables, the settle counts, the feeders' arm claims, the notices and the list of deferred feeders may differ, in a
part that still defers Feeder Control. -/
structure Deferred (a b : Blocks) : Prop where
  frame : b = { a with
    bookings := b.bookings, upcoming := b.upcoming, nextId := b.nextId, lastFreed := b.lastFreed, holding := b.holding
    active := b.active, chain := { a.chain with faces := b.chain.faces }, feeders := b.feeders, notices := b.notices
    deferral := b.deferral }
  waits : b.deferral.isSome = true
  claims : ∀ f, b.feeder f = { a.feeder f with armClaims := (b.feeder f).armClaims }

theorem Deferred.refl {b : Blocks} (h : b.deferral.isSome = true) : Deferred b b := ⟨rfl, h, fun _ => rfl⟩

/-- Only the engine's tables and the notices may differ. -/
def TouchesTables (a b : Blocks) : Prop :=
  b = { a with
    bookings := b.bookings, upcoming := b.upcoming, nextId := b.nextId, lastFreed := b.lastFreed, holding := b.holding
    active := b.active, notices := b.notices }

theorem submit_tables (b : Blocks) (r : RecordId) (k : ChangeKind) (o : Option LastOutcome) : TouchesTables b (b.submit r k o) := by
  unfold TouchesTables Blocks.submit
  split <;> rfl

section
variable {a b c : Blocks} (h : Deferred a b)
include h

theorem Deferred.tables (hc : TouchesTables b c) : Deferred a c := by
  have hfeeders : c.feeders = b.feeders := by rw [hc]
  obtain ⟨hframe, hwaits, hclaims⟩ := h
  refine ⟨?_, by rw [hc]; exact hwaits, fun f => ?_⟩
  · rw [hc, hframe]
  · rw [feeder_congr hfeeders]
    exact hclaims f

theorem Deferred.reevaluateFeeder (f : Nat) : Deferred a (reevaluateFeeder f b) := by
  obtain ⟨hframe, hwaits, hclaims⟩ := h
  obtain ⟨l, hl⟩ := Option.isSome_iff_exists.1 hwaits
  unfold Machine.reevaluateFeeder
  rw [hl]
  exact ⟨by rw [hframe], rfl, hclaims⟩

theorem Deferred.armClaims (f : Nat) (g : List Nat → List Nat) :
    Deferred a (b.updateFeeder f (fun x => { x with armClaims := g x.armClaims })) := by
  obtain ⟨hframe, hwaits, hclaims⟩ := h
  refine ⟨by rw [hframe]; rfl, hwaits, fun m => ?_⟩
  by_cases hm : m = f
  · subst hm
    by_cases hin : m < b.feeders.length
    · rw [updateFeeder_feeder_self b m _ hin, hclaims m]
    · rw [feeder_congr (b := b) (by rw [updateFeeder_feeders, List.set_eq_of_length_le (not_lt.1 hin)])]
      exact hclaims m
  · rw [updateFeeder_feeder_other hm]
    exact hclaims m

theorem Deferred.report (r : RecordId) (k : ChangeKind) : Deferred a (b.report r k) := h.tables (submit_tables b r k none)

theorem Deferred.claimFeeder (n f : Nat) : Deferred a (claimFeeder n f b) := (h.armClaims f (insertAsc n)).reevaluateFeeder f

theorem Deferred.releaseFeeder (n f : Nat) : Deferred a (releaseFeeder n f b) := by
  unfold Machine.releaseFeeder
  split
  · exact (h.armClaims f (fun l => l.filter (fun m => m != n))).reevaluateFeeder f
  · exact h

theorem Deferred.armEntry (n : Nat) : Deferred a (armEntry n b) := by
  rw [armEntry_eq]
  exact forEach_keeps (P := Deferred a) (fun f _ hx => hx.claimFeeder n f) _ _ (h.tables rfl)

theorem Deferred.removeEntry (n : Nat) : Deferred a (removeEntry n b) := by
  have hreleased : ∀ (x : Blocks) (armed : Bool), Deferred a x → Deferred a (if armed then releaseClaims n x else x) := by
    intro x armed hx
    split
    · exact forEach_keeps (P := Deferred a) (fun f _ hy => hy.releaseFeeder n f) _ _ hx
    · exact hx
  unfold Machine.removeEntry
  split
  · exact h
  · exact hreleased _ _ (h.tables rfl)

theorem Deferred.insertWindow (n : Nat) (t : Tier) (now : Instant) (w : Window) : Deferred a (insertWindow n t now w b) := by
  have hlisted : Deferred a (windowListed n t w b) := by
    have hscheduled := h.tables (c := schedule n w.marks { b with upcoming := insertUpcoming (windowEntry n t w) b.upcoming }) rfl
    unfold windowListed reportIf
    split
    · exact hscheduled.report _ _
    · exact hscheduled
  rw [insertWindow_eq]
  split
  · exact hlisted.armEntry n
  · exact hlisted

theorem Deferred.retire (n : Nat) : Deferred a (retire n b) := by
  have hfreed : ∀ (x : Blocks) k, Deferred a x → Deferred a (freeSlot n { x with lastFreed := k }) := by
    intro x k hx
    unfold freeSlot
    split
    · exact hx.tables rfl
    · exact hx.tables rfl
  have hretiring : Deferred a (b.updateBooking n (fun k => { k with state := .retiring })) := h.tables rfl
  unfold Machine.retire
  dsimp only
  split
  · exact hretiring.report _ _
  · exact hfreed _ _ hretiring

theorem Deferred.dispose (n : Nat) (o : LastOutcome) (x : Option Instant) : Deferred a (dispose n o x b) :=
  h.tables (by unfold TouchesTables; rw [dispose_eq])

theorem Deferred.placeOnly (quiet : Bool) (n : Nat) : Deferred a (placeOnly quiet n b) := by
  have hskips : ∀ x, Deferred a (recordSkips n x b) := by
    intro x
    unfold recordSkips
    split
    · exact h.dispose _ _ _
    · exact h
  have hset : ∀ (st : BookingState) (x : Blocks), Deferred a x → Deferred a (setBookingState n st x) := fun _ _ hx => hx.tables rfl
  unfold Machine.placeOnly
  split
  · exact h
  split
  · exact hset _ _ h
  dsimp only
  split
  · exact (hskips _).retire n
  · split
    · exact hset _ _ (hskips _)
    · exact (hset _ _ (hskips _)).report _ _
  · exact (hskips _).insertWindow n _ _ _

theorem Deferred.resolve (zones : List Nat) (newcomer : Option Nat) : Deferred a (resolve zones newcomer b) := by
  have hstill : (tableWritten zones b).fades = false := by
    unfold Blocks.fades
    show (!b.panelHold && b.deferral.isNone) = false
    rw [← Option.not_isSome, h.waits]
    exact Bool.and_false _
  have hfaded : Deferred a (changesFaded zones b) := by
    unfold changesFaded
    rw [hstill]
    exact h.tables rfl
  have htold : Deferred a (changesTold zones b) :=
    forEach_keeps (P := Deferred a) (fun z _ hx => hx.report _ _) _ _ hfaded
  have hcounted : Deferred a (recountHeld newcomer (changesTold zones b)) := by
    refine forEach_keeps (P := Deferred a) (fun o x hx => ?_) _ { changesTold zones b with active := _ } (htold.tables rfl)
    have hrecords := reportHeld_records newcomer o x
    have hfeeders : (reportHeld newcomer o x).feeders = x.feeders := by
      unfold reportHeld
      dsimp only
      split_ifs <;> simp
    refine hx.tables ?_
    unfold TouchesTables
    rw [hrecords, hfeeders]
  have hfeeders : ∀ l : List Nat, Deferred a (forEach l Machine.reevaluateFeeder (recountHeld newcomer (changesTold zones b))) :=
    fun l => forEach_keeps (P := Deferred a) (fun f _ hx => hx.reevaluateFeeder f) l _ hcounted
  have hlive : ∀ x, Deferred a x → Deferred a (reevaluateShowLive x) := by
    intro x hx
    obtain ⟨l, hl⟩ := Option.isSome_iff_exists.1 hx.waits
    unfold reevaluateShowLive
    rw [hl]
    exact hx
  rw [resolve_eq]
  exact hlive _ (hfeeders _)

theorem Deferred.enter (e : UpcomingEntry) (extra : List Nat) : Deferred a (enter e extra b) := by
  have hjoined : Deferred a (joined e b) := h.tables (by unfold TouchesTables; rw [joined_eq])
  have hreloaded : ∀ x, Deferred a x → Deferred a (baseReloaded e x) := by
    intro x hx
    obtain ⟨hframe, hwaits, hclaims⟩ := hx
    unfold baseReloaded
    split
    · exact ⟨by rw [hframe]; rfl, hwaits, hclaims⟩
    · exact ⟨hframe, hwaits, hclaims⟩
  rw [enter_eq]
  exact hreloaded _ (hjoined.resolve _ _)

theorem Deferred.startOnce (n : Nat) : Deferred a (startOnce n b) := by
  have hremoved := h.removeEntry n
  unfold Machine.startOnce
  split
  · exact h
  dsimp only
  split
  · exact hremoved.enter _ _
  split
  · exact hremoved.enter _ _
  split
  · exact (((hremoved.tables (c := dropRecord _ _) rfl).dispose _ _ _).placeOnly false _).enter _ _
  · exact (hremoved.dispose _ _ _).placeOnly false _

theorem Deferred.missEntry (e : UpcomingEntry) : Deferred a (missEntry e b) :=
  ((h.removeEntry _).dispose _ _ _).placeOnly false _

omit h in
theorem Deferred.drain (step : Bool) (fuel : Nat) : ∀ {b : Blocks}, Deferred a b → Deferred a (drain step fuel b) := by
  induction fuel with
  | zero => exact id
  | succ fuel ih =>
    intro b h
    unfold Machine.drain
    split
    · split
      · refine ih ?_
        split
        · exact h.missEntry _
        · exact h.startOnce _
      · exact h
    · exact h

theorem Deferred.placeBatch (quiet : Bool) (ns : List Nat) : Deferred a (placeBatch quiet ns b) :=
  (forEach_keeps (P := Deferred a) (fun n _ hx => hx.placeOnly quiet n) ns b h).drain false _

theorem Deferred.restartOccurrence (o : Occurrence) : Deferred a (restartOccurrence o b) :=
  (((h.tables (c := dropRecord o b) rfl).resolve _ _).tables
    (c := recordOutcome o.number .restarted _) rfl).tables (submit_tables _ _ _ _)

end

/-! ## The ends of the active occurrences (R48) -/

/-- A booking's record when its occurrence ends Restarted. -/
def restartedNow (k : Booking) : Booking := { k with lastOutcome := .restarted }

theorem restartOccurrence_bookings (o : Occurrence) (b : Blocks) :
    (restartOccurrence o b).bookings = b.bookings.map (rewriteBooking o.number restartedNow) := by
  have hresolved : (resolvedWithout o b).bookings = b.bookings := resolvedWithout_bookings o b
  have hwritten : (recordOutcome o.number .restarted (resolvedWithout o b)).bookings =
      (resolvedWithout o b).bookings.map (rewriteBooking o.number restartedNow) := rfl
  have htold : (restartOccurrence o b).bookings = (recordOutcome o.number .restarted (resolvedWithout o b)).bookings := by
    have htables := submit_tables (recordOutcome o.number .restarted (resolvedWithout o b)) (.booking o.number) .ended (some .restarted)
    unfold restartOccurrence Blocks.reportEnded Blocks.submit resolvedWithout
    split <;> rfl
  rw [htold, hwritten, hresolved]

/-- A booking's record once a list of occurrences has ended Restarted. -/
def endedAmong (l : List Occurrence) (k : Booking) : Booking :=
  { k with lastOutcome := if ∃ o ∈ l, o.number = k.number then .restarted else k.lastOutcome }

theorem restartOccurrences_bookings (l : List Occurrence) (b : Blocks) :
    (forEach l restartOccurrence b).bookings = b.bookings.map (endedAmong l) := by
  induction l generalizing b with
  | nil =>
    have hnone : endedAmong [] = id := funext fun k => by
      unfold endedAmong
      rw [if_neg fun ⟨_, ho, _⟩ => List.not_mem_nil ho]
      rfl
    rw [forEach_nil, hnone, List.map_id]
  | cons o l ih =>
    rw [forEach_cons, ih, restartOccurrence_bookings, List.map_map]
    refine List.map_congr_left fun k _ => ?_
    unfold Function.comp rewriteBooking endedAmong
    by_cases ho : k.number = o.number
    · have hany : ∃ p ∈ o :: l, p.number = k.number := ⟨o, List.mem_cons_self, ho.symm⟩
      rw [if_pos ho, if_pos hany]
      unfold restartedNow
      dsimp only
      rw [ite_self]
    · have hrest : (∃ p ∈ o :: l, p.number = k.number) ↔ ∃ p ∈ l, p.number = k.number := by
        simp [Ne.symm ho]
      rw [if_neg ho]
      simp only [hrest]

theorem restartOccurrence_active {o p : Occurrence} {b : Blocks} (hp : p ∈ (restartOccurrence o b).active) :
    p.id ≠ o.id ∧ ∃ q ∈ b.active, q.id = p.id := by
  have hactive : (restartOccurrence o b).active = (resolvedWithout o b).active := by
    unfold restartOccurrence Blocks.reportEnded Blocks.submit resolvedWithout
    split <;> rfl
  rw [hactive, resolvedWithout, resolve_active] at hp
  obtain ⟨q, hq, rfl⟩ := List.mem_map.1 hp
  obtain ⟨hqin, hqid⟩ := List.mem_filter.1 hq
  exact ⟨bne_iff_ne.1 hqid, q, hqin, rfl⟩

theorem restartOccurrences_active {l : List Occurrence} {p : Occurrence} {b : Blocks} (hp : p ∈ (forEach l restartOccurrence b).active) :
    (∀ o ∈ l, p.id ≠ o.id) ∧ ∃ q ∈ b.active, q.id = p.id := by
  induction l generalizing b with
  | nil => exact ⟨fun o ho => absurd ho List.not_mem_nil, p, hp, rfl⟩
  | cons o l ih =>
    obtain ⟨hothers, q, hq, hqid⟩ := ih hp
    obtain ⟨hother, r, hr, hrid⟩ := restartOccurrence_active hq
    refine ⟨fun x hx => ?_, r, hr, hrid.trans hqid⟩
    obtain rfl | hx := List.mem_cons.1 hx
    · exact hqid ▸ hother
    · exact hothers x hx

/-- An added outcome leaves an equal one that stands in the list. -/
theorem addChange_keeps_same_outcome (r : RecordId) (k : ChangeKind) {n : Nat} {o : LastOutcome} {l : List NoticeEntry}
    (h : ∃ x ∈ l, x.record = .booking n ∧ ChangeKind.ended ∈ x.changes ∧ x.outcome = some o) :
    ∃ x ∈ addChange r k (some o) l, x.record = .booking n ∧ ChangeKind.ended ∈ x.changes ∧ x.outcome = some o := by
  induction l with
  | nil => obtain ⟨x, hx, -⟩ := h; cases hx
  | cons e es ih =>
    obtain ⟨x, hx, hrecord, hended, houtcome⟩ := h
    unfold addChange
    split
    · obtain rfl | hx := List.mem_cons.1 hx
      · exact ⟨_, List.mem_cons_self, hrecord, insertKind_old _ _ _ hended, rfl⟩
      · exact ⟨x, List.mem_cons_of_mem _ hx, hrecord, hended, houtcome⟩
    · obtain rfl | hx := List.mem_cons.1 hx
      · exact ⟨x, List.mem_cons_self, hrecord, hended, houtcome⟩
      · obtain ⟨y, hy, hstands⟩ := ih ⟨x, hx, hrecord, hended, houtcome⟩
        exact ⟨y, List.mem_cons_of_mem _ hy, hstands⟩

theorem restartOccurrence_keeps_endedTold {b : Blocks} {n : Nat} (h : EndedTold n .restarted b) (o : Occurrence) :
    EndedTold n .restarted (restartOccurrence o b) := by
  have hstable := endedTold_stable n .restarted
  have hresolved := hstable.resolve (hstable.same b (dropRecord o b) h rfl rfl) (b.zonesOf o.number) none
  have hrecorded : EndedTold n .restarted (recordOutcome o.number .restarted (resolve (b.zonesOf o.number) none (dropRecord o b))) :=
    hresolved
  intro hmask
  unfold restartOccurrence Blocks.reportEnded at hmask ⊢
  rw [submit_mask] at hmask
  rw [submit_notices, if_pos hmask]
  exact addChange_keeps_same_outcome _ _ (hrecorded hmask)

theorem restartOccurrences_endedTold {l : List Occurrence} {o : Occurrence} (ho : o ∈ l) (b : Blocks) :
    EndedTold o.number .restarted (forEach l restartOccurrence b) := by
  induction l generalizing b with
  | nil => exact absurd ho List.not_mem_nil
  | cons p l ih =>
    obtain rfl | ho := List.mem_cons.1 ho
    · exact forEach_keeps (P := EndedTold o.number .restarted) (fun p _ hx => restartOccurrence_keeps_endedTold hx p) l _
        (reportEnded_endedTold _ _ _)
    · exact ih ho _

/-! ## The list emptied (R184) -/

theorem mem_removeEntries {ns : List Nat} {x : UpcomingEntry} {b : Blocks} (hx : x ∈ (forEach ns removeEntry b).upcoming) :
    x ∈ b.upcoming ∧ x.number ∉ ns := by
  induction ns generalizing b with
  | nil => exact ⟨hx, List.not_mem_nil⟩
  | cons n ns ih =>
    obtain ⟨hin, hout⟩ := ih hx
    rw [removeEntry_upcoming] at hin
    obtain ⟨hin, hn⟩ := List.mem_filter.1 hin
    refine ⟨hin, fun h => ?_⟩
    obtain h | h := List.mem_cons.1 h
    · exact bne_iff_ne.1 hn h
    · exact hout h

theorem removeEntries_arming (ns : List Nat) (b : Blocks) : TouchesArming b (forEach ns removeEntry b) :=
  forEach_rel TouchesArming.refl TouchesArming.trans removeEntry_arming ns b

/-- The blocks with every occurrence ended and every boundary cleared. -/
def restartEnded (b : Blocks) : Blocks := clearBoundaries (forEach b.active restartOccurrence b)

/-- The blocks of a Restart Schedule before any booking is placed. -/
def restartCleared (b : Blocks) : Blocks := forEach ((restartEnded b).upcoming.map (fun e => e.number)) removeEntry (restartEnded b)

theorem restartPlace_eq (b : Blocks) : restartPlace b =
    placeBatch false ((restartCleared b).numbersIn (fun _ => true)) (restartCleared b) := rfl

section
variable (b : Blocks)

theorem restartCleared_arming : TouchesArming (restartEnded b) (restartCleared b) := removeEntries_arming _ _

theorem restartCleared_active : (restartCleared b).active = [] := by
  rw [(restartCleared_arming b).active]
  refine List.eq_nil_iff_forall_not_mem.2 fun p hp => ?_
  obtain ⟨hothers, q, hq, hqid⟩ := restartOccurrences_active (l := b.active) hp
  exact hothers q hq hqid.symm

theorem restartCleared_upcoming : (restartCleared b).upcoming = [] := by
  refine List.eq_nil_iff_forall_not_mem.2 fun x hx => ?_
  obtain ⟨hin, hout⟩ := mem_removeEntries hx
  exact hout (List.mem_map_of_mem (f := fun e : UpcomingEntry => e.number) hin)

theorem restartCleared_bookings : (restartCleared b).bookings = b.bookings.map (fun k =>
    { k with
      boundary := none
      lastOutcome := if ∃ o ∈ b.active, o.number = k.number then .restarted else k.lastOutcome }) := by
  rw [(restartCleared_arming b).bookings]
  show ((forEach b.active restartOccurrence b).bookings).map (fun k => { k with boundary := none }) = _
  rw [restartOccurrences_bookings, List.map_map]
  rfl

theorem restartCleared_endedTold {o : Occurrence} (ho : o ∈ b.active) : EndedTold o.number .restarted (restartCleared b) := by
  have hstable := endedTold_stable o.number .restarted
  exact forEach_keeps (P := EndedTold o.number .restarted) (fun n _ hx => hstable.removeEntry hx n) _ _
    (hstable.same _ (restartEnded b) (restartOccurrences_endedTold ho b) rfl rfl)

theorem restartCleared_touches : TouchesEngine b (restartCleared b) :=
  (forEach_rel TouchesEngine.refl TouchesEngine.trans restartOccurrence_touches b.active b).trans
    (TouchesEngine.trans (b := restartEnded b) rfl
      (forEach_rel TouchesEngine.refl TouchesEngine.trans removeEntry_touches _ _))

variable {b}

theorem restartPlace_deferred (h : b.deferral.isSome = true) : Deferred b (restartPlace b) := by
  have hended := forEach_keeps (P := Deferred b) (fun o _ hx => hx.restartOccurrence o) b.active b (.refl h)
  have hcleared := forEach_keeps (P := Deferred b) (fun n _ hx => hx.removeEntry n)
    ((restartEnded b).upcoming.map (fun e => e.number)) (restartEnded b) (hended.tables rfl)
  exact hcleared.placeBatch false _

end

/-! ## The handovers of a Restart Schedule (R66) -/

/-- The length of a Restart Schedule's handover on a zone. -/
def restartLength (z : Nat) (b : Blocks) : Nat := if b.panelHold then b.chain.defaultHandover else b.handoverLength z

theorem restartHandovers_fades (b : Blocks) : TouchesFades b (restartHandovers b) := handovers_fades (len := restartLength) b

theorem TouchesFades.restartLength {a b : Blocks} (h : TouchesFades a b) (z : Nat) : restartLength z b = restartLength z a := by
  unfold Machine.restartLength
  rw [h.handoverLength, h.defaultHandover, show b.panelHold = a.panelHold by rw [h]]

theorem restartHandovers_zone? (b : Blocks) (z : Nat) : (restartHandovers b).zone? z =
    if z < 96 ∧ b.showable z = true then handedFor? (restartLength z b) b z else b.zone? z := by
  refine (handovers_zone? (len := restartLength) (fun z _ _ h => h.restartLength z) (allZones_nodup.filter b.showable) b z).trans ?_
  simp only [List.mem_filter, mem_allZones]

/-! ## The end of the deferral (R174) -/

/-- A feeder's record without its contactor and its idle timer. -/
def undriven (x : Feeder) : Feeder := { x with closed := false, idleFrom := none }

theorem evaluateFeeder_undriven (f : Nat) (b : Blocks) (m : Nat) :
    undriven ((evaluateFeeder f b).feeder m) = undriven (b.feeder m) := by
  have hcontactor : ∀ (closed : Bool) (c : Blocks), undriven ((setContactor f closed c).feeder m) = undriven (c.feeder m) := by
    intro closed c
    unfold setContactor
    split
    · rfl
    · rw [feeder_congr (report_feeders _ _ _)]
      refine updateFeeder_keeps undriven ?_ f c m
      exact fun _ => rfl
  unfold evaluateFeeder
  split
  · rfl
  split
  · rw [hcontactor]
    refine updateFeeder_keeps undriven ?_ f b m
    exact fun _ => rfl
  split
  · refine updateFeeder_keeps undriven ?_ f b m
    exact fun _ => rfl
  · rfl

theorem evaluations_records (l : List Nat) (b : Blocks) : TouchesRecords b (forEach l evaluateFeeder b) :=
  forEach_rel TouchesRecords.refl TouchesRecords.trans evaluateFeeder_records l b

/-- The end of the deferral writes feeders, Show Live and reports. -/
theorem endDeferral_eq (b : Blocks) : endDeferral b = { b with
    feeders := (endDeferral b).feeders, showLive := (endDeferral b).showLive, notices := (endDeferral b).notices
    deferral := none } := by
  have hrecords := evaluations_records (b.deferral.getD []) { b with deferral := none }
  unfold endDeferral reevaluateShowLive
  generalize forEach (b.deferral.getD []) evaluateFeeder { b with deferral := none } = c at hrecords
  have hnone : c.deferral = none := by rw [hrecords]
  rw [hnone]
  dsimp only
  rw [hrecords]

theorem endDeferral_decides (b : Blocks) (z : Nat) : (endDeferral b).lowersAt z = b.lowersAt z ∧
    (endDeferral b).curfewCeiling = b.curfewCeiling ∧ restartLength z (endDeferral b) = restartLength z b := by
  rw [endDeferral_eq]
  exact ⟨rfl, rfl, rfl⟩

theorem endDeferral_undriven (b : Blocks) (f : Nat) : undriven ((endDeferral b).feeder f) = undriven (b.feeder f) := by
  have hfeeders : (endDeferral b).feeders = (forEach (b.deferral.getD []) evaluateFeeder { b with deferral := none }).feeders := by
    unfold endDeferral reevaluateShowLive
    split <;> rfl
  rw [feeder_congr hfeeders]
  exact forEach_keeps (P := fun x => undriven (x.feeder f) = undriven (b.feeder f))
    (fun m x hx => (evaluateFeeder_undriven m x f).trans hx) _ _ rfl

/-! ## The whole of a Restart Schedule (R184) -/

/-- The blocks of a Restart Schedule with every booking placed. -/
def replaced (b : Blocks) : Blocks := restartPlace (restartBegin b)

theorem restartSchedule_eq (b : Blocks) : (restartSchedule b).1 = endDeferral (restartHandovers (replaced b)) := rfl

section
variable (b : Blocks)

theorem replaced_deferred : Deferred (restartBegin b) (replaced b) := restartPlace_deferred rfl

theorem restartBegin_zone? (z : Nat) : (restartBegin b).zone? z = (b.zone? z).map (fun c => { c with handover := none }) := by
  unfold Blocks.zone?
  show ((b.zones.map (Option.map fun c => { c with handover := none }))[z]?).join = _
  rw [List.getElem?_map]
  cases b.zones[z]? with
  | none => rfl
  | some o => rfl

theorem replaced_zone? (z : Nat) : (replaced b).zone? z = (b.zone? z).map (fun c => { c with handover := none }) :=
  (zone?_congr (by rw [(replaced_deferred b).frame]) z).trans (restartBegin_zone? b z)

theorem restartSchedule_zone? (z : Nat) : (restartSchedule b).1.zone? z =
    if z < 96 ∧ (replaced b).showable z = true then handedFor? (restartLength z (replaced b)) (replaced b) z
    else (replaced b).zone? z := by
  rw [restartSchedule_eq, ← restartHandovers_zone?]
  exact zone?_congr (by rw [endDeferral_eq]) z

/-- What decides a zone's handover is the same before the handovers and after the end of the deferral. -/
theorem restartSchedule_decides (z : Nat) : (restartSchedule b).1.lowersAt z = (replaced b).lowersAt z ∧
    (restartSchedule b).1.curfewCeiling = (replaced b).curfewCeiling ∧
    restartLength z (restartSchedule b).1 = restartLength z (replaced b) := by
  have hfades := restartHandovers_fades (replaced b)
  rw [← hfades.lowersAt, ← hfades.curfewCeiling, ← hfades.restartLength]
  exact endDeferral_decides (restartHandovers (replaced b)) z

theorem restartSchedule_chain : (restartSchedule b).1.chain = { b.chain with
    latest := (restartSchedule b).1.chain.latest, flight := (restartSchedule b).1.chain.flight
    faces := (restartSchedule b).1.chain.faces } := by
  have hplaced := (replaced_deferred b).frame
  have hchain : (replaced b).chain = { b.chain with faces := (replaced b).chain.faces } := by rw [hplaced]; rfl
  have hfades := restartHandovers_fades (replaced b)
  have hhanded : (restartHandovers (replaced b)).chain = { (replaced b).chain with
      latest := (restartHandovers (replaced b)).chain.latest, flight := (restartHandovers (replaced b)).chain.flight } := by
    rw [hfades]
  have hended : (restartSchedule b).1.chain = (restartHandovers (replaced b)).chain := by rw [restartSchedule_eq, endDeferral_eq]
  rw [hended, hhanded, hchain]

theorem restartSchedule_feeder (f : Nat) : (restartSchedule b).1.feeder f = { b.feeder f with
    closed := ((restartSchedule b).1.feeder f).closed, armClaims := ((restartSchedule b).1.feeder f).armClaims
    idleFrom := ((restartSchedule b).1.feeder f).idleFrom } := by
  have hundriven := endDeferral_undriven (restartHandovers (replaced b)) f
  have hfaded : (restartHandovers (replaced b)).feeder f = (replaced b).feeder f :=
    feeder_congr (by rw [restartHandovers_fades (replaced b)]) f
  have hclaims := (replaced_deferred b).claims f
  have hbegun : (restartBegin b).feeder f = b.feeder f := rfl
  rw [hfaded, hclaims, hbegun] at hundriven
  rw [restartSchedule_eq]
  generalize (endDeferral (restartHandovers (replaced b))).feeder f = x at hundriven
  cases x
  cases hb : b.feeder f
  rw [hb] at hundriven
  simp only [undriven, Feeder.mk.injEq] at hundriven ⊢
  obtain ⟨hbudget, hmark, hsource, hcommand, -, htripped, hover, -, -, hload, hscale⟩ := hundriven
  exact ⟨hbudget, hmark, hsource, hcommand, trivial, htripped, hover, trivial, trivial, hload, hscale⟩

/-- Each configured zone keeps its record; one that is not protected has one handover from what it shows now (R66, R154). -/
theorem restartSchedule_zone {z : Nat} (hz : z < 96) {c : Zone} (hc : b.zone? z = some c) :
    ∃ d : Zone, (restartSchedule b).1.zone? z = some d ∧ d = { c with last := d.last, handover := d.handover } ∧
      (c.isProtected = true → d.last = c.last ∧ d.handover = none) ∧
      (c.isProtected = false →
        d.last = (if (restartSchedule b).1.lowersAt z then capLevels (restartSchedule b).1.curfewCeiling c.last else c.last) ∧
        d.handover = some
          { from_ := keepLayout c.layout d.last
            layout := c.layout
            length := restartLength z (restartSchedule b).1
            start := b.ownUs / 1000 }) := by
  obtain ⟨hlowers, hceiling, hlength⟩ := restartSchedule_decides b z
  have hbefore : (replaced b).zone? z = some { c with handover := none } := by rw [replaced_zone?, hc]; rfl
  have hown : (replaced b).ownUs = b.ownUs := by rw [(replaced_deferred b).frame]; rfl
  rw [restartSchedule_zone?, hlowers, hceiling, hlength]
  obtain hprotected | hprotected := Bool.eq_false_or_eq_true c.isProtected
  · have hhidden : ¬(z < 96 ∧ (replaced b).showable z = true) := by
      rintro ⟨-, hshown⟩
      obtain ⟨d, hd, hdshown⟩ := (showable_iff _ z).1 hshown
      obtain rfl : { c with handover := none } = d := Option.some.inj (hbefore.symm.trans hd)
      exact Bool.false_ne_true (hdshown.symm.trans hprotected)
    rw [if_neg hhidden]
    exact ⟨_, hbefore, rfl, fun _ => ⟨rfl, rfl⟩, fun h => absurd (hprotected.symm.trans h) Bool.false_ne_true.symm⟩
  · have hshown : (replaced b).showable z = true := (showable_iff _ z).2 ⟨_, hbefore, hprotected⟩
    have hhanded : handedFor? (restartLength z (replaced b)) (replaced b) z =
        some (handedFor (restartLength z (replaced b)) (replaced b) z { c with handover := none }) := by
      unfold handedFor?
      rw [hbefore, Option.map_some]
      exact congrArg some (if_neg (by rw [hprotected]; exact Bool.false_ne_true))
    rw [if_pos ⟨hz, hshown⟩, hhanded]
    refine ⟨_, rfl, rfl, fun h => absurd (h.symm.trans hprotected) Bool.false_ne_true.symm, fun _ => ⟨rfl, ?_⟩⟩
    rw [← hown]
    rfl

end

/-- Settles O21: the stages of a Restart Schedule, and what they leave of the rest of the part. -/
theorem restartScheduleKeepsWhatItNames : Obligations.RestartScheduleKeepsWhatItNames := by
  unfold Obligations.RestartScheduleKeepsWhatItNames
  intro s r hasks
  have htouches := restartSchedule_touches s.blocks
  have hchain := restartSchedule_chain s.blocks
  have hdeferral : (restartSchedule s.blocks).1.deferral = none := by rw [restartSchedule_eq, endDeferral_eq]
  have hcleared := restartCleared_touches (restartBegin s.blocks)
  refine ⟨fun l => ?_, restartCleared (restartBegin s.blocks), (restartSchedule s.blocks).1, exec_restartSchedule hasks,
    restartCleared_active _, restartCleared_upcoming _, by rw [hcleared]; rfl, restartCleared_bookings _,
    fun hmask o ho => restartCleared_endedTold _ ho hmask, rfl, by rw [htouches]; rfl, by rw [htouches]; rfl, by rw [htouches]; rfl,
    by rw [htouches]; rfl, by rw [htouches]; rfl, by rw [htouches]; rfl, by rw [htouches]; rfl, by rw [htouches]; rfl,
    by rw [htouches]; rfl, hdeferral, by rw [hchain], by rw [hchain], by rw [hchain], by rw [hchain], by rw [hchain], fun z => ?_,
    fun z c hz hc => restartSchedule_zone s.blocks hz hc, restartSchedule_feeder s.blocks⟩
  · have hasks' : AsksFor { s with blocks := { s.blocks with notices := l } } r .restartSchedule := hasks
    rw [exec_restartSchedule hasks, exec_restartSchedule hasks']
    rfl
  · rw [restartSchedule_zone?]
    split
    · unfold handedFor?
      rw [Option.isSome_map, replaced_zone?, Option.isSome_map]
    · rw [replaced_zone?, Option.isSome_map]

end Sys2Proof.Machine

/-! PROOFS. The operands of Book and Amend (R2, R3, R13, R16, section 11.6): what each field of a body is read as, and when. -/

namespace Sys2Proof.Machine

/-! ## One field -/

theorem tierOf_eq_some {x : Byte} {t : Tier} : tierOf x = some t ↔ t.rank = x.toNat := by
  unfold tierOf
  constructor
  · intro h
    split at h
    case h_6 => cases h
    all_goals
      cases h
      exact (‹x.toNat = _›).symm
  · intro h
    rw [← h]
    cases t <;> rfl

theorem tierOf_isSome {x : Byte} : (tierOf x).isSome = true ↔ x.toNat ≤ 4 := by
  rw [Option.isSome_iff_exists]
  simp only [tierOf_eq_some]
  constructor
  · rintro ⟨t, ht⟩
    rw [← ht]
    cases t <;> decide
  · intro h
    obtain h | h | h | h | h : x.toNat = 0 ∨ x.toNat = 1 ∨ x.toNat = 2 ∨ x.toNat = 3 ∨ x.toNat = 4 := by omega
    · exact ⟨.base, h.symm⟩
    · exact ⟨.showing, h.symm⟩
    · exact ⟨.civic, h.symm⟩
    · exact ⟨.urgent, h.symm⟩
    · exact ⟨.solemn, h.symm⟩

theorem flagOf_eq_some {x : Byte} {v : Bool} : flagOf x = some v ↔ x.toNat ≤ 1 ∧ v = decide (x.toNat = 1) := by
  unfold flagOf
  split
  · next h => simp [h, eq_comm]
  · next h => simp [h, eq_comm]
  · next h0 h1 =>
    have hlarge : ¬x.toNat ≤ 1 := fun h => by
      obtain h | h : x.toNat = 0 ∨ x.toNat = 1 := by omega
      · exact h0 h
      · exact h1 h
    simp [hlarge]

theorem optionalOf_eq_some {flag : Byte} {value limit : Nat} {v : Option Nat} : optionalOf flag value limit = some v ↔
    flag.toNat ≤ 1 ∧ (flag.toNat = 1 → value ≤ limit) ∧ v = if flag.toNat = 1 then some value else none := by
  unfold optionalOf
  cases hflag : flagOf flag with
  | none =>
    have hlarge : ¬flag.toNat ≤ 1 := fun h => by
      rw [flagOf_eq_some.2 ⟨h, rfl⟩] at hflag
      cases hflag
    simp [hlarge]
  | some p =>
    obtain ⟨hle, rfl⟩ := flagOf_eq_some.1 hflag
    by_cases hone : flag.toNat = 1
    · by_cases hvalue : value ≤ limit
      · simp [hone, hvalue, eq_comm]
      · simp [hone, hvalue]
    · simp [hone, hle, eq_comm]

theorem programOf_eq_some {x : Byte} {p : Nat} : programOf x = some p ↔ x.toNat ≤ 63 ∧ p = x.toNat := by
  have hslots : x.toNat < Config.programSlots ↔ x.toNat ≤ 63 := Nat.lt_succ_iff
  unfold programOf
  rw [Option.ite_none_right_eq_some, hslots, Option.some.injEq, eq_comm]

theorem ceilingOf_eq_some {x : BitVec 16} {c : Nat} : ceilingOf x = some c ↔ x.toNat ≤ 1000 ∧ c = x.toNat := by
  unfold ceilingOf
  rw [Option.ite_none_right_eq_some, Option.some.injEq, eq_comm]

theorem zonesIn_eq_some {x : BitVec 96} {l : List Nat} :
    zonesIn x = some l ↔ x ≠ 0 ∧ l = allZones.filter (fun z => x.getLsbD z) := by
  have hempty : allZones.filter (fun z => x.getLsbD z) = [] ↔ x = 0 := by
    rw [List.filter_eq_nil_iff]
    constructor
    · intro h
      refine BitVec.eq_of_getLsbD_eq fun i hi => ?_
      exact (Bool.eq_false_of_not_eq_true (h i (mem_allZones.2 hi))).trans BitVec.getLsbD_zero.symm
    · rintro rfl z -
      exact fun h => Bool.false_ne_true (BitVec.getLsbD_zero.symm.trans h)
  unfold zonesIn
  cases hl : allZones.filter (fun z => x.getLsbD z) with
  | nil => simp [hempty.1 hl]
  | cons z zs =>
    have hx : x ≠ 0 := fun h => by rw [hempty.2 h] at hl; cases hl
    exact ⟨fun h => ⟨hx, (Option.some.inj h).symm⟩, fun h => congrArg some h.2.symm⟩

theorem mem_zonesRead {x : BitVec 96} {z : Nat} :
    z ∈ allZones.filter (fun z => x.getLsbD z) ↔ z < 96 ∧ x.getLsbD z = true := by
  rw [List.mem_filter, mem_allZones]

theorem anchorOf_eq_some {kind : Nat} {value : BitVec 32} {a : Anchor} : anchorOf kind value = some a ↔
    AnchorFits kind value ∧ ((kind = 0 ∧ a = .clock value.toNat) ∨ (kind = 1 ∧ a = .sunset value.toInt) ∨
      (kind = 2 ∧ a = .sunrise value.toInt)) := by
  have hday : (value.toNat : Int) < Config.dayMs ↔ value.toNat < 86400000 := Int.ofNat_lt (m := 86400000)
  have hoffset : (decide (-720 ≤ value.toInt) && decide (value.toInt ≤ 720)) = true ↔ -720 ≤ value.toInt ∧ value.toInt ≤ 720 := by
    rw [Bool.and_eq_true, decide_eq_true_eq, decide_eq_true_eq]
  unfold anchorOf AnchorFits
  dsimp only
  split
  · rw [Option.ite_none_right_eq_some, hday, Option.some.injEq]
    simp [eq_comm]
  · rw [Option.ite_none_right_eq_some, hoffset, Option.some.injEq]
    simp [eq_comm]
  · rw [Option.ite_none_right_eq_some, hoffset, Option.some.injEq]
    simp [eq_comm]
  · next h0 h1 h2 =>
    refine iff_of_false nofun fun ⟨_, h⟩ => ?_
    obtain ⟨hkind, -⟩ | ⟨hkind, -⟩ | ⟨hkind, -⟩ := h
    · exact h0 hkind
    · exact h1 hkind
    · exact h2 hkind

theorem anchorOf_isSome {kind : Nat} {value : BitVec 32} : (anchorOf kind value).isSome = true ↔ AnchorFits kind value := by
  rw [Option.isSome_iff_exists]
  constructor
  · rintro ⟨a, ha⟩
    exact (anchorOf_eq_some.1 ha).1
  · intro h
    obtain ⟨hkind, -⟩ | ⟨hkind | hkind, -⟩ := id h
    · exact ⟨_, anchorOf_eq_some.2 ⟨h, .inl ⟨hkind, rfl⟩⟩⟩
    · exact ⟨_, anchorOf_eq_some.2 ⟨h, .inr (.inl ⟨hkind, rfl⟩)⟩⟩
    · exact ⟨_, anchorOf_eq_some.2 ⟨h, .inr (.inr ⟨hkind, rfl⟩)⟩⟩

theorem endOf_eq_some {kind : Nat} {value : BitVec 32} {e : EndField} : endOf kind value = some e ↔
    (kind = 0 ∧ 1 ≤ value.toNat ∧ value.toNat ≤ 64800 ∧ e = .duration value.toNat) ∨
      (1 ≤ kind ∧ ∃ a, anchorOf (kind - 1) value = some a ∧ e = .anchored a) := by
  unfold endOf
  cases kind with
  | zero =>
    dsimp only
    rw [Option.ite_none_right_eq_some, Option.some.injEq]
    simp [and_assoc, eq_comm]
  | succ k => simp [eq_comm]

theorem endOf_isSome {kind : Nat} {value : BitVec 32} : (endOf kind value).isSome = true ↔
    (kind = 0 → 1 ≤ value.toNat ∧ value.toNat ≤ 64800) ∧ (1 ≤ kind → AnchorFits (kind - 1) value) := by
  unfold endOf
  cases kind with
  | zero => simp
  | succ k => simp [anchorOf_isSome]

theorem weekdaysOf_eq_some {x : Byte} {l : List Nat} :
    weekdaysOf x = some l ↔ x.toNat ≤ 127 ∧ l = (List.range 7).filter (fun i => x.getLsbD i) := by
  have hbit : x.getLsbD 7 = false ↔ x.toNat ≤ 127 := by
    have hlt := x.isLt
    rw [BitVec.getLsbD, Nat.testBit_eq_decide_div_mod_eq, decide_eq_false_iff_not]
    omega
  unfold weekdaysOf
  rw [Option.ite_none_left_eq_some, Bool.not_eq_true, hbit, Option.some.injEq, eq_comm (b := l)]

theorem weekdaysRead_eq_nil {x : Byte} (h : x.toNat ≤ 127) :
    (List.range 7).filter (fun i => x.getLsbD i) = [] ↔ x.toNat = 0 := by
  rw [List.filter_eq_nil_iff]
  constructor
  · intro hnone
    have hbits : ∀ i < 7, x.toNat.testBit i = false := fun i hi => by
      simpa [BitVec.getLsbD] using hnone i (List.mem_range.2 hi)
    refine Nat.eq_of_testBit_eq fun i => ?_
    rw [Nat.zero_testBit]
    by_cases hi : i < 7
    · exact hbits i hi
    · exact Nat.testBit_eq_false_of_lt (lt_of_le_of_lt h (Nat.lt_of_lt_of_le (by decide : 127 < 2 ^ 7)
        (Nat.pow_le_pow_right (by decide) (not_lt.1 hi))))
  · intro hzero i _
    rw [BitVec.getLsbD, hzero, Nat.zero_testBit]
    exact Bool.false_ne_true

/-- The pattern that a body's fields give in its normal form (R3). -/
theorem patternOf_eq_some {x : BookingBody} {p : Pattern} : patternOf x = some p ↔
    x.kind.toNat ≤ 2 ∧ (1 ≤ x.kind.toNat → x.first.toNat ≤ x.last.toNat) ∧
      (x.kind.toNat = 2 → 1 ≤ x.weekdays.toNat ∧ x.weekdays.toNat ≤ 127) ∧
      (x.kind.toNat = 0 → p = ⟨.once, x.first.toNat, x.first.toNat, []⟩) ∧
      (x.kind.toNat = 1 → p = ⟨.daily, x.first.toNat, x.last.toNat, []⟩) ∧
      (x.kind.toNat = 2 → p = ⟨.weekly, x.first.toNat, x.last.toNat, (List.range 7).filter (fun i => x.weekdays.getLsbD i)⟩) := by
  unfold patternOf
  split
  · next h => simp [h, eq_comm]
  · next h =>
    rw [Option.ite_none_left_eq_some, not_lt, Option.some.injEq]
    simp [h, eq_comm]
  · next h =>
    cases hdays : weekdaysOf x.weekdays with
    | none =>
      have hlarge : ¬x.weekdays.toNat ≤ 127 := fun hle => by
        rw [weekdaysOf_eq_some.2 ⟨hle, rfl⟩] at hdays
        cases hdays
      simp [h, hlarge]
    | some l =>
      obtain ⟨hle, rfl⟩ := weekdaysOf_eq_some.1 hdays
      cases hl : (List.range 7).filter (fun i => x.weekdays.getLsbD i) with
      | nil => simp [h, (weekdaysRead_eq_nil hle).1 hl]
      | cons w ws =>
        have hpos : 1 ≤ x.weekdays.toNat := Nat.one_le_iff_ne_zero.2 fun hzero => by
          rw [(weekdaysRead_eq_nil hle).2 hzero] at hl
          cases hl
        dsimp only
        rw [Option.ite_none_left_eq_some, not_lt, Option.some.injEq]
        simp [h, hle, hpos, eq_comm]
  · next h0 h1 h2 =>
    have hlarge : ¬x.kind.toNat ≤ 2 := fun hle => by
      obtain h | h | h : x.kind.toNat = 0 ∨ x.kind.toNat = 1 ∨ x.kind.toNat = 2 := by omega
      · exact h0 h
      · exact h1 h
      · exact h2 h
    simp [hlarge]

/-! ## The fields laid over a booking's own (R16) -/

/-- The fields laid are the carried ones in their ranges and the rest as they were, with Exempt only where it suits. -/
theorem layFields_eq_some {mask : BitVec 16} {x : BookingBody} {f g : BookingFields} : layFields mask x f = some g ↔
    carried mask 0 (tierOf x.tier) f.tier = some g.tier ∧ carried mask 1 (patternOf x) f.pattern = some g.pattern ∧
    carried mask 2 (some (skipOf x)) f.skip = some g.skip ∧
    carried mask 3 (anchorOf x.startKind.toNat x.startValue) f.start = some g.start ∧
    carried mask 4 (endOf x.endKind.toNat x.endValue) f.finish = some g.finish ∧
    carried mask 5 (programOf x.program) f.program = some g.program ∧ carried mask 6 (zonesIn x.zones) f.zones = some g.zones ∧
    carried mask 7 (ceilingOf x.ceiling) f.ceiling = some g.ceiling ∧ carried mask 8 (flagOf x.exempt) f.exempt = some g.exempt ∧
    carried mask 9 (optionalOf x.followFlag x.follow.toNat 86399999) f.follow = some g.follow ∧
    carried mask 10 (optionalOf x.handoverFlag x.handover.toNat 5000) f.handover = some g.handover ∧ exemptSuits g = true := by
  unfold layFields
  simp only [Option.bind_eq_bind, Option.bind_eq_some_iff, Option.ite_none_right_eq_some, Option.some.injEq]
  constructor
  · rintro ⟨tier, h0, pattern, h1, skip, h2, start, h3, finish, h4, program, h5, zones, h6, ceiling, h7, exempt, h8, follow, h9,
      handover, h10, hsuits, rfl⟩
    exact ⟨h0, h1, h2, h3, h4, h5, h6, h7, h8, h9, h10, hsuits⟩
  · rintro ⟨h0, h1, h2, h3, h4, h5, h6, h7, h8, h9, h10, hsuits⟩
    exact ⟨_, h0, _, h1, _, h2, _, h3, _, h4, _, h5, _, h6, _, h7, _, h8, _, h9, _, h10, hsuits, rfl⟩

theorem carried_whole {α : Type} {bit : Nat} (h : wholeMask.getLsbD bit = true) (value : Option α) (current : α) :
    carried wholeMask bit value current = value := if_pos h

/-- A Book carries every field. -/
theorem bookFields_eq_some {x : BookingBody} {g : BookingFields} : bookFields x = some g ↔
    tierOf x.tier = some g.tier ∧ patternOf x = some g.pattern ∧ skipOf x = g.skip ∧
    anchorOf x.startKind.toNat x.startValue = some g.start ∧ endOf x.endKind.toNat x.endValue = some g.finish ∧
    programOf x.program = some g.program ∧ zonesIn x.zones = some g.zones ∧ ceilingOf x.ceiling = some g.ceiling ∧
    flagOf x.exempt = some g.exempt ∧ optionalOf x.followFlag x.follow.toNat 86399999 = some g.follow ∧
    optionalOf x.handoverFlag x.handover.toNat 5000 = some g.handover ∧ exemptSuits g = true := by
  unfold bookFields
  rw [layFields_eq_some, carried_whole (by decide), carried_whole (by decide), carried_whole (by decide), carried_whole (by decide),
    carried_whole (by decide), carried_whole (by decide), carried_whole (by decide), carried_whole (by decide),
    carried_whole (by decide), carried_whole (by decide), carried_whole (by decide), Option.some.injEq]

theorem exemptSuits_iff (f : BookingFields) : exemptSuits f = true ↔ (f.exempt = true → f.tier = .civic ∨ f.tier = .urgent) := by
  unfold exemptSuits
  cases f.exempt <;> simp

/-- A Book's body is accepted exactly when its fields lie in their ranges (R13 check 2). -/
theorem bookFields_isSome (x : BookingBody) : (bookFields x).isSome = true ↔ BodyFits x := by
  have hrank : ∀ t : Tier, t.rank = x.tier.toNat → ((t = .civic ∨ t = .urgent) ↔ (x.tier.toNat = 2 ∨ x.tier.toNat = 3)) := by
    intro t ht
    rw [← ht]
    cases t <;> simp [Tier.rank]
  rw [Option.isSome_iff_exists]
  constructor
  · rintro ⟨g, hg⟩
    obtain ⟨htier, hpattern, -, hstart, hend, hprogram, hzones, hceiling, hexempt, hfollow, hhandover, hsuits⟩ :=
      bookFields_eq_some.1 hg
    obtain ⟨hkind, hdays, hweekdays, -⟩ := patternOf_eq_some.1 hpattern
    obtain ⟨hduration, hanchor⟩ := endOf_isSome.1 (Option.isSome_iff_exists.2 ⟨_, hend⟩)
    obtain ⟨hflag, hvalue⟩ := flagOf_eq_some.1 hexempt
    obtain ⟨hfollowFlag, hfollowFits, -⟩ := optionalOf_eq_some.1 hfollow
    obtain ⟨hhandoverFlag, hhandoverFits, -⟩ := optionalOf_eq_some.1 hhandover
    refine ⟨tierOf_isSome.1 (Option.isSome_iff_exists.2 ⟨_, htier⟩), hkind, hdays, hweekdays, (anchorOf_eq_some.1 hstart).1, hduration,
      hanchor, (programOf_eq_some.1 hprogram).1, (zonesIn_eq_some.1 hzones).1, (ceilingOf_eq_some.1 hceiling).1, hflag, fun hone => ?_,
      hfollowFlag, hfollowFits, hhandoverFlag, hhandoverFits⟩
    exact (hrank g.tier (tierOf_eq_some.1 htier)).1 ((exemptSuits_iff g).1 hsuits (by rw [hvalue, decide_eq_true hone]))
  · rintro ⟨htier, hkind, hdays, hweekdays, hstart, hduration, hanchor, hprogram, hzones, hceiling, hexempt, hsuits, hfollowFlag,
      hfollowFits, hhandoverFlag, hhandoverFits⟩
    obtain ⟨tier, ht⟩ := Option.isSome_iff_exists.1 (tierOf_isSome.2 htier)
    obtain ⟨start, hs⟩ := Option.isSome_iff_exists.1 (anchorOf_isSome.2 hstart)
    obtain ⟨finish, hf⟩ := Option.isSome_iff_exists.1 (endOf_isSome.2 ⟨hduration, hanchor⟩)
    obtain ⟨pattern, hp⟩ : ∃ p, patternOf x = some p := by
      obtain h | h | h : x.kind.toNat = 0 ∨ x.kind.toNat = 1 ∨ x.kind.toNat = 2 := by omega
      · exact ⟨_, patternOf_eq_some.2 ⟨hkind, hdays, hweekdays, fun _ => rfl, fun h' => by omega, fun h' => by omega⟩⟩
      · exact ⟨_, patternOf_eq_some.2 ⟨hkind, hdays, hweekdays, fun h' => by omega, fun _ => rfl, fun h' => by omega⟩⟩
      · exact ⟨_, patternOf_eq_some.2 ⟨hkind, hdays, hweekdays, fun h' => by omega, fun h' => by omega, fun _ => rfl⟩⟩
    refine ⟨⟨tier, pattern, skipOf x, start, finish, x.program.toNat, allZones.filter (fun z => x.zones.getLsbD z),
      x.ceiling.toNat, decide (x.exempt.toNat = 1), if x.followFlag.toNat = 1 then some x.follow.toNat else none,
      if x.handoverFlag.toNat = 1 then some x.handover.toNat else none⟩, bookFields_eq_some.2 ⟨ht, hp, rfl, hs, hf,
      programOf_eq_some.2 ⟨hprogram, rfl⟩, zonesIn_eq_some.2 ⟨hzones, rfl⟩, ceilingOf_eq_some.2 ⟨hceiling, rfl⟩,
      flagOf_eq_some.2 ⟨hexempt, rfl⟩, optionalOf_eq_some.2 ⟨hfollowFlag, hfollowFits, rfl⟩,
      optionalOf_eq_some.2 ⟨hhandoverFlag, hhandoverFits, rfl⟩, (exemptSuits_iff _).2 fun hyes => ?_⟩⟩
    exact (hrank tier (tierOf_eq_some.1 ht)).2 (hsuits (of_decide_eq_true hyes))

end Sys2Proof.Machine

/-! PROOFS. Book (R2, R3, R7, R13 to R15): obligation O42. -/

namespace Sys2Proof.Machine

/-! ## The fields of a body (R2, R3, section 11.6) -/

theorem byte_eq_one_iff {x : Byte} : x = 1 ↔ x.toNat = 1 := by
  rw [BitVec.toNat_eq]
  rfl

/-- What the bits of an accepted body give. -/
theorem bookFields_reads {x : BookingBody} {f : BookingFields} (h : bookFields x = some f) :
    f.tier.rank = x.tier.toNat ∧ f.program = x.program.toNat ∧ f.program < 64 ∧ f.ceiling = x.ceiling.toNat ∧ f.ceiling ≤ 1000 ∧
    f.exempt = decide (x.exempt = 1) ∧ (f.exempt = true → f.tier = .civic ∨ f.tier = .urgent) ∧ f.zones ≠ [] ∧
    (∀ z, z ∈ f.zones ↔ z < 96 ∧ x.zones.getLsbD z = true) ∧
    f.follow = (if x.followFlag = 1 then some x.follow.toNat else none) ∧
    f.handover = (if x.handoverFlag = 1 then some x.handover.toNat else none) ∧
    (∀ d, d ∈ f.skip ↔ d ∈ ([x.skip1, x.skip2, x.skip3, x.skip4].take x.skipCount.toNat).map (fun d => d.toNat)) ∧
    f.skip.Pairwise (· < ·) ∧
    (x.kind.toNat = 0 → f.pattern = ⟨.once, x.first.toNat, x.first.toNat, []⟩) ∧
    (x.kind.toNat = 1 → f.pattern = ⟨.daily, x.first.toNat, x.last.toNat, []⟩) ∧
    (x.kind.toNat = 2 → f.pattern = ⟨.weekly, x.first.toNat, x.last.toNat, f.pattern.weekdays⟩ ∧
      ∀ i, i ∈ f.pattern.weekdays ↔ i < 7 ∧ x.weekdays.getLsbD i = true) ∧
    (x.startKind.toNat = 0 → f.start = .clock x.startValue.toNat) ∧
    (x.startKind.toNat = 1 → f.start = .sunset x.startValue.toInt) ∧
    (x.startKind.toNat = 2 → f.start = .sunrise x.startValue.toInt) ∧
    (x.endKind.toNat = 0 → f.finish = .duration x.endValue.toNat) ∧
    (x.endKind.toNat = 1 → f.finish = .anchored (.clock x.endValue.toNat)) ∧
    (x.endKind.toNat = 2 → f.finish = .anchored (.sunset x.endValue.toInt)) ∧
    (x.endKind.toNat = 3 → f.finish = .anchored (.sunrise x.endValue.toInt)) := by
  obtain ⟨htier, hpattern, hskip, hstart, hend, hprogram, hzones, hceiling, hexempt, hfollow, hhandover, hsuits⟩ :=
    bookFields_eq_some.1 h
  obtain ⟨-, -, -, honce, hdaily, hweekly⟩ := patternOf_eq_some.1 hpattern
  obtain ⟨hprogramFits, hprogram⟩ := programOf_eq_some.1 hprogram
  obtain ⟨hceilingFits, hceiling⟩ := ceilingOf_eq_some.1 hceiling
  obtain ⟨hzonesSome, hzones⟩ := zonesIn_eq_some.1 hzones
  obtain ⟨-, hexempt⟩ := flagOf_eq_some.1 hexempt
  obtain ⟨-, -, hfollow⟩ := optionalOf_eq_some.1 hfollow
  obtain ⟨-, -, hhandover⟩ := optionalOf_eq_some.1 hhandover
  obtain ⟨-, hanchor⟩ := anchorOf_eq_some.1 hstart
  have hanchored : ∀ k, x.endKind.toNat = k + 1 → ∃ a, anchorOf k x.endValue = some a ∧ f.finish = .anchored a := by
    intro k hk
    obtain ⟨hzero, -⟩ | ⟨-, a, ha, hfinish⟩ := endOf_eq_some.1 hend
    · omega
    · rw [hk] at ha
      exact ⟨a, ha, hfinish⟩
  refine ⟨tierOf_eq_some.1 htier, hprogram, by omega, hceiling, by omega, ?_, (exemptSuits_iff f).1 hsuits, fun hnil => ?_, fun z => ?_,
    ?_, ?_, fun d => ?_, ?_, honce, hdaily, fun hkind => ?_, fun hkind => ?_, fun hkind => ?_, fun hkind => ?_, fun hkind => ?_,
    fun hkind => ?_, fun hkind => ?_, fun hkind => ?_⟩
  · rw [hexempt]
    exact decide_eq_decide.2 byte_eq_one_iff.symm
  · rw [hnil] at hzones
    have hempty : zonesIn x.zones = none := by
      unfold zonesIn
      rw [← hzones]
    have hread := zonesIn_eq_some.2 ⟨hzonesSome, hzones⟩
    rw [hempty] at hread
    cases hread
  · rw [hzones, mem_zonesRead]
  · simp only [hfollow, byte_eq_one_iff]
  · simp only [hhandover, byte_eq_one_iff]
  · rw [← hskip]
    exact mem_ascending
  · rw [← hskip]
    exact ascending_pairwise _
  · have hread := hweekly hkind
    refine ⟨by rw [hread], fun i => ?_⟩
    rw [hread, List.mem_filter, List.mem_range]
  · obtain ⟨-, ha⟩ | ⟨hk, -⟩ | ⟨hk, -⟩ := hanchor
    · exact ha
    · omega
    · omega
  · obtain ⟨hk, -⟩ | ⟨-, ha⟩ | ⟨hk, -⟩ := hanchor
    · omega
    · exact ha
    · omega
  · obtain ⟨hk, -⟩ | ⟨hk, -⟩ | ⟨-, ha⟩ := hanchor
    · omega
    · omega
    · exact ha
  · obtain ⟨-, -, -, hfinish⟩ | ⟨hk, -⟩ := endOf_eq_some.1 hend
    · exact hfinish
    · omega
  · obtain ⟨a, ha, hfinish⟩ := hanchored 0 hkind
    obtain ⟨-, ⟨-, rfl⟩ | ⟨hk, -⟩ | ⟨hk, -⟩⟩ := anchorOf_eq_some.1 ha
    · exact hfinish
    · omega
    · omega
  · obtain ⟨a, ha, hfinish⟩ := hanchored 1 hkind
    obtain ⟨-, ⟨hk, -⟩ | ⟨-, rfl⟩ | ⟨hk, -⟩⟩ := anchorOf_eq_some.1 ha
    · omega
    · exact hfinish
    · omega
  · obtain ⟨a, ha, hfinish⟩ := hanchored 2 hkind
    obtain ⟨-, ⟨hk, -⟩ | ⟨hk, -⟩ | ⟨-, rfl⟩⟩ := anchorOf_eq_some.1 ha
    · omega
    · omega
    · exact hfinish

/-! ## A new slot (R4, R13, R181) -/

/-- A new booking as its slot is filled. -/
def newBooking (n : Nat) (f : BookingFields) (uid : Nat) : Booking := ⟨n, f, .held, none, .noOutcome, 0, uid, ⟨false, false⟩⟩

theorem mem_insertBooking {k j : Booking} {l : List Booking} : j ∈ insertBooking k l ↔ j = k ∨ j ∈ l := by
  induction l with
  | nil => exact List.mem_singleton.trans (or_iff_left List.not_mem_nil).symm
  | cons x xs ih =>
    unfold insertBooking
    split
    · exact List.mem_cons
    · rw [List.mem_cons, ih, List.mem_cons]
      exact or_left_comm

/-- A booking that joins the table is found at its number, and every other number as before. -/
theorem insertBooking_find? {k : Booking} {l : List Booking} (hfree : ∀ j ∈ l, j.number ≠ k.number) (m : Nat) :
    (insertBooking k l).find? (fun j => j.number == m) =
      if m = k.number then some k else l.find? (fun j => j.number == m) := by
  have hcons : ∀ (y : Booking) (ys : List Booking), (y :: ys).find? (fun j => j.number == m) =
      if m = y.number then some y else ys.find? (fun j => j.number == m) := fun y ys => by
    split
    · next hm => exact List.find?_cons_of_pos (beq_iff_eq.2 hm.symm)
    · next hm => exact List.find?_cons_of_neg fun h => hm (beq_iff_eq.1 h).symm
  induction l with
  | nil => exact hcons k []
  | cons x xs ih =>
    unfold insertBooking
    split
    · exact hcons k (x :: xs)
    · rw [hcons, hcons, ih fun j hj => hfree j (List.mem_cons_of_mem x hj)]
      by_cases hx : m = x.number
      · rw [if_pos hx, if_pos hx, if_neg fun h => hfree x List.mem_cons_self (hx.symm.trans h)]
      · rw [if_neg hx, if_neg hx]

theorem addBooking_eq (n : Nat) (f : BookingFields) (b : Blocks) : addBooking n f b = { b with
    bookings := insertBooking (newBooking n f b.nextId) b.bookings
    nextId := b.nextId + 1
    lastFreed := none
    notices := (takeSlot b).notices } := by
  unfold addBooking takeSlot newBooking
  split <;> rfl

theorem takeSlot_notices {b : Blocks} (h : b.bookings.length + b.closedCount < 256) : (takeSlot b).notices = b.notices := by
  have hkept : takeSlot b = b := if_neg (not_le.2 h)
  rw [hkept]

section
variable {b : Blocks} {n : Nat} (hfree : ∀ k ∈ b.bookings, k.number ≠ n) (f : BookingFields)
include hfree

theorem addBooking_booking? (m : Nat) :
    (addBooking n f b).booking? m = if m = n then some (newBooking n f b.nextId) else b.booking? m := by
  rw [addBooking_eq]
  exact insertBooking_find? (k := newBooking n f b.nextId) hfree m

theorem addBooking_zonesOf {m : Nat} (hm : m ≠ n) : (addBooking n f b).zonesOf m = b.zonesOf m := by
  unfold Blocks.zonesOf
  rw [addBooking_booking? hfree, if_neg hm]

end

/-! ## The checks of a Book (R13) -/

section
variable {b : Blocks} {x : BookingBody} {f : BookingFields}

theorem book_malformed (hskip : 4 < x.skipCount.toNat) : book (encodeBookingBody x) b = (b, refuse .malformed) := by
  unfold book
  rw [decode_encodeBookingBody]
  exact if_pos hskip

theorem book_outside (hskip : x.skipCount.toNat ≤ 4) (hout : x.number.toNat = 0 ∨ 65534 < x.number.toNat ∨ ¬BodyFits x) :
    book (encodeBookingBody x) b = (b, refuse .outOfRange) := by
  unfold book
  rw [decode_encodeBookingBody]
  dsimp only
  rw [if_neg (not_lt.2 hskip)]
  split
  · rfl
  · next hnumber =>
    rw [Bool.not_eq_true', Bool.not_eq_false, bookingNumber_iff] at hnumber
    have hunfit : ¬BodyFits x := by
      obtain h | h | h := hout
      · omega
      · omega
      · exact h
    cases hfields : bookFields x with
    | none => rfl
    | some f => exact absurd ((bookFields_isSome x).1 (Option.isSome_iff_exists.2 ⟨f, hfields⟩)) hunfit

variable (hskip : x.skipCount.toNat ≤ 4) (hlow : 1 ≤ x.number.toNat) (hhigh : x.number.toNat ≤ 65534) (hf : bookFields x = some f)
include hskip hlow hhigh hf

theorem book_refused {st : Status} (h : b.bookRefusal x.number.toNat f = some st) :
    book (encodeBookingBody x) b = (b, refuse st) := by
  unfold book
  rw [decode_encodeBookingBody]
  dsimp only
  rw [if_neg (not_lt.2 hskip), (bookingNumber_iff _).2 ⟨hlow, hhigh⟩, hf]
  dsimp only
  rw [h]
  rfl

theorem book_placed (h : b.bookRefusal x.number.toNat f = none) : book (encodeBookingBody x) b =
    (place x.number.toNat (addBooking x.number.toNat f b),
      bookingReply x.number.toNat none false false (place x.number.toNat (addBooking x.number.toNat f b))) := by
  unfold book
  rw [decode_encodeBookingBody]
  dsimp only
  rw [if_neg (not_lt.2 hskip), (bookingNumber_iff _).2 ⟨hlow, hhigh⟩, hf]
  dsimp only
  rw [h]
  rfl

end

section
variable {b : Blocks} {n : Nat} {f : BookingFields}

theorem bookRefusal_protected (h : b.namesProtected f.zones = true) : b.bookRefusal n f = some .isProtected := if_pos h

variable (hopen : b.namesProtected f.zones = false)
include hopen

theorem bookRefusal_unready (h : (b.program f.program).isReady = false) : b.bookRefusal n f = some .noProgram := by
  unfold Blocks.bookRefusal
  rw [hopen, h]
  rfl

variable (hready : (b.program f.program).isReady = true)
include hready

theorem bookRefusal_duplicate (h : ∃ k ∈ b.bookings, k.number = n) : b.bookRefusal n f = some .duplicate := by
  obtain ⟨k, hk, hn⟩ := h
  have hfound : (b.booking? n).isSome = true := List.find?_isSome.2 ⟨k, hk, beq_iff_eq.2 hn⟩
  unfold Blocks.bookRefusal
  rw [hopen, hready, hfound]
  rfl

variable (hfree : ∀ k ∈ b.bookings, k.number ≠ n)
include hfree

theorem bookRefusal_of_free :
    b.bookRefusal n f = if 256 ≤ b.bookings.length then some .tableFull else none := by
  have hnone : b.booking? n = none := List.find?_eq_none.2 fun k hk h => hfree k hk (beq_iff_eq.1 h)
  unfold Blocks.bookRefusal
  rw [hopen, hready, hnone]
  rfl

end

/-! ## The reply (R14, R15) -/

theorem bookingReply_of_booking {b : Blocks} {n : Nat} {k : Booking} (hk : b.booking? n = some k) (before : Option Nat)
    (amended stalled : Bool) : bookingReply n before amended stalled b =
      ⟨.ok, b.warnings k before amended stalled, .placed k.state k.lastOutcome (b.upcoming? n)⟩ := by
  unfold bookingReply
  rw [hk]
  rfl

theorem bookingReply_of_freed {b : Blocks} {n : Nat} {k : Booking} (hnone : b.booking? n = none) (hk : b.lastFreed = some k)
    (before : Option Nat) (amended stalled : Bool) : bookingReply n before amended stalled b =
      ⟨.ok, b.warnings k before amended stalled, .placed k.state k.lastOutcome (b.upcoming? n)⟩ := by
  unfold bookingReply
  rw [hnone, hk]
  rfl

/-- A booking that is neither Scheduled nor Running has only the warnings of its own state. -/
theorem warnings_of_unplaced {b : Blocks} {k : Booking} (hscheduled : k.state ≠ .scheduled) (hrunning : k.state ≠ .running)
    (before : Option Nat) (amended stalled : Bool) : b.warnings k before amended stalled =
      ⟨false, decide (k.state = .retiring), false, decide (k.state = .stalled)⟩ := by
  unfold Blocks.warnings Blocks.shadowed Blocks.estimatedNow
  cases hstate : k.state with
  | scheduled => exact absurd hstate hscheduled
  | running => exact absurd hstate hrunning
  | held => simp
  | stalled => simp
  | retiring => simp

theorem warnings_of_scheduled {b : Blocks} {k : Booking} {e : UpcomingEntry} (hstate : k.state = .scheduled)
    (hentry : b.upcoming? k.number = some e) (before : Option Nat) (amended stalled : Bool) :
    b.warnings k before amended stalled = ⟨b.shadowedAt e.start e.tier k.fields.zones, false, e.estimated, false⟩ := by
  unfold Blocks.warnings Blocks.shadowed Blocks.estimatedNow
  rw [hstate, hentry]
  simp

/-- R15: a placed occurrence is shadowed when each of its zones is claimed by one of strictly higher tier that runs at its start. -/
theorem shadowedAt_iff {b : Blocks} {t : Instant} {tier : Tier} {zones : List Nat} : b.shadowedAt t tier zones = true ↔ ∀ z ∈ zones,
    (∃ o ∈ b.active, tier.rank < o.tier.rank ∧ o.start ≤ t ∧ t < o.finish ∧ z ∈ b.zonesOf o.number) ∨
      ∃ e ∈ b.upcoming, tier.rank < e.tier.rank ∧ e.start ≤ t ∧ t < e.finish ∧ z ∈ b.zonesOf e.number := by
  have hrunning : ∀ p, p ∈ b.runningAt t ↔
      ((∃ o ∈ b.active, placedActive o = p) ∨ ∃ e ∈ b.upcoming, placedUpcoming e = p) ∧ p.start ≤ t ∧ t < p.finish := fun p => by
    unfold Blocks.runningAt
    rw [List.mem_filter, List.mem_append, List.mem_map, List.mem_map, Bool.and_eq_true, decide_eq_true_eq, decide_eq_true_eq]
  unfold Blocks.shadowedAt
  rw [List.all_eq_true]
  refine forall₂_congr fun z _ => ?_
  rw [List.any_eq_true]
  simp only [Bool.and_eq_true, decide_eq_true_eq, hrunning]
  constructor
  · rintro ⟨p, ⟨⟨o, ho, rfl⟩ | ⟨e, he, rfl⟩, hstart, hfinish⟩, htier, hz⟩
    · exact .inl ⟨o, ho, htier, hstart, hfinish, hz⟩
    · exact .inr ⟨e, he, htier, hstart, hfinish, hz⟩
  · rintro (⟨o, ho, htier, hstart, hfinish, hz⟩ | ⟨e, he, htier, hstart, hfinish, hz⟩)
    · exact ⟨placedActive o, ⟨.inl ⟨o, ho, rfl⟩, hstart, hfinish⟩, htier, hz⟩
    · exact ⟨placedUpcoming e, ⟨.inr ⟨e, he, rfl⟩, hstart, hfinish⟩, htier, hz⟩

/-! ## A booking's own entry -/

theorem upcoming?_eq_none {b : Blocks} {n : Nat} : b.upcoming? n = none ↔ ∀ e ∈ b.upcoming, e.number ≠ n := by
  unfold Blocks.upcoming?
  rw [List.find?_eq_none]
  simp only [beq_iff_eq, ne_eq]

theorem active?_eq_none {b : Blocks} {n : Nat} : b.active? n = none ↔ ∀ o ∈ b.active, o.number ≠ n := by
  unfold Blocks.active?
  rw [List.find?_eq_none]
  simp only [beq_iff_eq, ne_eq]

theorem upcoming?_of_only {b : Blocks} {n : Nat} {e : UpcomingEntry} (he : e ∈ b.upcoming) (hn : e.number = n)
    (honly : ∀ x ∈ b.upcoming, x.number = n → x = e) : b.upcoming? n = some e := by
  cases hfind : b.upcoming? n with
  | none => exact absurd hn (upcoming?_eq_none.1 hfind e he)
  | some x =>
    exact congrArg some (honly x (List.mem_of_find?_eq_some hfind)
      (beq_iff_eq.1 (List.find?_some (p := fun x : UpcomingEntry => x.number == n) hfind)))

/-- The entry of a window as it stands in the list once it was placed (R32, R35). -/
def listedEntry (n : Nat) (tier : Tier) (now : Instant) (w : Window) (b : Blocks) : UpcomingEntry :=
  ⟨n, tier, w.day, w.start, w.finish, w.estimated, b.withinLead now (windowEntry n tier w)⟩

section
variable {b : Blocks} {n : Nat} (hfree : ∀ e ∈ b.upcoming, e.number ≠ n) (tier : Tier) (now : Instant) (w : Window)
include hfree

theorem mem_insertWindow {e : UpcomingEntry} :
    e ∈ (insertWindow n tier now w b).upcoming ↔ e ∈ b.upcoming ∨ e = listedEntry n tier now w b := by
  have hlead : (windowListed n tier w b).withinLead now (windowEntry n tier w) = b.withinLead now (windowEntry n tier w) := by
    unfold Blocks.withinLead windowListed
    rw [reportIf_records]
    rfl
  rw [insertWindow_eq, hlead]
  unfold listedEntry
  cases b.withinLead now (windowEntry n tier w) with
  | false =>
    rw [if_neg Bool.false_ne_true, windowListed_upcoming, mem_insertUpcoming, or_comm]
    exact Iff.rfl
  | true =>
    rw [if_pos rfl, armEntry_upcoming, windowListed_upcoming, List.mem_map]
    have hother : ∀ x ∈ b.upcoming, armedAmong [n] x = x := fun x hx =>
      if_neg fun h => hfree x hx (List.mem_singleton.1 h)
    have hown : armedAmong [n] (windowEntry n tier w) = ⟨n, tier, w.day, w.start, w.finish, w.estimated, true⟩ :=
      if_pos List.mem_cons_self
    constructor
    · rintro ⟨x, hx, rfl⟩
      obtain rfl | hx := mem_insertUpcoming.1 hx
      · exact .inr hown
      · rw [hother x hx]
        exact .inl hx
    · rintro (he | rfl)
      · exact ⟨e, mem_insertUpcoming.2 (.inr he), hother e he⟩
      · exact ⟨_, mem_insertUpcoming.2 (.inl rfl), hown⟩

theorem insertWindow_upcoming? : (insertWindow n tier now w b).upcoming? n = some (listedEntry n tier now w b) := by
  refine upcoming?_of_only ((mem_insertWindow hfree tier now w).2 (.inr rfl)) rfl fun x hx hn => ?_
  obtain hx | rfl := (mem_insertWindow hfree tier now w).1 hx
  · exact absurd hn (hfree x hx)
  · rfl

end

theorem insertWindow_told {n : Nat} {w : Window} (h : w.estimated = true) (tier : Tier) (now : Instant) (b : Blocks) :
    Told (insertWindow n tier now w b) (.booking n) .estimated := by
  have hlisted : Told (windowListed n tier w b) (.booking n) .estimated := by
    unfold windowListed reportIf
    rw [if_pos h]
    exact report_told _ _ _
  rw [insertWindow_eq]
  split
  · exact (told_stable _ _).armEntry hlisted n
  · exact hlisted

/-! ## Placements (R7, R14) -/

theorem place_of_waiting {b : Blocks} {n : Nat} (h : (placeOnly false n b).isDue n = false) : place n b = placeOnly false n b :=
  if_neg (by rw [h]; exact Bool.false_ne_true)

theorem isDue_of_unlisted {b : Blocks} {n : Nat} (h : ∀ e ∈ b.upcoming, e.number ≠ n) : b.isDue n = false := by
  unfold Blocks.isDue
  rw [upcoming?_eq_none.2 h]

section
variable {b : Blocks} {n : Nat} {k : Booking} (hk : b.booking? n = some k) (hfree : ∀ e ∈ b.upcoming, e.number ≠ n)
include hk hfree

/-- What a placement for a later window leaves, and its reply (R14, R15). -/
theorem place_schedules {now : Instant} {w : Window} {bd : Option Instant} (hnow : b.time.now = some now)
    (hsearch : search b.almanac b.time.base now k.fields k.boundary = ⟨.window w, bd, false⟩) (hlater : now < w.start) :
    place n b = insertWindow n k.fields.tier now w b ∧
    bookingReply n none false false (place n b) =
      ⟨.ok, ⟨(place n b).shadowedAt w.start k.fields.tier k.fields.zones, false, w.estimated, false⟩,
        .placed .scheduled k.lastOutcome ((place n b).upcoming? n)⟩ := by
  have hplaced := placeOnly_of_window hk hnow false hsearch
  have hset : (insertWindow n k.fields.tier now w b).time.now = some now := by rw [(insertWindow_placement _ _ _ _ _).time, hnow]
  have hplace : place n b = insertWindow n k.fields.tier now w b := by
    rw [place_of_waiting, hplaced]
    rw [hplaced]
    refine isDue_of_later hset fun x hx hn => ?_
    obtain hx | rfl := (mem_insertWindow hfree _ _ _).1 hx
    · exact absurd hn (hfree x hx)
    · exact hlater
  have hbooking : (insertWindow n k.fields.tier now w b).booking? n = some (scheduledFor w k) := by
    rw [insertWindow_booking?, if_pos rfl, hk]
    rfl
  have hentry := insertWindow_upcoming? hfree k.fields.tier now w
  have hnumber : (scheduledFor w k).number = n := (booking?_number hk : k.number = n)
  refine ⟨hplace, ?_⟩
  rw [hplace, bookingReply_of_booking hbooking, warnings_of_scheduled rfl (by rw [hnumber]; exact hentry)]
  rfl

omit hk in
/-- R15: the Shadowed test of a placement looks at the occurrences that stood before it. -/
theorem insertWindow_shadowed {now : Instant} {w : Window} {zones : List Nat} (tier : Tier) :
    (insertWindow n tier now w b).shadowedAt w.start tier zones = b.shadowedAt w.start tier zones := by
  rw [Bool.eq_iff_iff, shadowedAt_iff, shadowedAt_iff, (insertWindow_placement n tier now w b).active]
  refine forall₂_congr fun z _ => or_congr ?_ ?_
  · simp only [insertWindow_zonesOf]
  · simp only [insertWindow_zonesOf]
    constructor
    · rintro ⟨e, he, htier, hrest⟩
      obtain he | rfl := (mem_insertWindow hfree _ _ _).1 he
      · exact ⟨e, he, htier, hrest⟩
      · exact absurd htier (lt_irrefl _)
    · rintro ⟨e, he, hrest⟩
      exact ⟨e, (mem_insertWindow hfree _ _ _).2 (.inl he), hrest⟩

/-- A search that stops at a day without almanac time leaves the booking Stalled. -/
theorem place_stalls {now : Instant} {bd : Option Instant} (hnow : b.time.now = some now)
    (hsearch : search b.almanac b.time.base now k.fields k.boundary = ⟨.stalled, bd, false⟩) :
    place n b = (setBookingState n .stalled b).report (.booking n) .stalled := by
  have hplaced := placeOnly_of_stalled hk hnow false hsearch
  rw [Bool.false_and, if_neg Bool.false_ne_true] at hplaced
  rw [place_of_waiting, hplaced]
  rw [hplaced]
  refine isDue_of_unlisted ?_
  rw [report_upcoming]
  exact hfree

/-- A search with no window left retires the booking. -/
theorem place_retires {now : Instant} {bd : Option Instant} (hnow : b.time.now = some now)
    (hsearch : search b.almanac b.time.base now k.fields k.boundary = ⟨.noneLeft, bd, false⟩) : place n b = retire n b := by
  have hplaced := placeOnly_of_noneLeft hk hnow false hsearch
  have hupcoming : (retire n b).upcoming = b.upcoming := by
    unfold retire freeSlot
    dsimp only
    split
    · rw [report_upcoming]
      rfl
    · split <;> rfl
  rw [place_of_waiting, hplaced]
  rw [hplaced]
  refine isDue_of_unlisted ?_
  rw [hupcoming]
  exact hfree

/-- Before civil time is set a booking is Held. -/
theorem place_holds (hnow : b.time.now = none) : place n b = setBookingState n .held b := by
  have hplaced := placeOnly_of_unset hk hnow false
  rw [place_of_waiting, hplaced]
  rw [hplaced]
  exact isDue_of_unlisted (b := setBookingState n .held b) hfree

end

/-! ## A placement that is due (R32, R36) -/

theorem insertUpcoming_filter {n : Nat} {e : UpcomingEntry} (hn : e.number = n) {l : List UpcomingEntry}
    (hfree : ∀ x ∈ l, x.number ≠ n) : (insertUpcoming e l).filter (fun x => x.number != n) = l := by
  have hout : ∀ l', (e :: l').filter (fun x => x.number != n) = l'.filter (fun x => x.number != n) := fun l' =>
    List.filter_cons_of_neg (by simp [hn])
  have hall : ∀ {l' : List UpcomingEntry}, (∀ x ∈ l', x.number ≠ n) → l'.filter (fun x => x.number != n) = l' := fun h =>
    List.filter_eq_self.2 fun x hx => bne_iff_ne.2 (h x hx)
  induction l with
  | nil => exact hout []
  | cons x xs ih =>
    unfold insertUpcoming
    split
    · rw [hout, hall hfree]
    · rw [List.filter_cons_of_pos (p := fun x : UpcomingEntry => x.number != n) (bne_iff_ne.2 (hfree x List.mem_cons_self)),
        ih fun y hy => hfree y (List.mem_cons_of_mem x hy)]

theorem enter_active? {b : Blocks} {e : UpcomingEntry} (hnone : b.active? e.number = none) (extra : List Nat) :
    ∃ f, (enter e extra b).active? e.number = some (heldSet f (newcomerOf e b)) := by
  obtain ⟨f, hactive⟩ := enter_active e extra b
  refine ⟨f, ?_⟩
  have hold : (b.active.map (heldSet f)).find? (fun o => o.number == e.number) = none := by
    rw [List.find?_map]
    exact Option.map_eq_none_iff.2 hnone
  unfold Blocks.active?
  rw [hactive, List.map_append, List.find?_append, hold, Option.none_or]
  exact List.find?_cons_of_pos (p := fun o : Occurrence => o.number == e.number) (beq_self_eq_true e.number)

theorem warnings_of_running {b : Blocks} {k : Booking} {o : Occurrence} (hstate : k.state = .running)
    (hoccurrence : b.active? k.number = some o) : b.warnings k none false false =
      ⟨b.shadowedAt (b.time.now.getD o.start) o.tier k.fields.zones, false, k.marks.any, false⟩ := by
  unfold Blocks.warnings Blocks.shadowed Blocks.estimatedNow
  rw [hstate, hoccurrence]
  simp

/-- The blocks with a due window listed and taken off the list again. -/
def dueTaken (n : Nat) (tier : Tier) (w : Window) (b : Blocks) : Blocks := removeEntry n (windowListed n tier w b)

section
variable {b : Blocks} {n : Nat} {k : Booking} (hk : b.booking? n = some k) (hfree : ∀ e ∈ b.upcoming, e.number ≠ n)
  {now : Instant} {w : Window} {bd : Option Instant} (hnow : b.time.now = some now)
  (hsearch : search b.almanac b.time.base now k.fields k.boundary = ⟨.window w, bd, false⟩) (hdue : w.start ≤ now)
  (hroom : b.active.length < 32)

theorem dueTaken_kept (n : Nat) (tier : Tier) (w : Window) (b : Blocks) : TouchesPlacement b (dueTaken n tier w b) := by
  have hlisted : TouchesPlacement b (windowListed n tier w b) := by
    unfold TouchesPlacement windowListed
    rw [reportIf_records]
    rfl
  exact hlisted.trans (removeEntry_placement n _)

include hk in
theorem dueTaken_booking? (tier : Tier) (w : Window) : (dueTaken n tier w b).booking? n = some (scheduledFor w k) := by
  have hbookings : (dueTaken n tier w b).bookings = b.bookings.map (rewriteBooking n (scheduledFor w)) :=
    (removeEntry_arming n _).bookings.trans (windowListed_bookings n tier w b)
  rw [booking?_of_rewritten (g := scheduledFor w) (fun _ => rfl) hbookings, if_pos rfl, hk]
  rfl

include hfree in
theorem dueTaken_upcoming (tier : Tier) (w : Window) : (dueTaken n tier w b).upcoming = b.upcoming := by
  unfold dueTaken
  rw [removeEntry_upcoming, windowListed_upcoming]
  exact insertUpcoming_filter (e := windowEntry n tier w) rfl hfree

include hk hfree hnow hsearch hdue hroom

/-- A window that is due when it is found starts at once (R32). -/
theorem place_starts : place n b = enter (windowEntry n k.fields.tier w) [] (dueTaken n k.fields.tier w b) := by
  have hlisted : placeOnly false n b = windowListed n k.fields.tier w b := by
    rw [placeOnly_of_window hk hnow false hsearch, insertWindow_eq]
    refine if_neg fun hlead => ?_
    exact absurd ((withinLead_iff _ _ _).1 hlead).2 (not_lt.2 hdue)
  have htime : (windowListed n k.fields.tier w b).time = b.time := by
    unfold windowListed
    rw [reportIf_records]
    rfl
  have hactive : (windowListed n k.fields.tier w b).active = b.active := by
    unfold windowListed
    rw [reportIf_records]
    rfl
  have hentry : (windowListed n k.fields.tier w b).upcoming? n = some (windowEntry n k.fields.tier w) := by
    refine upcoming?_of_only (by rw [windowListed_upcoming]; exact mem_insertUpcoming.2 (.inl rfl)) rfl fun x hx hn => ?_
    rw [windowListed_upcoming] at hx
    obtain rfl | hx := mem_insertUpcoming.1 hx
    · rfl
    · exact absurd hn (hfree x hx)
  have hisDue : (windowListed n k.fields.tier w b).isDue n = true := isDue_of_entry (htime ▸ hnow) hentry hdue
  unfold place
  rw [hlisted]
  dsimp only
  rw [if_pos hisDue]
  exact takeStart_of_room hentry (hactive ▸ hroom)

/-- What a due placement leaves of its booking and the list, and its reply (R14, R15). -/
theorem place_starts_leaves (hidle : b.active? n = none) :
    (place n b).upcoming = b.upcoming ∧ (place n b).booking? n = some (runningNow (scheduledFor w k)) ∧
    Told (place n b) (.booking n) .started ∧
    (∃ f, heldSet f (newcomerOf (windowEntry n k.fields.tier w) (dueTaken n k.fields.tier w b)) ∈ (place n b).active) ∧
    ∃ shadowed, bookingReply n none false false (place n b) =
      ⟨.ok, ⟨shadowed, false, w.estimated, false⟩, .placed .running k.lastOutcome none⟩ := by
  have hnumber : (runningNow (scheduledFor w k)).number = n := (booking?_number hk : k.number = n)
  have hkept := dueTaken_kept n k.fields.tier w b
  rw [place_starts hk hfree hnow hsearch hdue hroom]
  have hupcoming : (enter (windowEntry n k.fields.tier w) [] (dueTaken n k.fields.tier w b)).upcoming = b.upcoming :=
    (enter_upcoming _ _ _).trans (dueTaken_upcoming hfree _ _)
  have hbooking : (enter (windowEntry n k.fields.tier w) [] (dueTaken n k.fields.tier w b)).booking? n =
      some (runningNow (scheduledFor w k)) := by
    rw [enter_booking?]
    refine (if_pos rfl).trans ?_
    rw [dueTaken_booking? hk]
    rfl
  obtain ⟨f, hactive⟩ := enter_active? (e := windowEntry n k.fields.tier w) (b := dueTaken n k.fields.tier w b)
    ((active?_congr hkept.active n).trans hidle) []
  have hreply := bookingReply_of_booking hbooking none false false
  rw [warnings_of_running rfl (by rw [hnumber]; exact hactive), upcoming?_eq_none.2 (by rw [hupcoming]; exact hfree)] at hreply
  exact ⟨hupcoming, hbooking, enter_told (windowEntry n k.fields.tier w) [] _, mem_enter_active _ _ _, _, hreply⟩

end

end Sys2Proof.Machine

/-! PROOFS. A Book placed (R7, R10, R14, R15): obligation O42. -/

namespace Sys2Proof.Machine

/-! ## Retirement (R10) -/

/-- The blocks with a booking Retiring. -/
def retiringSet (n : Nat) (b : Blocks) : Blocks := b.updateBooking n retiredNow

theorem retire_told {n : Nat} {b : Blocks} (h : ChangeKind.retired ∈ b.mask) :
    retire n b = (retiringSet n b).report (.booking n) .retired := if_pos h

theorem retire_freed {n : Nat} {b : Blocks} (h : ChangeKind.retired ∉ b.mask) :
    retire n b = freeSlot n { retiringSet n b with lastFreed := (retiringSet n b).booking? n } := if_neg h

theorem retiringSet_booking? {n : Nat} {b : Blocks} {k : Booking} (hk : b.booking? n = some k) :
    (retiringSet n b).booking? n = some (retiredNow k) := by
  rw [booking?_of_rewritten (g := retiredNow) (fun _ => rfl) (a := b) rfl, if_pos rfl, hk]
  rfl

theorem freeSlot_bookings {n : Nat} {b : Blocks} {k : Booking} (hk : b.booking? n = some k) : freeSlot n b = { b with
    notices := closeEntry n (b.bookingView k) b.notices, bookings := b.bookings.filter (fun x => x.number != n) } := by
  unfold freeSlot
  rw [hk]

/-- A freed slot holds no booking any more. -/
theorem freeSlot_booking? (n : Nat) (b : Blocks) : (freeSlot n b).booking? n = none := by
  cases hk : b.booking? n with
  | none =>
    unfold freeSlot
    rw [hk]
    exact hk
  | some k =>
    rw [freeSlot_bookings hk]
    refine List.find?_eq_none.2 fun x hx hn => ?_
    exact bne_iff_ne.1 (List.mem_filter.1 hx).2 (beq_iff_eq.1 hn)

theorem retire_kept (n : Nat) (b : Blocks) : (retire n b).upcoming = b.upcoming := by
  by_cases h : ChangeKind.retired ∈ b.mask
  · rw [retire_told h, report_upcoming]
    rfl
  · rw [retire_freed h]
    unfold freeSlot
    split <;> rfl

/-- What a retirement leaves at its number, and the reply to a Book that found no window (R10, R15). -/
theorem retire_leaves {n : Nat} {b : Blocks} {k : Booking} (hk : b.booking? n = some k) (hfree : ∀ e ∈ b.upcoming, e.number ≠ n) :
    (ChangeKind.retired ∈ b.mask → Told (retire n b) (.booking n) .retired ∧ (retire n b).booking? n = some (retiredNow k)) ∧
    (ChangeKind.retired ∉ b.mask → (retire n b).booking? n = none) ∧
    bookingReply n none false false (retire n b) = ⟨.ok, ⟨false, true, false, false⟩, .placed .retiring k.lastOutcome none⟩ := by
  have hbooking : ∀ h : ChangeKind.retired ∈ b.mask, (retire n b).booking? n = some (retiredNow k) := fun h => by
    rw [retire_told h, booking?_congr (report_bookings _ _ _)]
    exact retiringSet_booking? hk
  have hgone : ∀ h : ChangeKind.retired ∉ b.mask, (retire n b).booking? n = none := fun h => by
    rw [retire_freed h]
    exact freeSlot_booking? n _
  have hunlisted : (retire n b).upcoming? n = none := upcoming?_eq_none.2 (by rw [retire_kept]; exact hfree)
  have hwarnings := warnings_of_unplaced (b := retire n b) (k := retiredNow k) (fun h => by cases h) (fun h => by cases h) none false
    false
  refine ⟨fun h => ⟨by rw [retire_told h]; exact report_told _ _ _, hbooking h⟩, hgone, ?_⟩
  by_cases h : ChangeKind.retired ∈ b.mask
  · rw [bookingReply_of_booking (hbooking h), hwarnings, hunlisted]
    rfl
  · have hfreed : (retire n b).lastFreed = some (retiredNow k) := by
      have hset : ({ retiringSet n b with lastFreed := (retiringSet n b).booking? n } : Blocks).booking? n = some (retiredNow k) :=
        retiringSet_booking? hk
      rw [retire_freed h, freeSlot_bookings hset]
      exact retiringSet_booking? hk
    rw [bookingReply_of_freed (hgone h) hfreed, hwarnings, hunlisted]
    rfl

theorem listedEntry_of_later {n : Nat} {tier : Tier} {now : Instant} {w : Window} (h : now < w.start) (b : Blocks) :
    listedEntry n tier now w b = ⟨n, tier, w.day, w.start, w.finish, w.estimated,
      decide (w.start - (b.armLead : Int) * 1000 ≤ now)⟩ := by
  have hlead : b.withinLead now (windowEntry n tier w) = decide (w.start - (b.armLead : Int) * 1000 ≤ now) := by
    unfold Blocks.withinLead
    show (_ && decide (now < w.start)) = _
    rw [decide_eq_true h, Bool.and_true]
    rfl
  unfold listedEntry
  rw [hlead]

/-! ## The placement of a new booking (R14) -/

section
variable {b : Blocks} {n : Nat} {f : BookingFields}

theorem addBooking_upcoming (n : Nat) (f : BookingFields) (b : Blocks) : (addBooking n f b).upcoming = b.upcoming := by
  rw [addBooking_eq]

theorem addBooking_kept (n : Nat) (f : BookingFields) (b : Blocks) : (addBooking n f b).active = b.active ∧
    (addBooking n f b).holding = b.holding ∧ (addBooking n f b).zones = b.zones ∧ (addBooking n f b).time = b.time ∧
    (addBooking n f b).almanac = b.almanac ∧ (addBooking n f b).armLead = b.armLead ∧ (addBooking n f b).mask = b.mask := by
  rw [addBooking_eq]
  exact ⟨rfl, rfl, rfl, rfl, rfl, rfl, rfl⟩

variable (hfree : ∀ k ∈ b.bookings, k.number ≠ n) (hunlisted : b.upcoming? n = none) (hidle : b.active? n = none)

include hfree in
/-- A new booking is Held until it is placed. -/
theorem addBooking_held : setBookingState n .held (addBooking n f b) = addBooking n f b := by
  have hsame : ∀ k ∈ (addBooking n f b).bookings, (if k.number = n then { k with state := .held } else k) = k := by
    intro k hk
    rw [addBooking_eq] at hk
    obtain rfl | hk := mem_insertBooking.1 hk
    · exact if_pos rfl
    · exact if_neg (hfree k hk)
  have hbookings := List.map_congr_left hsame
  rw [List.map_id'] at hbookings
  unfold setBookingState Blocks.updateBooking
  rw [hbookings]

include hfree hunlisted hidle

/-- R14, R15: a Book whose window is still to come. -/
theorem addBooking_schedules {now : Int} {w : Window} {bd : Option Instant} (hnow : b.time.now = some now)
    (hsearch : search b.almanac b.time.base now f none = ⟨.window w, bd, false⟩) (hlater : now < w.start) :
    ∃ (t : Blocks) (a : Answer), (t, a) = (place n (addBooking n f b), bookingReply n none false false (place n (addBooking n f b))) ∧
      a.status = .ok ∧ a.body = .placed .scheduled .noOutcome (t.upcoming? n) ∧ a.warnings.estimated = w.estimated ∧
      a.warnings.noOccurrence = false ∧ a.warnings.stalled = false ∧
      (a.warnings.shadowed = true ↔ ∀ z ∈ f.zones,
        (∃ o ∈ b.active, f.tier.rank < o.tier.rank ∧ o.start ≤ w.start ∧ w.start < o.finish ∧ z ∈ b.zonesOf o.number) ∨
        ∃ e ∈ b.upcoming, f.tier.rank < e.tier.rank ∧ e.start ≤ w.start ∧ w.start < e.finish ∧ z ∈ b.zonesOf e.number) ∧
      (w.estimated = true → Told t (.booking n) .estimated) ∧
      t.booking? n = some ⟨n, f, .scheduled, none, .noOutcome, 0, b.nextId, w.marks⟩ ∧
      (∀ e, e ∈ t.upcoming ↔ e ∈ b.upcoming ∨
        e = ⟨n, f.tier, w.day, w.start, w.finish, w.estimated, decide (w.start - (b.armLead : Int) * 1000 ≤ now)⟩) ∧
      t.active = b.active ∧ t.holding = b.holding ∧ t.zones = b.zones ∧ t.time = b.time := by
  obtain ⟨hactive, hholding, hzones, htime, halmanac, hlead, -⟩ := addBooking_kept n f b
  have hk : (addBooking n f b).booking? n = some (newBooking n f b.nextId) := (addBooking_booking? hfree f n).trans (if_pos rfl)
  have hup := addBooking_upcoming n f b
  have hfreeUp : ∀ e ∈ (addBooking n f b).upcoming, e.number ≠ n := by rw [hup]; exact upcoming?_eq_none.1 hunlisted
  obtain ⟨hplace, hreply⟩ := place_schedules hk hfreeUp (htime ▸ hnow)
    (by rw [halmanac, htime]; exact hsearch) hlater
  have hplaced := insertWindow_placement n f.tier now w (addBooking n f b)
  refine ⟨_, _, rfl, by rw [hreply], by rw [hreply]; rfl, by rw [hreply], by rw [hreply], by rw [hreply], ?_, fun hestimated => ?_, ?_,
    fun e => ?_, ?_, ?_, ?_, ?_⟩
  · rw [hreply]
    show (place n (addBooking n f b)).shadowedAt w.start f.tier f.zones = true ↔ _
    have hzonesOf : ∀ {m}, m ≠ n → (addBooking n f b).zonesOf m = b.zonesOf m := fun hm => addBooking_zonesOf hfree f hm
    rw [hplace]
    refine (Bool.eq_iff_iff.1 (insertWindow_shadowed hfreeUp f.tier)).trans ?_
    rw [shadowedAt_iff, hactive, hup]
    refine forall₂_congr fun z _ => or_congr (exists_congr fun o => and_congr_right fun ho => ?_)
      (exists_congr fun e => and_congr_right fun he => ?_)
    · rw [hzonesOf (active?_eq_none.1 hidle o ho)]
    · rw [hzonesOf (upcoming?_eq_none.1 hunlisted e he)]
  · rw [hplace]
    exact insertWindow_told hestimated _ _ _
  · rw [hplace, insertWindow_booking?, if_pos rfl, hk]
    rfl
  · rw [hplace]
    refine (mem_insertWindow hfreeUp f.tier now w).trans ?_
    rw [listedEntry_of_later hlater, hup, hlead]
  · rw [hplace]
    exact hplaced.active.trans hactive
  · rw [hplace]
    exact hplaced.holding.trans hholding
  · rw [hplace]
    exact hplaced.zones.trans hzones
  · rw [hplace]
    exact hplaced.time.trans htime

/-- R14, R32: a Book whose window is due. -/
theorem addBooking_starts {now : Int} {w : Window} {bd : Option Instant} (hnow : b.time.now = some now)
    (hsearch : search b.almanac b.time.base now f none = ⟨.window w, bd, false⟩) (hdue : w.start ≤ now)
    (hroom : b.active.length < 32) :
    ∃ (t : Blocks) (a : Answer), (t, a) = (place n (addBooking n f b), bookingReply n none false false (place n (addBooking n f b))) ∧
      a.status = .ok ∧ a.body = .placed .running .noOutcome none ∧ a.warnings.estimated = w.estimated ∧
      a.warnings.noOccurrence = false ∧ a.warnings.stalled = false ∧ t.upcoming = b.upcoming ∧
      t.booking? n = some ⟨n, f, .running, none, .noOutcome, 0, b.nextId, w.marks⟩ ∧ Told t (.booking n) .started ∧
      ∃ o ∈ t.active, o.number = n ∧ o.tier = f.tier ∧ o.day = w.day ∧ o.start = w.start ∧ o.finish = w.finish ∧
        (f.follow = none → o.position = min 2147483647 (now - w.start)) := by
  obtain ⟨hactive, -, -, htime, halmanac, -, -⟩ := addBooking_kept n f b
  have hk : (addBooking n f b).booking? n = some (newBooking n f b.nextId) := (addBooking_booking? hfree f n).trans (if_pos rfl)
  have hup := addBooking_upcoming n f b
  obtain ⟨hupcoming, hbooking, htold, ⟨g, hin⟩, shadowed, hreply⟩ := place_starts_leaves hk
    (by rw [hup]; exact upcoming?_eq_none.1 hunlisted) (htime ▸ hnow) (by rw [halmanac, htime]; exact hsearch) hdue
    (hactive ▸ hroom) ((active?_congr hactive n).trans hidle)
  have htaken := dueTaken_kept n f.tier w (addBooking n f b)
  refine ⟨_, _, rfl, by rw [hreply], by rw [hreply]; rfl, by rw [hreply], by rw [hreply], by rw [hreply], hupcoming.trans hup, hbooking,
    htold, _, hin, rfl, rfl, rfl, rfl, rfl, fun hfollow => ?_⟩
  exact (newcomerOf_unfollowed (e := windowEntry n f.tier w) (dueTaken_booking? hk f.tier w)
    (htaken.time.trans htime ▸ hnow) hfollow).2

omit hidle in
/-- R14, R15: a Book whose search stops at a day without almanac time. -/
theorem addBooking_stalls {now : Int} {bd : Option Instant} (hnow : b.time.now = some now)
    (hsearch : search b.almanac b.time.base now f none = ⟨.stalled, bd, false⟩) :
    ∃ t : Blocks, (t, (⟨.ok, ⟨false, false, false, true⟩, .placed .stalled .noOutcome none⟩ : Answer)) =
        (place n (addBooking n f b), bookingReply n none false false (place n (addBooking n f b))) ∧
      t.booking? n = some ⟨n, f, .stalled, none, .noOutcome, 0, b.nextId, ⟨false, false⟩⟩ ∧
      Told t (.booking n) .stalled ∧ t.upcoming = b.upcoming ∧ t.active = b.active := by
  obtain ⟨hactive, -, -, htime, halmanac, -, -⟩ := addBooking_kept n f b
  have hk : (addBooking n f b).booking? n = some (newBooking n f b.nextId) := (addBooking_booking? hfree f n).trans (if_pos rfl)
  have hup := addBooking_upcoming n f b
  have hfreeUp : ∀ e ∈ (addBooking n f b).upcoming, e.number ≠ n := by rw [hup]; exact upcoming?_eq_none.1 hunlisted
  have hplace := place_stalls hk hfreeUp (htime ▸ hnow) (by rw [halmanac, htime]; exact hsearch)
  have hbooking : (place n (addBooking n f b)).booking? n = some { newBooking n f b.nextId with state := .stalled } := by
    rw [hplace, booking?_congr (report_bookings _ _ _),
      booking?_of_rewritten (g := fun k => { k with state := .stalled }) (fun _ => rfl) (a := addBooking n f b) rfl, if_pos rfl, hk]
    rfl
  have hupcoming : (place n (addBooking n f b)).upcoming = b.upcoming := by
    rw [hplace, report_upcoming]
    exact hup
  refine ⟨_, Prod.ext rfl ?_, hbooking, by rw [hplace]; exact report_told _ _ _, hupcoming, by rw [hplace, report_active]; exact hactive⟩
  rw [bookingReply_of_booking hbooking, warnings_of_unplaced (fun h => by cases h) (fun h => by cases h),
    upcoming?_eq_none.2 (by rw [hupcoming]; exact upcoming?_eq_none.1 hunlisted)]
  rfl

omit hidle in
/-- R10, R14, R15: a Book with no window left. -/
theorem addBooking_retires {now : Int} {bd : Option Instant} (hnow : b.time.now = some now)
    (hsearch : search b.almanac b.time.base now f none = ⟨.noneLeft, bd, false⟩) :
    ∃ t : Blocks, (t, (⟨.ok, ⟨false, true, false, false⟩, .placed .retiring .noOutcome none⟩ : Answer)) =
        (place n (addBooking n f b), bookingReply n none false false (place n (addBooking n f b))) ∧
      (ChangeKind.retired ∈ b.mask → Told t (.booking n) .retired ∧
        t.booking? n = some ⟨n, f, .retiring, none, .noOutcome, 0, b.nextId, ⟨false, false⟩⟩) ∧
      (ChangeKind.retired ∉ b.mask → t.booking? n = none) ∧ t.upcoming = b.upcoming ∧ t.active = b.active := by
  obtain ⟨hactive, -, -, htime, halmanac, -, hmask⟩ := addBooking_kept n f b
  have hk : (addBooking n f b).booking? n = some (newBooking n f b.nextId) := (addBooking_booking? hfree f n).trans (if_pos rfl)
  have hup := addBooking_upcoming n f b
  have hfreeUp : ∀ e ∈ (addBooking n f b).upcoming, e.number ≠ n := by rw [hup]; exact upcoming?_eq_none.1 hunlisted
  have hplace := place_retires hk hfreeUp (htime ▸ hnow) (by rw [halmanac, htime]; exact hsearch)
  obtain ⟨htold, hgone, hreply⟩ := retire_leaves hk hfreeUp
  rw [hmask] at htold hgone
  rw [hplace]
  exact ⟨_, Prod.ext rfl hreply.symm, htold, hgone, (retire_kept n _).trans hup, (retire_placement n _).active.trans hactive⟩

end

/-- Settles O42: the fields of a body, the checks, and the placements. -/
theorem bookFillsASlot : Obligations.BookFillsASlot := by
  unfold Obligations.BookFillsASlot
  refine ⟨fun x f hf => bookFields_reads hf, bookFields_isSome, fun s r x hasks hkind hbody => ⟨fun hskip => ?_, fun hskip hout => ?_⟩,
    fun s r x f n hasks hkind hbody hn hskip hlow hhigh hf => ?_⟩
  · rw [exec_book hasks hbody hkind, book_malformed hskip]
  · rw [exec_book hasks hbody hkind, book_outside hskip hout]
  · subst hn
    have hrefused : ∀ {st : Status}, s.blocks.bookRefusal x.number.toNat f = some st →
        exec .book s = .next (replied s r s.blocks (refuse st)) := fun h => by
      rw [exec_book hasks hbody hkind, book_refused hskip hlow hhigh hf h]
    refine ⟨fun hprotected => hrefused (bookRefusal_protected hprotected), fun hopen hunready => hrefused (bookRefusal_unready hopen hunready),
      fun hopen hready hduplicate => hrefused (bookRefusal_duplicate hopen hready hduplicate),
      fun hopen hready hfree hfull => hrefused ((bookRefusal_of_free hopen hready hfree).trans (if_pos hfull)),
      fun hopen hready hfree hroom hunlisted hidle => ?_⟩
    have hplaced : ∀ {t : Blocks} {a : Answer}, (t, a) = (place x.number.toNat (addBooking x.number.toNat f s.blocks),
        bookingReply x.number.toNat none false false (place x.number.toNat (addBooking x.number.toNat f s.blocks))) →
        exec .book s = .next (replied s r t a) := fun {t a} h => by
      rw [exec_book hasks hbody hkind, book_placed hskip hlow hhigh hf
        ((bookRefusal_of_free hopen hready hfree).trans (if_neg (not_le.2 hroom))), ← h]
    refine ⟨fun hnow => ?_, fun now w bd hnow hsearch hlater => ?_, fun now w bd hnow hsearch hdue hactive => ?_,
      fun now bd hnow hsearch => ?_, fun now bd hnow hsearch => ?_⟩
    · have hk := (addBooking_booking? hfree f x.number.toNat).trans (if_pos rfl)
      have hfreeUp : ∀ e ∈ (addBooking x.number.toNat f s.blocks).upcoming, e.number ≠ x.number.toNat := by
        rw [addBooking_upcoming]
        exact upcoming?_eq_none.1 hunlisted
      have hplace : place x.number.toNat (addBooking x.number.toNat f s.blocks) = addBooking x.number.toNat f s.blocks :=
        (place_holds hk hfreeUp (by rw [(addBooking_kept _ f s.blocks).2.2.2.1]; exact hnow)).trans (addBooking_held hfree)
      have hbookings : (addBooking x.number.toNat f s.blocks).bookings =
          insertBooking (newBooking x.number.toNat f s.blocks.nextId) s.blocks.bookings := by rw [addBooking_eq]
      refine ⟨addBooking x.number.toNat f s.blocks, hplaced (Prod.ext hplace.symm ?_), by rw [addBooking_eq], fun k => ?_, fun hslots => ?_⟩
      · rw [hplace, bookingReply_of_booking hk, warnings_of_unplaced (fun h => by cases h) (fun h => by cases h),
          upcoming?_eq_none.2 hfreeUp]
        rfl
      · rw [hbookings]
        exact mem_insertBooking
      · rw [addBooking_eq]
        exact takeSlot_notices hslots
    · obtain ⟨t, a, hta, hrest⟩ := addBooking_schedules hfree hunlisted hidle hnow hsearch hlater
      exact ⟨t, a, hplaced hta, hrest⟩
    · obtain ⟨t, a, hta, hrest⟩ := addBooking_starts hfree hunlisted hidle hnow hsearch hdue hactive
      exact ⟨t, a, hplaced hta, hrest⟩
    · obtain ⟨t, hta, hrest⟩ := addBooking_stalls hfree hunlisted hnow hsearch
      exact ⟨t, hplaced hta, hrest⟩
    · obtain ⟨t, hta, hrest⟩ := addBooking_retires hfree hunlisted hnow hsearch
      exact ⟨t, hplaced hta, hrest⟩

end Sys2Proof.Machine

/-! PROOFS. Amend of a booking that waits (R16, R17): obligation O43. -/

namespace Sys2Proof.Machine

/-! ## The body of an Amend (section 11.6) -/

theorem decodeAmend_encode (mask : BitVec 16) (x : BookingBody) :
    decodeAmend (beBytes16 mask ++ encodeBookingBody x) = some (mask, x) := by
  unfold decodeAmend
  refine bind_of_eq_some (read16_append mask _) ?_
  exact bind_of_eq_some (decode_encodeBookingBody x) rfl

theorem amend_read (mask : BitVec 16) (x : BookingBody) (b : Blocks) :
    amend (beBytes16 mask ++ encodeBookingBody x) b = amendWith mask x b := by
  unfold amend
  rw [decodeAmend_encode]

/-! ## The checks (R16) -/

section
variable {mask : BitVec 16} {x : BookingBody} {b : Blocks}

theorem amendWith_malformed (hbit : mask.getLsbD 2 = true) (hskip : 4 < x.skipCount.toNat) :
    amendWith mask x b = (b, refuse .malformed) := by
  unfold amendWith
  rw [hbit, decide_eq_true hskip]
  rfl

variable (hskip : mask.getLsbD 2 = true → x.skipCount.toNat ≤ 4)
include hskip

theorem skipFits : (mask.getLsbD 2 && decide (4 < x.skipCount.toNat)) = false := by
  rw [Bool.and_eq_false_imp]
  exact fun h => decide_eq_false (not_lt.2 (hskip h))

theorem amendWith_outside (hout : x.number.toNat = 0 ∨ 65534 < x.number.toNat) : amendWith mask x b = (b, refuse .outOfRange) := by
  unfold amendWith
  dsimp only
  rw [skipFits hskip, bookingNumber_out hout]
  rfl

variable (hlow : 1 ≤ x.number.toNat) (hhigh : x.number.toNat ≤ 65534)
include hlow hhigh

theorem amendWith_free (hnone : b.booking? x.number.toNat = none) : amendWith mask x b = (b, refuse .noSuchRecord) := by
  unfold amendWith
  dsimp only
  rw [skipFits hskip, (bookingNumber_iff _).2 ⟨hlow, hhigh⟩, hnone]
  rfl

variable {k : Booking} (hk : b.booking? x.number.toNat = some k)
include hk

theorem amendWith_retiring (hstate : k.state = .retiring) : amendWith mask x b = (b, refuse .wrongState) := by
  unfold amendWith
  dsimp only
  rw [skipFits hskip, (bookingNumber_iff _).2 ⟨hlow, hhigh⟩, hk]
  exact if_pos hstate

variable (hstate : k.state ≠ .retiring)
include hstate

theorem amendWith_unfit (hfields : layFields mask x k.fields = none) : amendWith mask x b = (b, refuse .outOfRange) := by
  unfold amendWith
  dsimp only
  rw [skipFits hskip, (bookingNumber_iff _).2 ⟨hlow, hhigh⟩, hk]
  dsimp only
  rw [if_neg hstate, hfields]
  rfl

variable {f : BookingFields} (hfields : layFields mask x k.fields = some f)
include hfields

theorem amendWith_refused {st : Status} (h : b.amendRefusal mask k f = some st) : amendWith mask x b = (b, refuse st) := by
  unfold amendWith
  dsimp only
  rw [skipFits hskip, (bookingNumber_iff _).2 ⟨hlow, hhigh⟩, hk]
  dsimp only
  rw [if_neg hstate, hfields]
  dsimp only
  rw [h]
  rfl

variable (h : b.amendRefusal mask k f = none)
include h

theorem amendWith_waiting (hidle : b.active? x.number.toNat = none) : amendWith mask x b = amendWaiting x.number.toNat f b := by
  unfold amendWith
  dsimp only
  rw [skipFits hskip, (bookingNumber_iff _).2 ⟨hlow, hhigh⟩, hk]
  dsimp only
  rw [if_neg hstate, hfields]
  dsimp only
  rw [h, hidle]
  rfl

theorem amendWith_running {o : Occurrence} (ho : b.active? x.number.toNat = some o) :
    amendWith mask x b = amendRunning mask k f o { b with lastFreed := none } := by
  unfold amendWith
  dsimp only
  rw [skipFits hskip, (bookingNumber_iff _).2 ⟨hlow, hhigh⟩, hk]
  dsimp only
  rw [if_neg hstate, hfields]
  dsimp only
  rw [h, ho]
  rfl

end

section
variable {mask : BitVec 16} {b : Blocks} {k : Booking} {f : BookingFields}

theorem amendRefusal_protected (h : b.namesProtected f.zones = true) : b.amendRefusal mask k f = some .isProtected := if_pos h

variable (hopen : b.namesProtected f.zones = false)
include hopen

theorem amendRefusal_unready (hbit : mask.getLsbD 5 = true) (h : (b.program f.program).isReady = false) :
    b.amendRefusal mask k f = some .noProgram := by
  unfold Blocks.amendRefusal
  rw [hopen, hbit, h]
  rfl

variable (hready : mask.getLsbD 5 = true → (b.program f.program).isReady = true)
include hready

theorem amendRefusal_of_ready : b.amendRefusal mask k f =
    if k.state = .running ∧ f.program ≠ k.fields.program then some .inUse else none := by
  have hbits : (mask.getLsbD 5 && !(b.program f.program).isReady) = false := by
    rw [Bool.and_eq_false_imp]
    exact fun h => by rw [hready h]; rfl
  unfold Blocks.amendRefusal
  rw [hopen, hbits]
  simp only [Bool.false_eq_true, if_false, Bool.and_eq_true, decide_eq_true_eq]

theorem amendRefusal_inUse (hstate : k.state = .running) (hother : f.program ≠ k.fields.program) :
    b.amendRefusal mask k f = some .inUse :=
  (amendRefusal_of_ready hopen hready).trans (if_pos ⟨hstate, hother⟩)

theorem amendRefusal_of_same (hsame : f.program = k.fields.program) : b.amendRefusal mask k f = none :=
  (amendRefusal_of_ready hopen hready).trans (if_neg fun h => h.2 hsame)

theorem amendRefusal_of_waiting (hstate : k.state ≠ .running) : b.amendRefusal mask k f = none :=
  (amendRefusal_of_ready hopen hready).trans (if_neg fun h => hstate h.1)

end

/-! ## A booking that waits (R17) -/

/-- A booking's record with its fields replaced. -/
def withFields (f : BookingFields) (k : Booking) : Booking := { k with fields := f }

/-- The blocks as an Amend of a waiting booking leaves them before it is placed again. -/
def amendedWaiting (n : Nat) (f : BookingFields) (b : Blocks) : Blocks := removeEntry n { storeFields n f b with lastFreed := none }

theorem amendWaiting_eq (n : Nat) (f : BookingFields) (b : Blocks) : amendWaiting n f b =
    (place n (amendedWaiting n f b), bookingReply n none false false (place n (amendedWaiting n f b))) := rfl

section
variable (n : Nat) (f : BookingFields) (b : Blocks)

theorem amendedWaiting_bookings : (amendedWaiting n f b).bookings = b.bookings.map (rewriteBooking n (withFields f)) :=
  (removeEntry_arming n _).bookings

theorem amendedWaiting_booking? {k : Booking} (hk : b.booking? n = some k) :
    (amendedWaiting n f b).booking? n = some (withFields f k) := by
  rw [booking?_of_rewritten (g := withFields f) (fun _ => rfl) (amendedWaiting_bookings n f b), if_pos rfl, hk]
  rfl

theorem mem_amendedWaiting {e : UpcomingEntry} : e ∈ (amendedWaiting n f b).upcoming ↔ e ∈ b.upcoming ∧ e.number ≠ n := by
  unfold amendedWaiting
  rw [removeEntry_upcoming, List.mem_filter, bne_iff_ne]
  exact Iff.rfl

theorem amendedWaiting_kept : (amendedWaiting n f b).active = b.active ∧ (amendedWaiting n f b).holding = b.holding ∧
    (amendedWaiting n f b).zones = b.zones ∧ (amendedWaiting n f b).time = b.time ∧
    (amendedWaiting n f b).almanac = b.almanac ∧ (amendedWaiting n f b).armLead = b.armLead := by
  have hkept := removeEntry_placement n { storeFields n f b with lastFreed := none }
  exact ⟨hkept.active, hkept.holding, hkept.zones, hkept.time, hkept.almanac, hkept.armLead⟩

/-- Of an unlisted booking an Amend only replaces the fields. -/
theorem amendedWaiting_of_unlisted (hunlisted : b.upcoming? n = none) :
    amendedWaiting n f b = { storeFields n f b with lastFreed := none } := by
  have hfree : ({ storeFields n f b with lastFreed := none } : Blocks).upcoming? n = none := hunlisted
  unfold amendedWaiting removeEntry
  rw [hfree]

end

section
variable {b : Blocks} {n : Nat} {f : BookingFields} {k : Booking} (hk : b.booking? n = some k)
include hk

/-- R17: before civil time is set, the carried fields are laid over a Held booking's own. -/
theorem amendWaiting_holds (hnow : b.time.now = none) (hunlisted : b.upcoming? n = none) : amendWaiting n f b =
    ({ b with
        bookings := b.bookings.map (fun j => if j.number = n then { j with fields := f, state := .held } else j), lastFreed := none },
      okWith (.placed .held k.lastOutcome none)) := by
  have hfree : ∀ e ∈ (amendedWaiting n f b).upcoming, e.number ≠ n := fun e he => ((mem_amendedWaiting n f b).1 he).2
  have hunset : (amendedWaiting n f b).time.now = none := (congrArg TimeBase.now (amendedWaiting_kept n f b).2.2.2.1).trans hnow
  have hplace := place_holds (amendedWaiting_booking? n f b hk) hfree hunset
  have hplaced : place n (amendedWaiting n f b) = { b with
      bookings := b.bookings.map (fun j => if j.number = n then { j with fields := f, state := .held } else j), lastFreed := none } := by
    rw [hplace, amendedWaiting_of_unlisted n f b hunlisted]
    unfold setBookingState storeFields Blocks.updateBooking
    dsimp only
    rw [List.map_map]
    have hboth : (fun j : Booking => if j.number = n then { j with state := .held } else j) ∘
        (fun j => if j.number = n then { j with fields := f } else j) =
        fun j => if j.number = n then { j with fields := f, state := .held } else j := by
      funext j
      by_cases hj : j.number = n
      · simp [hj]
      · simp [hj]
    rw [hboth]
  have hbooking : (place n (amendedWaiting n f b)).booking? n = some { withFields f k with state := .held } := by
    rw [hplace, booking?_of_rewritten (g := fun j => { j with state := .held }) (fun _ => rfl) (a := amendedWaiting n f b) rfl,
      if_pos rfl, amendedWaiting_booking? n f b hk]
    rfl
  have hreply : bookingReply n none false false (place n (amendedWaiting n f b)) = okWith (.placed .held k.lastOutcome none) := by
    rw [bookingReply_of_booking hbooking, warnings_of_unplaced (fun h => by cases h) (fun h => by cases h), hplaced]
    show (⟨.ok, _, .placed .held k.lastOutcome (b.upcoming? n)⟩ : Answer) = _
    rw [hunlisted]
    rfl
  rw [amendWaiting_eq, hreply, hplaced]

/-- R17: an amended booking whose window is still to come. -/
theorem amendWaiting_schedules {now : Int} {w : Window} {bd : Option Instant} (hnow : b.time.now = some now)
    (hsearch : search b.almanac b.time.base now f k.boundary = ⟨.window w, bd, false⟩) (hlater : now < w.start) :
    ∃ (t : Blocks) (a : Answer), (t, a) = amendWaiting n f b ∧ a.status = .ok ∧
      a.body = .placed .scheduled k.lastOutcome (t.upcoming? n) ∧ a.warnings.estimated = w.estimated ∧
      t.booking? n = some { k with fields := f, state := .scheduled, marks := w.marks } ∧
      (∀ e, e ∈ t.upcoming ↔ (e ∈ b.upcoming ∧ e.number ≠ n) ∨
        e = ⟨n, f.tier, w.day, w.start, w.finish, w.estimated, decide (w.start - (b.armLead : Int) * 1000 ≤ now)⟩) ∧
      t.active = b.active ∧ t.holding = b.holding ∧ t.zones = b.zones ∧ t.time = b.time := by
  obtain ⟨hactive, hholding, hzones, htime, halmanac, hlead⟩ := amendedWaiting_kept n f b
  have hbooking := amendedWaiting_booking? n f b hk
  have hfree : ∀ e ∈ (amendedWaiting n f b).upcoming, e.number ≠ n := fun e he => ((mem_amendedWaiting n f b).1 he).2
  obtain ⟨hplace, hreply⟩ := place_schedules hbooking hfree (htime ▸ hnow) (by rw [halmanac, htime]; exact hsearch) hlater
  have hplaced := insertWindow_placement n f.tier now w (amendedWaiting n f b)
  rw [amendWaiting_eq, hreply]
  refine ⟨_, _, rfl, rfl, rfl, rfl, ?_, fun e => ?_, ?_, ?_, ?_, ?_⟩
  · rw [hplace, insertWindow_booking?, if_pos rfl, hbooking]
    rfl
  · rw [hplace]
    refine (mem_insertWindow hfree f.tier now w).trans ?_
    rw [listedEntry_of_later hlater, mem_amendedWaiting, hlead]
  · rw [hplace]
    exact hplaced.active.trans hactive
  · rw [hplace]
    exact hplaced.holding.trans hholding
  · rw [hplace]
    exact hplaced.zones.trans hzones
  · rw [hplace]
    exact hplaced.time.trans htime

end

end Sys2Proof.Machine

/-! PROOFS. Amend of a booking that runs (R18, R19, R104): obligation O43. -/

namespace Sys2Proof.Machine

/-! ## What a carried field does to the active occurrence (R18, R19) -/

/-- The blocks once an Amend's fields are stored and have acted on the occurrence, all but its end. -/
def amendedFields (mask : BitVec 16) (k : Booking) (f : BookingFields) (b : Blocks) : Blocks :=
  amendFollow mask k.number k.fields f (amendExempt k.number k.fields f
    (amendHolding mask k.number k.fields f (storeFields k.number f b)))

section
variable {mask : BitVec 16} {k : Booking} {f : BookingFields} {o : Occurrence} {b : Blocks}

theorem amendRunning_unchanged (h : (amendedFields mask k f b).amendedEnd mask o f = .unchanged) : amendRunning mask k f o b =
    (amendedFields mask k f b, bookingReply k.number (some o.id) false false (amendedFields mask k f b)) := by
  unfold amendedFields at h ⊢
  unfold amendRunning
  dsimp only
  rw [h]

theorem amendRunning_stalled (h : (amendedFields mask k f b).amendedEnd mask o f = .stalled) : amendRunning mask k f o b =
    (amendedFields mask k f b, bookingReply k.number (some o.id) false true (amendedFields mask k f b)) := by
  unfold amendedFields at h ⊢
  unfold amendRunning
  dsimp only
  rw [h]

theorem amendRunning_moved {e : Instant} {est : Bool} (h : (amendedFields mask k f b).amendedEnd mask o f = .moved e est) :
    amendRunning mask k f o b = (moveEnd k.number e est (amendedFields mask k f b),
      bookingReply k.number (some o.id) est false (moveEnd k.number e est (amendedFields mask k f b))) := by
  unfold amendedFields at h ⊢
  unfold amendRunning
  dsimp only
  rw [h]

theorem amendRunning_cutShort (h : (amendedFields mask k f b).amendedEnd mask o f = .cutShort) :
    (amendRunning mask k f o b).1 =
      place k.number (leave o .cutShort (amendedFields mask k f b).time.now (amendedFields mask k f b)) := by
  unfold amendedFields at h ⊢
  unfold amendRunning
  dsimp only
  rw [h]

theorem amendedEnd_of_clear (hbit : mask.getLsbD 4 = false) : b.amendedEnd mask o f = .unchanged :=
  if_neg (by rw [hbit]; exact Bool.false_ne_true)

theorem amendedEnd_noTime (hbit : mask.getLsbD 4 = true) (h : endInstant b.almanac o.day o.start f.finish = .noTime) :
    b.amendedEnd mask o f = .stalled := by
  unfold Blocks.amendedEnd
  rw [if_pos hbit, h]

theorem amendedEnd_invalid (hbit : mask.getLsbD 4 = true) (h : endInstant b.almanac o.day o.start f.finish = .noValidEnd) :
    b.amendedEnd mask o f = .cutShort := by
  unfold Blocks.amendedEnd
  rw [if_pos hbit, h]

theorem amendedEnd_ends {e : Instant} {est : Bool} {now : Int} (hbit : mask.getLsbD 4 = true)
    (h : endInstant b.almanac o.day o.start f.finish = .ends e est) (hnow : b.time.now = some now) :
    b.amendedEnd mask o f = if now < e then .moved e est else .cutShort := by
  unfold Blocks.amendedEnd
  rw [if_pos hbit, h, hnow]
  rfl

theorem amendHolding_of_clear {n : Nat} {old : BookingFields} (htier : mask.getLsbD 0 = false) (hzones : mask.getLsbD 6 = false) :
    amendHolding mask n old f b = b := by
  unfold amendHolding
  rw [htier, hzones]
  rfl

/-- A carried tier or zone set re-resolves the zones of the old set and the new (R18). -/
theorem amendHolding_of_carried {n : Nat} {old : BookingFields} (h : mask.getLsbD 0 = true ∨ mask.getLsbD 6 = true) :
    amendHolding mask n old f b = resolve (old.zones ++ f.zones) none (b.updateActive n (fun o => { o with tier := f.tier })) :=
  if_pos (by rw [Bool.or_eq_true]; exact h)

theorem amendExempt_of_kept {n : Nat} {old : BookingFields} (h : f.exempt = old.exempt) : amendExempt n old f b = b := by
  refine if_neg ?_
  rw [h, Bool.and_not_self, Bool.false_and]
  exact Bool.false_ne_true

theorem amendExempt_levels (n : Nat) (old f : BookingFields) (b : Blocks) : TouchesLevels b (amendExempt n old f b) := by
  unfold amendExempt
  split
  · exact forEach_rel TouchesLevels.refl TouchesLevels.trans (lowerZone_levels _) _ b
  · exact .refl b

theorem amendFollow_of_clear {n : Nat} {old : BookingFields} (h : mask.getLsbD 9 = false) : amendFollow mask n old f b = b :=
  if_neg (by rw [h]; exact Bool.false_ne_true)

theorem amendFollow_of_carried {n : Nat} {old : BookingFields} (h : mask.getLsbD 9 = true) :
    amendFollow mask n old f b = b.updateActive n (followAmended b.cue old.follow f.follow) := if_pos h

/-- Where nothing carried acts on the occurrence, the fields are stored and nothing else changes. -/
theorem amendedFields_of_stored (htier : mask.getLsbD 0 = false) (hzones : mask.getLsbD 6 = false) (hfollow : mask.getLsbD 9 = false)
    (hexempt : f.exempt = k.fields.exempt) : amendedFields mask k f b = storeFields k.number f b := by
  unfold amendedFields
  rw [amendFollow_of_clear hfollow, amendExempt_of_kept hexempt, amendHolding_of_clear htier hzones]

end

/-! ## The reply of a Running booking (R18, R19) -/

theorem active?_of_map {a b : Blocks} {g : Occurrence → Occurrence} (hnumber : ∀ o, (g o).number = o.number)
    (h : b.active = a.active.map g) (n : Nat) : b.active? n = (a.active? n).map g := by
  unfold Blocks.active?
  rw [h, List.find?_map]
  have hsame : ((fun o : Occurrence => o.number == n) ∘ g) = fun o => o.number == n :=
    funext fun o => by rw [Function.comp_apply, hnumber]
  rw [hsame]

/-- The reply of a booking whose occurrence still runs: estimated by the amended end alone. -/
theorem bookingReply_of_running {b : Blocks} {n : Nat} {k : Booking} {o : Occurrence} (hk : b.booking? n = some k)
    (hstate : k.state = .running) (ho : b.active? n = some o) (amended stalled : Bool) :
    bookingReply n (some o.id) amended stalled b =
      ⟨.ok, ⟨b.shadowed k, false, amended, stalled⟩, .placed .running k.lastOutcome (b.upcoming? n)⟩ := by
  have hnumber : k.number = n := booking?_number hk
  rw [bookingReply_of_booking hk]
  unfold Blocks.warnings Blocks.estimatedNow
  rw [hnumber, hstate, ho]
  simp

/-- The reply of a booking that runs, from what an Amend wrote of it, its occurrence and the list. -/
theorem bookingReply_of_amended {a b : Blocks} {n : Nat} {k : Booking} {o : Occurrence} {h : Booking → Booking}
    {g : Occurrence → Occurrence} (hk : a.booking? n = some k) (hstate : k.state = .running) (ho : a.active? n = some o)
    (hh : ∀ j, (h j).number = j.number ∧ (h j).state = j.state ∧ (h j).lastOutcome = j.lastOutcome)
    (hg : ∀ p, (g p).number = p.number ∧ (g p).id = p.id) (hbookings : b.bookings = a.bookings.map (rewriteBooking n h))
    (hactive : b.active = a.active.map g) (hupcoming : b.upcoming = a.upcoming) (amended stalled : Bool) :
    ∃ shadowed, bookingReply n (some o.id) amended stalled b =
      ⟨.ok, ⟨shadowed, false, amended, stalled⟩, .placed .running k.lastOutcome (a.upcoming? n)⟩ := by
  have hkNow : b.booking? n = some (h k) := by
    rw [booking?_of_rewritten (fun j => (hh j).1) hbookings, if_pos rfl, hk]
    rfl
  have hoNow : b.active? n = some (g o) := by
    rw [active?_of_map (fun p => (hg p).1) hactive, ho]
    rfl
  have hreply := bookingReply_of_running hkNow ((hh k).2.1.trans hstate) hoNow amended stalled
  rw [(hg o).2, (hh k).2.2, upcoming?_congr hupcoming] at hreply
  exact ⟨_, hreply⟩

/-! ## The zones that a booking holds (R50, R104) -/

def heldBy (n : Nat) (b : Blocks) : List Nat := allZones.filter (fun z => (b.holder? z).any (fun h => h.number == n))

theorem heldBy_nodup (n : Nat) (b : Blocks) : (heldBy n b).Nodup := allZones_nodup.filter _

theorem mem_heldBy {n z : Nat} {b : Blocks} : z ∈ heldBy n b ↔ z < 96 ∧ (b.holder? z).map (fun h => h.number) = some n := by
  unfold heldBy
  rw [List.mem_filter, mem_allZones]
  cases b.holder? z with
  | none => simp
  | some h => simp

/-! ## A carried tier or zone set (R18) -/

section
variable {mask : BitVec 16} {b : Blocks} {n : Nat} {k : Booking} {f : BookingFields} {o : Occurrence}
  (hk : b.booking? n = some k) (hstate : k.state = .running) (ho : b.active? n = some o)
include hk hstate ho

/-- The re-resolution of the old set and the new, and the reply. -/
theorem amendRunning_resolves (hcarried : mask.getLsbD 0 = true ∨ mask.getLsbD 6 = true) (hend : mask.getLsbD 4 = false)
    (hfollow : mask.getLsbD 9 = false) (hsized : TablesSized b) :
    ∃ (t : Blocks) (a : Answer), (t, a) = amendRunning mask k f o { b with lastFreed := none } ∧ a.status = .ok ∧
      a.body = .placed .running k.lastOutcome (b.upcoming? n) ∧
      t.bookings = b.bookings.map (fun m => if m.number = n then { m with fields := f } else m) ∧
      t.active = b.active.map (fun p =>
        { p with tier := if p.number = n then f.tier else p.tier, held := t.countHeld p.id }) ∧
      (∀ z < 96, (z ∈ k.fields.zones ∨ z ∈ f.zones) → t.holdingOf z = t.resolvedEntry z) ∧
      (∀ z, z ∉ k.fields.zones → z ∉ f.zones → t.holdingOf z = b.holdingOf z) ∧ t.upcoming = b.upcoming ∧ t.time = b.time := by
  obtain rfl : k.number = n := booking?_number hk
  obtain ⟨-, hholding, -, -, -, -, -, -, hdeferral⟩ := hsized
  generalize hretiered : (storeFields k.number f { b with lastFreed := none }).updateActive k.number
    (fun o => { o with tier := f.tier }) = c
  have hcDeferral : c.deferral = none := by rw [← hretiered]; exact hdeferral
  have hcHolding : c.holding = b.holding := by rw [← hretiered]; rfl
  have hcActive : c.active = b.active.map (fun p => if p.number = k.number then { p with tier := f.tier } else p) := by
    rw [← hretiered]; rfl
  have hresolved := resolve_touches (k.fields.zones ++ f.zones) none c
  have hactive := resolve_active (k.fields.zones ++ f.zones) none c
  have hholdingNow := resolve_holding hcDeferral (k.fields.zones ++ f.zones) none
  have hheld := resolve_holdingOf hcDeferral (hcHolding ▸ hholding) (zones := k.fields.zones ++ f.zones) (newcomer := none)
  have hentry := resolvedEntry_of_held _ hactive (zonesOf_congr (by rw [hresolved]))
  have hlevels := amendExempt_levels k.number k.fields f (resolve (k.fields.zones ++ f.zones) none c)
  have hamended : amendedFields mask k f { b with lastFreed := none } =
      amendExempt k.number k.fields f (resolve (k.fields.zones ++ f.zones) none c) := by
    unfold amendedFields
    rw [amendFollow_of_clear hfollow, amendHolding_of_carried hcarried, hretiered]
  have hrun := amendRunning_unchanged (o := o) (b := { b with lastFreed := none }) (f := f) (k := k) (amendedEnd_of_clear hend)
  rw [hamended] at hrun
  generalize amendExempt k.number k.fields f (resolve (k.fields.zones ++ f.zones) none c) = t at hlevels hrun
  have htBookings : t.bookings = b.bookings.map (rewriteBooking k.number (withFields f)) := by
    rw [hlevels, hresolved, ← hretiered]
    rfl
  have htUpcoming : t.upcoming = b.upcoming := by
    rw [hlevels, hresolved, ← hretiered]
    rfl
  have htHolding : t.holding = (resolve (k.fields.zones ++ f.zones) none c).holding := by rw [hlevels]
  have htActive : t.active = b.active.map (fun p =>
      { p with tier := if p.number = k.number then f.tier else p.tier, held := t.countHeld p.id }) := by
    have hsame : t.active = (resolve (k.fields.zones ++ f.zones) none c).active := by rw [hlevels]
    rw [hsame, hactive, hcActive, List.map_map]
    refine List.map_congr_left fun p _ => ?_
    unfold Blocks.countHeld
    rw [htHolding, hholdingNow]
    by_cases hp : p.number = k.number
    · simp [hp]
    · simp [hp]
  obtain ⟨shadowed, hreply⟩ := bookingReply_of_amended (h := withFields f) hk hstate ho (fun _ => ⟨rfl, rfl, rfl⟩)
    (g := fun p => { p with tier := if p.number = k.number then f.tier else p.tier, held := t.countHeld p.id })
    (fun _ => ⟨rfl, rfl⟩) htBookings htActive htUpcoming false false
  refine ⟨t, _, hrun.symm, by rw [hreply], by rw [hreply], htBookings, htActive, fun z hz hin => ?_, fun z hold hnew => ?_, htUpcoming,
    ?_⟩
  · have hentryNow : t.resolvedEntry z = c.resolvedEntry z :=
      (resolvedEntry_congr (by rw [hlevels]) (zonesOf_congr (by rw [hlevels])) z).trans (hentry z)
    rw [holdingOf_congr htHolding z, hheld, if_pos ⟨List.mem_append.2 hin, hz⟩, hentryNow]
  · rw [holdingOf_congr htHolding z, hheld, if_neg fun h => (List.mem_append.1 h.1).elim hold hnew]
    exact holdingOf_congr hcHolding z
  · rw [hlevels, hresolved, ← hretiered]
    rfl

/-! ## Exempt taken back in an open window (R104) -/

omit hstate in
theorem amendRunning_lowers (hexempt : k.fields.exempt = true) (hopen : b.chain.windowOpen = true) (hsized : TablesSized b) :
    ∃ (t : Blocks) (a : Answer),
      (t, a) = amendRunning 256 k { k.fields with exempt := false } o { b with lastFreed := none } ∧ a.status = .ok ∧
      (∀ (z : Nat) (c : Zone), b.zone? z = some c → (b.holder? z).map (fun h => h.number) = some n →
        t.zone? z = some { c with
          last := capLevels b.curfewCeiling c.last
          handover := c.handover.map (fun h => { h with from_ := capLevels b.curfewCeiling h.from_ }) } ∧
        t.latestOf z = (b.latestOf z).cap b.curfewCeiling) ∧
      (∀ z, (b.holder? z).map (fun h => h.number) ≠ some n → t.zone? z = b.zone? z ∧ t.latestOf z = b.latestOf z) ∧
      t = { b with
        bookings := b.bookings.map (fun m =>
          if m.number = n then { m with fields := { k.fields with exempt := false } } else m)
        zones := t.zones
        chain := { b.chain with latest := t.chain.latest }
        lastFreed := none } := by
  obtain rfl : k.number = n := booking?_number hk
  obtain ⟨hzones, -⟩ := hsized
  generalize hf : ({ k.fields with exempt := false } : BookingFields) = f
  have hkept : f.exempt = false := by rw [← hf]
  have hamended : amendedFields 256 k f { b with lastFreed := none } =
      forEach (heldBy k.number b) (lowerZone b.curfewCeiling) (storeFields k.number f { b with lastFreed := none }) := by
    unfold amendedFields
    rw [amendFollow_of_clear (by decide), amendHolding_of_clear (by decide) (by decide)]
    refine if_pos ?_
    rw [hexempt, hkept]
    exact hopen
  have hrun := amendRunning_unchanged (o := o) (b := { b with lastFreed := none }) (f := f) (k := k) (mask := 256)
    (amendedEnd_of_clear (by decide))
  have hread := fun z => lowerings_read b.curfewCeiling (heldBy_nodup k.number b) z
    (storeFields k.number f { b with lastFreed := none })
  have hlevels : TouchesLevels (storeFields k.number f { b with lastFreed := none })
      (forEach (heldBy k.number b) (lowerZone b.curfewCeiling) (storeFields k.number f { b with lastFreed := none })) :=
    forEach_rel TouchesLevels.refl TouchesLevels.trans (lowerZone_levels _) _ _
  rw [hamended] at hrun
  generalize forEach (heldBy k.number b) (lowerZone b.curfewCeiling) (storeFields k.number f { b with lastFreed := none }) = t
    at hread hlevels hrun
  refine ⟨t, _, hrun.symm, bookingReply_status _ _ _ _ _, fun z c hz hn => ?_, fun z hn => ?_, hlevels⟩
  · obtain ⟨hzone, hlatest⟩ := hread z
    have hzNow : (storeFields k.number f { b with lastFreed := none }).zone? z = some c := hz
    have hin : z ∈ heldBy k.number b := mem_heldBy.2 ⟨hzones ▸ zone?_lt b hz, hn⟩
    rw [if_pos hin, hzNow] at hzone
    rw [if_pos ⟨hin, by rw [hzNow]; rfl⟩] at hlatest
    exact ⟨hzone, hlatest⟩
  · obtain ⟨hzone, hlatest⟩ := hread z
    have hout : z ∉ heldBy k.number b := fun h => hn (mem_heldBy.1 h).2
    rw [if_neg hout] at hzone
    rw [if_neg fun h => hout h.1] at hlatest
    exact ⟨hzone, hlatest⟩

/-! ## A carried Follow field (R19, R131, R132) -/

theorem amendRunning_follows (fo : Option Nat) :
    ∃ shadowed, amendRunning 512 k { k.fields with follow := fo } o { b with lastFreed := none } =
      ({ b with
          bookings := b.bookings.map (fun m => if m.number = n then { m with fields := { k.fields with follow := fo } } else m)
          active := b.active.map (fun p => if p.number = n then followAmended b.cue k.fields.follow fo p else p)
          lastFreed := none },
        ⟨.ok, ⟨shadowed, false, false, false⟩, .placed .running k.lastOutcome (b.upcoming? n)⟩) := by
  obtain rfl : k.number = n := booking?_number hk
  have hamended : amendedFields 512 k { k.fields with follow := fo } { b with lastFreed := none } = { b with
      bookings := b.bookings.map (fun m =>
        if m.number = k.number then { m with fields := { k.fields with follow := fo } } else m)
      active := b.active.map (fun p => if p.number = k.number then followAmended b.cue k.fields.follow fo p else p)
      lastFreed := none } := by
    unfold amendedFields
    have hexempt : ∀ c, amendExempt k.number k.fields { k.fields with follow := fo } c = c := fun _ => amendExempt_of_kept rfl
    rw [amendFollow_of_carried (by decide), hexempt, amendHolding_of_clear (by decide) (by decide)]
    rfl
  have hkept : ∀ p, (followAmended b.cue k.fields.follow fo p).number = p.number ∧
      (followAmended b.cue k.fields.follow fo p).id = p.id := fun p => by
    unfold followAmended
    split
    · exact ⟨rfl, rfl⟩
    · split <;> exact ⟨rfl, rfl⟩
    · exact ⟨rfl, rfl⟩
    · split <;> exact ⟨rfl, rfl⟩
  obtain ⟨shadowed, hreply⟩ := bookingReply_of_amended (b := amendedFields 512 k { k.fields with follow := fo } { b with lastFreed := none })
    (h := withFields { k.fields with follow := fo }) hk hstate ho (fun _ => ⟨rfl, rfl, rfl⟩)
    (g := fun p => if p.number = k.number then followAmended b.cue k.fields.follow fo p else p)
    (fun p => by
      split
      · exact hkept p
      · exact ⟨rfl, rfl⟩)
    (by rw [hamended]; rfl) (by rw [hamended]) (by rw [hamended]) false false
  refine ⟨shadowed, ?_⟩
  rw [amendRunning_unchanged (amendedEnd_of_clear (by decide)), hreply, hamended]

/-! ## A carried End field (R19) -/

omit hk hstate ho in
theorem amendedFields_end (e : EndField) (b : Blocks) :
    amendedFields 16 k { k.fields with finish := e } b = storeFields k.number { k.fields with finish := e } b :=
  amendedFields_of_stored (by decide) (by decide) (by decide) rfl

/-- An End without almanac time is stored, and the occurrence keeps its end. -/
theorem amendRunning_endStalls {e : EndField} (h : endInstant b.almanac o.day o.start e = .noTime) :
    ∃ shadowed, amendRunning 16 k { k.fields with finish := e } o { b with lastFreed := none } =
      ({ b with
          bookings := b.bookings.map (fun m => if m.number = n then { m with fields := { k.fields with finish := e } } else m)
          lastFreed := none },
        ⟨.ok, ⟨shadowed, false, false, true⟩, .placed .running k.lastOutcome (b.upcoming? n)⟩) := by
  obtain rfl : k.number = n := booking?_number hk
  have hamended := amendedFields_end (k := k) e { b with lastFreed := none }
  obtain ⟨shadowed, hreply⟩ := bookingReply_of_amended
    (b := storeFields k.number { k.fields with finish := e } { b with lastFreed := none })
    (h := withFields { k.fields with finish := e }) hk hstate ho (fun _ => ⟨rfl, rfl, rfl⟩) (g := fun p => p)
    (fun _ => ⟨rfl, rfl⟩) rfl (List.map_id' _).symm rfl false true
  refine ⟨shadowed, ?_⟩
  rw [amendRunning_stalled (amendedEnd_noTime (by decide) (by rw [hamended]; exact h)), hamended, hreply]
  rfl

/-- An End after now moves the occurrence's end. -/
theorem amendRunning_movesEnd {e : EndField} {now : Int} {finish : Instant} {est : Bool}
    (h : endInstant b.almanac o.day o.start e = .ends finish est) (hnow : b.time.now = some now) (hlater : now < finish) :
    ∃ shadowed, amendRunning 16 k { k.fields with finish := e } o { b with lastFreed := none } =
      ({ b with
          bookings := b.bookings.map (fun j => if j.number = n then
            { j with fields := { k.fields with finish := e }, marks := { j.marks with finish := est } } else j)
          active := b.active.map (fun p => if p.number = n then { p with finish := finish } else p)
          lastFreed := none },
        ⟨.ok, ⟨shadowed, false, est, false⟩, .placed .running k.lastOutcome (b.upcoming? n)⟩) := by
  obtain rfl : k.number = n := booking?_number hk
  have hamended := amendedFields_end (k := k) e { b with lastFreed := none }
  have hmoved : moveEnd k.number finish est (storeFields k.number { k.fields with finish := e } { b with lastFreed := none }) = { b with
      bookings := b.bookings.map (fun j => if j.number = k.number then
        { j with fields := { k.fields with finish := e }, marks := { j.marks with finish := est } } else j)
      active := b.active.map (fun p => if p.number = k.number then { p with finish := finish } else p)
      lastFreed := none } := by
    unfold moveEnd storeFields Blocks.updateBooking Blocks.updateActive
    dsimp only
    rw [List.map_map]
    have hboth : (fun j : Booking => if j.number = k.number then { j with marks := { j.marks with finish := est } } else j) ∘
        (fun j => if j.number = k.number then { j with fields := { k.fields with finish := e } } else j) =
        fun j => if j.number = k.number then
          { j with fields := { k.fields with finish := e }, marks := { j.marks with finish := est } } else j := by
      funext j
      by_cases hj : j.number = k.number
      · simp [hj]
      · simp [hj]
    rw [hboth]
  obtain ⟨shadowed, hreply⟩ := bookingReply_of_amended
    (b := moveEnd k.number finish est (storeFields k.number { k.fields with finish := e } { b with lastFreed := none }))
    (h := fun j => { j with fields := { k.fields with finish := e }, marks := { j.marks with finish := est } }) hk hstate ho
    (fun _ => ⟨rfl, rfl, rfl⟩) (g := fun p => if p.number = k.number then { p with finish := finish } else p)
    (fun p => by split <;> exact ⟨rfl, rfl⟩) (by rw [hmoved]; rfl) (by rw [hmoved]) (by rw [hmoved]) est false
  refine ⟨shadowed, ?_⟩
  rw [amendRunning_moved ((amendedEnd_ends (by decide) (by rw [hamended]; exact h) (by rw [hamended]; exact hnow)).trans
    (if_pos hlater)), hamended, hreply, hmoved]

omit hstate ho in
/-- An End at or before now, or none that is valid, ends the occurrence Cut Short. -/
theorem amendRunning_cutsShort {e : EndField} {now : Int} (hnow : b.time.now = some now)
    (h : endInstant b.almanac o.day o.start e = .noValidEnd ∨
      ∃ finish est, endInstant b.almanac o.day o.start e = .ends finish est ∧ finish ≤ now) :
    (amendRunning 16 k { k.fields with finish := e } o { b with lastFreed := none }).1 = place n (leave o .cutShort (some now)
      { b with
        bookings := b.bookings.map (fun m => if m.number = n then { m with fields := { k.fields with finish := e } } else m)
        lastFreed := none }) := by
  obtain rfl : k.number = n := booking?_number hk
  have hamended := amendedFields_end (k := k) e { b with lastFreed := none }
  have hcut : (amendedFields 16 k { k.fields with finish := e } { b with lastFreed := none }).amendedEnd 16 o
      { k.fields with finish := e } = .cutShort := by
    obtain hnone | ⟨finish, est, hends, hpast⟩ := h
    · exact amendedEnd_invalid (by decide) (by rw [hamended]; exact hnone)
    · exact (amendedEnd_ends (by decide) (by rw [hamended]; exact hends) (by rw [hamended]; exact hnow)).trans
        (if_neg (not_lt.2 hpast))
  have hset : (storeFields k.number { k.fields with finish := e } { b with lastFreed := none }).time.now = some now := hnow
  rw [amendRunning_cutShort hcut, hamended, hset]
  rfl

end

end Sys2Proof.Machine

/-! PROOFS. Withdraw (R21): obligation O43. -/

namespace Sys2Proof.Machine

/-! ## A withdrawn booking's occurrence (R21, R42) -/

/-- A booking's record when its occurrence ends with an outcome, its boundary kept. -/
def outcomeWritten (o : LastOutcome) (k : Booking) : Booking :=
  { k with lastOutcome := o, runCount := if o.counted then min 65535 (k.runCount + 1) else k.runCount }

section
variable {b : Blocks} {n : Nat}

theorem withdrawActive_idle (h : b.active? n = none) : withdrawActive n b = b := by
  unfold withdrawActive
  rw [h]

variable {o : Occurrence} (ho : b.active? n = some o)
include ho

theorem withdrawActive_of_active :
    withdrawActive n b = recordOutcome n .cutShort (resolve (b.zonesOf n) none (dropRecord o b)) := by
  unfold withdrawActive
  rw [ho]

theorem withdrawActive_bookings :
    (withdrawActive n b).bookings = b.bookings.map (rewriteBooking n (outcomeWritten .cutShort)) := by
  have hresolved : (resolve (b.zonesOf n) none (dropRecord o b)).bookings = b.bookings := by
    rw [resolve_touches]
    rfl
  rw [withdrawActive_of_active ho]
  exact congrArg (List.map _) hresolved

theorem withdrawActive_ids : ∀ p ∈ (withdrawActive n b).active, p.id ≠ o.id := by
  have hactive : (withdrawActive n b).active = (resolve (b.zonesOf n) none (dropRecord o b)).active := by
    rw [withdrawActive_of_active ho]
    rfl
  rw [hactive, resolve_active]
  intro p hp
  obtain ⟨q, hq, rfl⟩ := List.mem_map.1 hp
  exact bne_iff_ne.1 (List.mem_filter.1 hq).2

end

/-- Of the other bookings a withdrawal changes nothing. -/
theorem withdrawActive_others (n : Nat) (b : Blocks) :
    (withdrawActive n b).bookings.filter (fun m => m.number != n) = b.bookings.filter (fun m => m.number != n) := by
  cases ho : b.active? n with
  | none => rw [withdrawActive_idle ho]
  | some o =>
    have hnumber : ((fun m : Booking => m.number != n) ∘ rewriteBooking n (outcomeWritten .cutShort)) = fun m => m.number != n :=
      funext fun m => by rw [Function.comp_apply, rewriteBooking_number (g := outcomeWritten .cutShort) fun _ => rfl]
    rw [withdrawActive_bookings ho, List.filter_map, hnumber]
    refine (List.map_congr_left fun m hm => ?_).trans (List.map_id' _)
    exact if_neg (bne_iff_ne.1 (List.mem_filter.1 hm).2)

/-- What a withdrawal keeps of the engine's other records. -/
theorem withdrawActive_kept (n : Nat) (b : Blocks) : (withdrawActive n b).upcoming = b.upcoming ∧
    (withdrawActive n b).time = b.time ∧ (withdrawActive n b).risers = b.risers ∧ (withdrawActive n b).programs = b.programs := by
  cases ho : b.active? n with
  | none =>
    rw [withdrawActive_idle ho]
    exact ⟨rfl, rfl, rfl, rfl⟩
  | some o =>
    rw [withdrawActive_of_active ho, resolve_touches]
    exact ⟨rfl, rfl, rfl, rfl⟩

/-! ## The slot and the entry of a withdrawn booking (R10, R21) -/

theorem dropEntry_closed {n : Nat} {b : Blocks} {e : NoticeEntry} (h : e ∈ (dropEntry n b).notices) :
    e.opens (.booking n) = false := by
  have hkept := (List.mem_filter.1 h).2
  rwa [Bool.not_eq_true'] at hkept

/-- With no open entry left, freeing the slot leaves the Notice List. -/
theorem freeSlot_dropped {n : Nat} {b : Blocks} {k : Booking} (hk : b.booking? n = some k) :
    freeSlot n (dropEntry n b) = { dropEntry n b with bookings := b.bookings.filter (fun m => m.number != n) } := by
  have hdropped : (dropEntry n b).booking? n = some k := hk
  have hclosed : closeEntry n ((dropEntry n b).bookingView k) (dropEntry n b).notices = (dropEntry n b).notices := by
    refine (List.map_congr_left fun e he => ?_).trans (List.map_id' _)
    exact if_neg (by rw [dropEntry_closed he]; exact Bool.false_ne_true)
  rw [freeSlot_bookings hdropped, hclosed]
  rfl

/-! ## Withdraw (R21) -/

/-- The blocks with a booking's occurrence and entry gone. -/
def unplaced (n : Nat) (b : Blocks) : Blocks := removeEntry n (withdrawActive n b)

section
variable {b : Blocks} {n : Nat}

theorem withdraw_outside (h : n = 0 ∨ 65534 < n) : withdraw n b = (b, refuse .outOfRange) := by
  unfold withdraw
  rw [bookingNumber_out h]
  rfl

variable (hlow : 1 ≤ n) (hhigh : n ≤ 65534)
include hlow hhigh

theorem withdraw_free (hnone : b.booking? n = none) : withdraw n b = (b, refuse .noSuchRecord) := by
  unfold withdraw
  rw [(bookingNumber_iff n).2 ⟨hlow, hhigh⟩, hnone]
  rfl

variable {k : Booking} (hk : b.booking? n = some k)
include hk

theorem withdraw_takes {last : Booking} (hlast : (unplaced n b).booking? n = some last) :
    withdraw n b = ({ dropEntry n (unplaced n b) with bookings := b.bookings.filter (fun m => m.number != n) },
      okWith (.withdrawn last.lastOutcome last.runCount)) := by
  have hothers : (unplaced n b).bookings.filter (fun m => m.number != n) = b.bookings.filter (fun m => m.number != n) :=
    (congrArg _ (removeEntry_arming n _).bookings).trans (withdrawActive_others n b)
  have hfreed := freeSlot_dropped hlast
  rw [hothers] at hfreed
  unfold unplaced at hfreed hlast ⊢
  unfold withdraw
  rw [(bookingNumber_iff n).2 ⟨hlow, hhigh⟩, hk]
  dsimp only
  rw [hfreed, hlast]
  rfl

omit hlow hhigh in
/-- The record of a booking whose occurrence and entry are gone. -/
theorem unplaced_booking? : (unplaced n b).booking? n =
    some (if (b.active? n).isSome then outcomeWritten .cutShort k else k) := by
  refine (booking?_congr (removeEntry_arming n _).bookings n).trans ?_
  cases ho : b.active? n with
  | none =>
    rw [withdrawActive_idle ho]
    exact hk
  | some o =>
    rw [booking?_of_rewritten (g := outcomeWritten .cutShort) (fun _ => rfl) (withdrawActive_bookings ho), if_pos rfl, hk]
    rfl

/-- What a Withdraw leaves, and its reply. -/
theorem withdraw_leaves : ∃ (t : Blocks) (out : LastOutcome) (runs : Nat), withdraw n b = (t, okWith (.withdrawn out runs)) ∧
    (b.active? n = none → out = k.lastOutcome ∧ runs = k.runCount ∧ t.active = b.active ∧ t.holding = b.holding ∧ t.zones = b.zones) ∧
    (∀ o, b.active? n = some o → out = .cutShort ∧ runs = min 65535 (k.runCount + 1) ∧ ∀ p ∈ t.active, p.id ≠ o.id) ∧
    t.bookings = b.bookings.filter (fun m => m.number != n) ∧ t.upcoming = b.upcoming.filter (fun e => e.number != n) ∧
    (∀ e ∈ t.notices, e.opens (.booking n) = false) ∧ t.time = b.time ∧ t.risers = b.risers ∧ t.programs = b.programs := by
  have hremoved : TouchesPlacement (withdrawActive n b) (unplaced n b) := removeEntry_placement n _
  obtain ⟨hupcoming, htime, hrisers, hprograms⟩ := withdrawActive_kept n b
  refine ⟨_, _, _, withdraw_takes hlow hhigh hk (unplaced_booking? hk), fun hidle => ?_, fun o ho => ?_, rfl, ?_,
    fun e he => dropEntry_closed he, hremoved.time.trans htime, ?_, ?_⟩
  · rw [hidle]
    rw [withdrawActive_idle hidle] at hremoved
    exact ⟨rfl, rfl, hremoved.active, hremoved.holding, hremoved.zones⟩
  · rw [ho]
    exact ⟨rfl, rfl, fun p hp => withdrawActive_ids ho p (hremoved.active ▸ hp)⟩
  · show (unplaced n b).upcoming = _
    rw [unplaced, removeEntry_upcoming, hupcoming]
  · show (unplaced n b).risers = _
    rw [hremoved]
    exact hrisers
  · show (unplaced n b).programs = _
    rw [hremoved]
    exact hprograms

end

/-! ## The fields of an Amend that carries one of them (R16) -/

section
variable {x : BookingBody} {f : BookingFields}

theorem layFields_exempt (h : x.exempt = 0) : layFields 256 x f = some { f with exempt := false } :=
  layFields_eq_some.2 ⟨rfl, rfl, rfl, rfl, rfl, rfl, rfl, rfl, flagOf_eq_some.2 ⟨by rw [h]; decide, by rw [h]; rfl⟩, rfl, rfl, rfl⟩

variable (hsuits : exemptSuits f = true)
include hsuits

theorem layFields_follow {fo : Option Nat}
    (h : (x.followFlag = 0 ∧ fo = none) ∨ (x.followFlag = 1 ∧ fo = some x.follow.toNat ∧ x.follow.toNat ≤ 86399999)) :
    layFields 512 x f = some { f with follow := fo } := by
  have hread : optionalOf x.followFlag x.follow.toNat 86399999 = some fo := by
    obtain ⟨hflag, rfl⟩ | ⟨hflag, rfl, hfits⟩ := h
    · exact optionalOf_eq_some.2 ⟨by rw [hflag]; decide, fun hone => absurd hone (by rw [hflag]; decide), by rw [hflag]; rfl⟩
    · exact optionalOf_eq_some.2 ⟨by rw [hflag]; decide, fun _ => hfits, by rw [hflag]; rfl⟩
  exact layFields_eq_some.2 ⟨rfl, rfl, rfl, rfl, rfl, rfl, rfl, rfl, rfl, hread, rfl, hsuits⟩

theorem layFields_end {e : EndField} (h : endOf x.endKind.toNat x.endValue = some e) :
    layFields 16 x f = some { f with finish := e } :=
  layFields_eq_some.2 ⟨rfl, rfl, rfl, rfl, h, rfl, rfl, rfl, rfl, rfl, rfl, hsuits⟩

end

end Sys2Proof.Machine

/-! PROOFS. Amend and Withdraw (R16 to R19, R21, R104): obligation O43. -/

namespace Sys2Proof.Machine

/-! ## An Amend of a Running booking as its row -/

section
variable {s : State} {r : Request} {mask : BitVec 16} {x : BookingBody} {k : Booking} {n : Nat}
  (hasks : Asks s r) (hkind : r.kind = 2) (hbody : r.body = .bytes (beBytes16 mask ++ encodeBookingBody x))
include hasks hkind hbody

theorem exec_amendWith : exec .amend s = .next (replied s r (amendWith mask x s.blocks).1 (amendWith mask x s.blocks).2) := by
  rw [exec_amend hasks hbody hkind, amend_read]

variable (hn : n = x.number.toNat) (hskip : mask.getLsbD 2 = true → x.skipCount.toNat ≤ 4) (hlow : 1 ≤ n) (hhigh : n ≤ 65534)
  (hk : s.blocks.booking? n = some k)
include hn hskip hlow hhigh hk

theorem exec_amend_refused {f : BookingFields} (hstate : k.state ≠ .retiring) (hfields : layFields mask x k.fields = some f)
    {st : Status} (h : s.blocks.amendRefusal mask k f = some st) : exec .amend s = .next (replied s r s.blocks (refuse st)) := by
  subst hn
  rw [exec_amendWith hasks hkind hbody, amendWith_refused hskip hlow hhigh hk hstate hfields h]

variable {f : BookingFields} (hfields : layFields mask x k.fields = some f) (hopen : s.blocks.namesProtected f.zones = false)
  (hready : mask.getLsbD 5 = true → (s.blocks.program f.program).isReady = true)
include hfields hopen hready

theorem exec_amend_waiting (hretiring : k.state ≠ .retiring) (hrunning : k.state ≠ .running) (hidle : s.blocks.active? n = none) :
    exec .amend s = .next (replied s r (amendWaiting n f s.blocks).1 (amendWaiting n f s.blocks).2) := by
  subst hn
  rw [exec_amendWith hasks hkind hbody, amendWith_waiting hskip hlow hhigh hk hretiring hfields
    (amendRefusal_of_waiting hopen hready hrunning) hidle]

theorem exec_amend_running {o : Occurrence} (hstate : k.state = .running) (ho : s.blocks.active? n = some o)
    (hsame : f.program = k.fields.program) :
    exec .amend s = .next (replied s r (amendRunning mask k f o { s.blocks with lastFreed := none }).1
      (amendRunning mask k f o { s.blocks with lastFreed := none }).2) := by
  subst hn
  rw [exec_amendWith hasks hkind hbody, amendWith_running hskip hlow hhigh hk (by rw [hstate]; decide) hfields
    (amendRefusal_of_same hopen hready hsame) ho]

end

/-! ## An occurrence that an amended End cuts short (R19, R42) -/

section
variable {b : Blocks} {n : Nat} {f : BookingFields} {o : Occurrence} {now : Int} (ho : o.number = n)
include ho

theorem cutShort_bookings : (leave o .cutShort (some now) (storeFields n f { b with lastFreed := none })).bookings =
    b.bookings.map (fun m => if m.number = n then
      { m with fields := f, lastOutcome := .cutShort, runCount := min 65535 (m.runCount + 1), boundary := some now } else m) := by
  have hstored : (storeFields n f { b with lastFreed := none }).bookings = b.bookings.map (rewriteBooking n (withFields f)) := rfl
  rw [leave_bookings, hstored, ho, List.map_map]
  refine List.map_congr_left fun m _ => ?_
  rw [Function.comp_apply]
  unfold rewriteBooking
  by_cases hm : m.number = n
  · rw [if_pos hm, if_pos hm]
    exact if_pos hm
  · rw [if_neg hm, if_neg hm]
    exact (if_neg hm).symm

theorem cutShort_holdingOf {k : Booking} (hsized : TablesSized b) (hk : b.booking? n = some k) {z : Nat} (hz : z < 96)
    (hin : z ∈ f.zones) : (leave o .cutShort (some now) (storeFields n f { b with lastFreed := none })).holdingOf z =
      (leave o .cutShort (some now) (storeFields n f { b with lastFreed := none })).resolvedEntry z := by
  have hsizedNow : Sized false (storeFields n f { b with lastFreed := none }) := tablesSized_iff.1 hsized
  have hbooking := booking?_of_rewritten (g := withFields f) (fun _ => rfl) (a := b) (n := n)
    (b := storeFields n f { b with lastFreed := none }) rfl n
  rw [if_pos rfl, hk] at hbooking
  refine leave_holdingOf o _ _ hsizedNow hz ?_
  rw [ho, zonesOf_of_booking hbooking]
  exact hin

end

/-- Settles O43: each state's Amend, its checks, and the Withdraw. -/
theorem amendAndWithdrawAct : Obligations.AmendAndWithdrawAct := by
  unfold Obligations.AmendAndWithdrawAct
  refine ⟨fun s r mask x k n hasks hkind hbody hn hskip hlow hhigh hk => ⟨fun hstate => ?_, fun f hstate hfields =>
    ⟨fun hprotected => ?_, fun hopen hbit hunready => ?_, fun hopen hready hrunning hother => ?_⟩, fun hstate hunfit => ?_,
    fun f hstate hnow hfields hopen hready hunlisted hidle => ?_,
    fun f now w bd hstate hidle hnow hfields hopen hready hsearch hlater => ?_,
    fun f o hcarried hend hfollow hstate ho hfields hopen hready hsame hsized => ?_,
    fun o hmask hstate ho hexempt hwas hwindow hopen hsized => ?_, fun o fo hmask hstate ho hsuits hopen hflag => ?_,
    fun o e now l hmask hstate ho he hsuits hopen hnow hsized hpast hl => ?_,
    fun o e hmask hstate ho he hsuits hopen hnoTime => ?_,
    fun o e finish est hmask hstate ho he hsuits hopen hends hlater hset => ?_⟩,
    fun s r mask x hasks hkind hbody => ⟨fun hbit hskip => ?_, fun hskip hout => ?_, fun hskip hlow hhigh hnone => ?_⟩,
    fun s r n hasks hout => ?_, fun s r n k hasks hlow hhigh hk => ?_, fun s r n hasks hlow hhigh hnone => ?_⟩
  · subst hn
    rw [exec_amendWith hasks hkind hbody, amendWith_retiring hskip hlow hhigh hk hstate]
  · exact exec_amend_refused hasks hkind hbody hn hskip hlow hhigh hk hstate hfields (amendRefusal_protected hprotected)
  · exact exec_amend_refused hasks hkind hbody hn hskip hlow hhigh hk hstate hfields (amendRefusal_unready hopen hbit hunready)
  · exact exec_amend_refused hasks hkind hbody hn hskip hlow hhigh hk hstate hfields
      (amendRefusal_inUse hopen hready hrunning hother)
  · subst hn
    rw [exec_amendWith hasks hkind hbody, amendWith_unfit hskip hlow hhigh hk hstate hunfit]
  · rw [exec_amend_waiting hasks hkind hbody hn hskip hlow hhigh hk hfields hopen hready (by rw [hstate]; decide)
      (by rw [hstate]; decide) hidle, amendWaiting_holds hk hnow hunlisted]
  · obtain ⟨t, a, hta, hrest⟩ := amendWaiting_schedules (f := f) hk hnow hsearch hlater
    have hwaits : k.state ≠ .retiring ∧ k.state ≠ .running := by
      obtain h | h := hstate <;> rw [h] <;> decide
    refine ⟨t, a, ?_, hrest⟩
    rw [exec_amend_waiting hasks hkind hbody hn hskip hlow hhigh hk hfields hopen hready hwaits.1 hwaits.2 hidle, ← hta]
  · obtain ⟨t, a, hta, hrest⟩ := amendRunning_resolves (f := f) hk hstate ho hcarried hend hfollow hsized
    refine ⟨t, a, ?_, hrest⟩
    rw [exec_amend_running hasks hkind hbody hn hskip hlow hhigh hk hfields hopen hready hstate ho hsame, ← hta]
  · subst hmask
    obtain ⟨t, a, hta, hrest⟩ := amendRunning_lowers hk ho hwas hwindow hsized
    refine ⟨t, a, ?_, hrest⟩
    rw [exec_amend_running hasks hkind hbody hn hskip hlow hhigh hk (layFields_exempt hexempt) hopen (fun h => by cases h) hstate
      ho rfl, ← hta]
  · subst hmask
    obtain ⟨shadowed, hamended⟩ := amendRunning_follows hk hstate ho fo
    refine ⟨⟨.ok, ⟨shadowed, false, false, false⟩, .placed .running k.lastOutcome (s.blocks.upcoming? n)⟩, rfl, rfl, ?_⟩
    rw [exec_amend_running hasks hkind hbody hn hskip hlow hhigh hk (layFields_follow hsuits hflag) hopen (fun h => by cases h) hstate
      ho rfl, hamended]
    cases k.fields.follow with
    | none => cases fo <;> rfl
    | some old => cases fo <;> rfl
  · subst hmask
    have hocc := (active?_number ho : o.number = n)
    change l = leave o .cutShort (some now) (storeFields n { k.fields with finish := e } { s.blocks with lastFreed := none }) at hl
    have hended := leave_endedTold o .cutShort (some now)
      (storeFields n { k.fields with finish := e } { s.blocks with lastFreed := none })
    have hcut := amendRunning_cutsShort (o := o) hk hnow hpast
    subst hl
    rw [hocc] at hended
    refine ⟨(amendRunning 16 k { k.fields with finish := e } o { s.blocks with lastFreed := none }).2, ?_,
      amendRunning_status _ _ _ _ _, fun p hp => leave_active_ids o _ _ _ hp, cutShort_bookings hocc,
      fun z hz hin => cutShort_holdingOf hocc hsized hk hz hin, hended⟩
    rw [exec_amend_running hasks hkind hbody hn hskip hlow hhigh hk (layFields_end hsuits he) hopen (fun h => by cases h) hstate
      ho rfl]
    exact congrArg (fun t => Host.Outcome.next (replied s r t _)) hcut
  · subst hmask
    obtain ⟨shadowed, hamended⟩ := amendRunning_endStalls hk hstate ho hnoTime
    refine ⟨⟨.ok, ⟨shadowed, false, false, true⟩, .placed .running k.lastOutcome (s.blocks.upcoming? n)⟩, rfl, rfl, rfl, rfl, ?_⟩
    rw [exec_amend_running hasks hkind hbody hn hskip hlow hhigh hk (layFields_end hsuits he) hopen (fun h => by cases h) hstate
      ho rfl, hamended]
  · subst hmask
    obtain ⟨now, hnow⟩ := Option.ne_none_iff_exists'.1 hset
    obtain ⟨shadowed, hamended⟩ := amendRunning_movesEnd hk hstate ho hends hnow (hlater now hnow)
    refine ⟨⟨.ok, ⟨shadowed, false, est, false⟩, .placed .running k.lastOutcome (s.blocks.upcoming? n)⟩, ?_, rfl, rfl, rfl, rfl, rfl⟩
    rw [exec_amend_running hasks hkind hbody hn hskip hlow hhigh hk (layFields_end hsuits he) hopen (fun h => by cases h) hstate
      ho rfl, hamended]
  · rw [exec_amendWith hasks hkind hbody, amendWith_malformed hbit hskip]
  · rw [exec_amendWith hasks hkind hbody, amendWith_outside hskip hout]
  · rw [exec_amendWith hasks hkind hbody, amendWith_free hskip hlow hhigh hnone]
  · rw [exec_withdraw hasks, withdraw_outside hout]
  · obtain ⟨t, out, runs, hta, hrest⟩ := withdraw_leaves hlow hhigh hk
    refine ⟨t, out, runs, ?_, hrest⟩
    rw [exec_withdraw hasks, hta]
  · rw [exec_withdraw hasks, withdraw_free hlow hhigh hnone]

end Sys2Proof.Machine
